-- ==== Sys2Proof/Word.lean ====
section
/-! DEFINITION. The words of the HM362: a byte of a frame or record, and a node number.
Everything else the part computes with (weights, temperatures, watts, counts) is an exact `Int` or `Nat`,
as R195 and section 4.2 of 00_scope.md describe them. -/

namespace Sys2Proof

/-- One byte of a frame header, a payload or a request's arguments (R195). -/
abbrev Byte := BitVec 8

/-- A node number as the five-bit Source and Destination fields carry it (section 11.1): 0 to 30, and 31
for broadcast. -/
abbrev NodeId := BitVec 5

end Sys2Proof
end

