-- ==== Sys2Proof/Config.lean ====
section
/-! DEFINITION. What the HM362 fixes once for every part: pool and table sizes (R185), the fixed waits
and thresholds of the link (R169 to R179) and the fixed deadlines of the stations. The spec leaves no value
open to an implementation in a way that would need an opaque constant here; see notes/assumptions. -/

namespace Sys2Proof.Config

/-- Buffers of the transit pool (R155). -/
def transitBuffers : Nat := 48
/-- Buffers of the origination pool (R159). -/
def originationBuffers : Nat := 20
/-- Entries of the node table (R131). -/
def nodeEntries : Nat := 16
/-- Entries of the route table (R146). -/
def routeEntries : Nat := 24
/-- Slots of a station's step table (R7). -/
def stepSlots : Nat := 48
/-- Requests the request queue can hold (R182). -/
def requestDepth : Nat := 3
/-- MGMT_REPLY frames that may be held at once (R161). -/
def replyCap : Nat := 3
/-- STEP_REPORT frames that may be held at once (R161). -/
def stepReportCap : Nat := 4
/-- Largest payload of a frame (R195). -/
def maxPayload : Nat := 16

/-- The broadcast destination (section 4.4 of 00_scope.md). -/
def broadcast : NodeId := 31

/-- Interframe gap of every port, in bit times (R169). -/
def gapBits : Nat := 8
/-- Interframe gap of a PASSIVE port that was the last transmitter (R169). -/
def passiveGapBits : Nat := 16
/-- Accumulated idle time at which QUIET recovers, in bit times: 20 ms (R179). -/
def quietBits : Nat := 10000
/-- Good frames at which COUNT recovers (R179). -/
def countFrames : Nat := 64
/-- Bit times in a millisecond at 500 kbit/s (R168). -/
def bitsPerMs : Nat := 500
/-- Fault count at which a port is PASSIVE (R176). -/
def passiveCount : Nat := 96
/-- TX count above which a port is ISOLATED (R176). -/
def isolationCount : Nat := 200
/-- Largest TX count (R174). -/
def txMax : Nat := 255
/-- Largest RX count, at which it freezes (R175). -/
def rxMax : Nat := 127

/-- LOCKING phase deadline, ms (R28). -/
def lockingMs : Nat := 3000
/-- BASING phase deadline, ms (R29). -/
def basingMs : Nat := 5000
/-- Tare deadline, ms (R75). -/
def tareMs : Nat := 3000
/-- Deadline of a zero capture or calibration, ms (R79, R81). -/
def captureMs : Nat := 10000
/-- Spin-down wait, ms (R126). -/
def spinDownMs : Nat := 5000
/-- Samples of a zero capture or calibration (R80, R82). -/
def captureSamples : Nat := 16
/-- Gross weights the ring holds at most (R64). -/
def ringMax : Nat := 32
/-- Ring values the settle test looks at (R66). -/
def settleSpan : Nat := 8
/-- Bound of the gross weight, dg (R63). -/
def grossMax : Int := 400000
/-- Largest elapsed time and effective limit, 0.1 s (R31). -/
def elapsedMax : Nat := 655350
/-- Where the warming elapsed time stops, s (R39). -/
def warmingMax : Nat := 14400
/-- Largest gain (R57). -/
def gainMax : Int := 4194303
/-- Upper bound of the 32-bit counters (R166). -/
def counterMax : Nat := 4294967295
/-- Upper bound of a node's age, in 10 ms (R131). -/
def ageMax : Nat := 65535

end Sys2Proof.Config
end

