-- ==== Sys2Proof/Syntax.lean ====
section
/-! DEFINITION. The commands of the HM362: one constructor of `Instr` for each row of
spec/opcode_table.json, with what the outside world supplies when the command happens. Frames come as the
link carries them (R195, R196); management requests come as the request queue holds them (R182). -/

namespace Sys2Proof

/-- The two ports (section 4.4 of 00_scope.md). -/
inductive Port where
  | control
  | appliance
deriving DecidableEq, Repr

/-- The two stations (section 4.4 of 00_scope.md). -/
inductive StationId where
  | zero
  | one
deriving DecidableEq, Repr

/-- A frame received or sent whole with a good check: the header of section 11.1 and the payload. Its Length
byte is the payload's length and its check bytes are computed (R196). The three upper bits of header bytes 1
and 2 are kept because a forwarded frame keeps them (R196). -/
structure Frame where
  priority : BitVec 3
  kind : BitVec 5
  sourceHigh : BitVec 3
  source : NodeId
  destHigh : BitVec 3
  dest : NodeId
  payload : List Byte
deriving DecidableEq, Repr

/-- One entry of the request queue (R182): the code, the tag, the arguments and the requester. -/
structure Request where
  code : Byte
  tag : Byte
  requester : NodeId
  args : List Byte
deriving DecidableEq, Repr

/-- What a receiver may detect (R172), or another node's dominant mark (R173). The mark is read in the end mark, after the
acknowledgment window, or before it. -/
inductive RxError where
  | code
  | form
  | length
  | check
  | mark (inEndMark : Bool)
deriving DecidableEq, Repr

/-- What a transmitter may detect (R172). -/
inductive TxError where
  | bit
  | noAck
deriving DecidableEq, Repr

/-- The triple that arbitration compares (R170). -/
structure ArbKey where
  priority : BitVec 3
  kind : BitVec 5
  source : NodeId
deriving DecidableEq, Repr

/-- The commands and events of the part, one constructor for each row of the table.

The link events name their port. TRANSMISSION_START carries the recessive bit times the port has read since
the last frame (R169) and LOST_ARBITRATION the triple of the frame that won (R170). AGING_REMOVAL and
NODE_BECOMES_SILENT carry the index of the node table entry. A management request carries its requester,
its tag and its argument bytes. -/
inductive Instr where
  | powerOnReset (straps : BitVec 2)
  | frameArrival (port : Port) (frame : Frame)
  | receiveError (port : Port) (error : RxError)
  | transmissionStart (port : Port) (gap : Nat)
  | lostArbitration (port : Port) (winner : ArbKey)
  | wonArbitration (port : Port)
  | transmissionCompleted (port : Port)
  | transmitError (port : Port) (error : TxError)
  | joinWaitEnd (port : Port)
  | portRecovery (port : Port)
  | stepTimerExpiry (station : StationId)
  | reversal (station : StationId)
  | lockingDeadlineExpiry (station : StationId)
  | basingDeadlineExpiry (station : StationId)
  | warmingLimitExpiry (station : StationId)
  | tareDeadlineExpiry (station : StationId)
  | zeroCalibrateDeadlineExpiry (station : StationId)
  | speedHoldExpiry (station : StationId)
  | heatHoldExpiry (station : StationId)
  | spinDownExpiry (station : StationId)
  | refreshExpiry (station : StationId)
  | reportTimerExpiry (station : StationId)
  | agingRemoval (index : Nat)
  | nodeBecomesSilent (index : Nat)
  | identify (requester : NodeId) (tag : Byte) (args : List Byte)
  | restart (requester : NodeId) (tag : Byte) (args : List Byte)
  | routeWrite (requester : NodeId) (tag : Byte) (args : List Byte)
  | routeRead (requester : NodeId) (tag : Byte) (args : List Byte)
  | routeDefaultWrite (requester : NodeId) (tag : Byte) (args : List Byte)
  | routeDefaultRead (requester : NodeId) (tag : Byte) (args : List Byte)
  | portConfigWrite (requester : NodeId) (tag : Byte) (args : List Byte)
  | portConfigRead (requester : NodeId) (tag : Byte) (args : List Byte)
  | portStatus (requester : NodeId) (tag : Byte) (args : List Byte)
  | portRestart (requester : NodeId) (tag : Byte) (args : List Byte)
  | nodeWrite (requester : NodeId) (tag : Byte) (args : List Byte)
  | nodeDelete (requester : NodeId) (tag : Byte) (args : List Byte)
  | nodeRead (requester : NodeId) (tag : Byte) (args : List Byte)
  | nodeFlush (requester : NodeId) (tag : Byte) (args : List Byte)
  | stationBind (requester : NodeId) (tag : Byte) (args : List Byte)
  | stationLimitsWrite (requester : NodeId) (tag : Byte) (args : List Byte)
  | stationLimitsRead (requester : NodeId) (tag : Byte) (args : List Byte)
  | weighConfigWrite (requester : NodeId) (tag : Byte) (args : List Byte)
  | weighConfigRead (requester : NodeId) (tag : Byte) (args : List Byte)
  | heatConfigWrite (requester : NodeId) (tag : Byte) (args : List Byte)
  | heatConfigRead (requester : NodeId) (tag : Byte) (args : List Byte)
  | budgetSetWrite (requester : NodeId) (tag : Byte) (args : List Byte)
  | budgetSetRead (requester : NodeId) (tag : Byte) (args : List Byte)
  | lock (requester : NodeId) (tag : Byte) (args : List Byte)
  | unlock (requester : NodeId) (tag : Byte) (args : List Byte)
  | stepWrite (requester : NodeId) (tag : Byte) (args : List Byte)
  | stepRead (requester : NodeId) (tag : Byte) (args : List Byte)
  | recipeLength (requester : NodeId) (tag : Byte) (args : List Byte)
  | recipeClear (requester : NodeId) (tag : Byte) (args : List Byte)
  | start (requester : NodeId) (tag : Byte) (args : List Byte)
  | pause (requester : NodeId) (tag : Byte) (args : List Byte)
  | resume (requester : NodeId) (tag : Byte) (args : List Byte)
  | stop (requester : NodeId) (tag : Byte) (args : List Byte)
  | skip (requester : NodeId) (tag : Byte) (args : List Byte)
  | confirm (requester : NodeId) (tag : Byte) (args : List Byte)
  | adjust (requester : NodeId) (tag : Byte) (args : List Byte)
  | clearFault (requester : NodeId) (tag : Byte) (args : List Byte)
  | tare (requester : NodeId) (tag : Byte) (args : List Byte)
  | zero (requester : NodeId) (tag : Byte) (args : List Byte)
  | calibrate (requester : NodeId) (tag : Byte) (args : List Byte)
  | statusRead (requester : NodeId) (tag : Byte) (args : List Byte)
  | noticeEnable (requester : NodeId) (tag : Byte) (args : List Byte)
  | noticeClear (requester : NodeId) (tag : Byte) (args : List Byte)
  | noticeRead (requester : NodeId) (tag : Byte) (args : List Byte)
  | countersRead (requester : NodeId) (tag : Byte) (args : List Byte)
  | reportConfigWrite (requester : NodeId) (tag : Byte) (args : List Byte)
  | reportConfigRead (requester : NodeId) (tag : Byte) (args : List Byte)
  | unknownRequestCode (code : Byte) (requester : NodeId) (tag : Byte) (args : List Byte)
  | resetAsserted
  | startMarkReceived (port : Port)
deriving DecidableEq, Repr

/-- The known request codes of section 11.4. -/
def knownCodes : List Byte :=
  [0x01, 0x02, 0x10, 0x11, 0x12, 0x13, 0x14, 0x15, 0x18, 0x19, 0x1A, 0x20, 0x21, 0x22, 0x23, 0x24] ++
  [0x28, 0x29, 0x2A, 0x2B, 0x2C, 0x2D, 0x30, 0x31, 0x32, 0x33, 0x34, 0x35, 0x36, 0x37, 0x38, 0x39, 0x3A] ++
  [0x40, 0x41, 0x42, 0x43, 0x44, 0x45]

end Sys2Proof
end

