-- ==== Sys2Proof/WellFormed.lean ====
section
/-! DEFINITION. Which commands are well formed: what the link, the node table and section 11.4 can hand the
part. A meaning is total on ill-formed commands too; these checks say which of them the outside can send. -/

namespace Sys2Proof

/-- A management request as its row carries it, with the argument length that belongs to the OTHER row of the
same code, where section 11.4 gives the code two forms. -/
structure RequestShape where
  request : Request
  otherForm : Option Nat
deriving DecidableEq, Repr

/-- The request a management row stands for (the code column of section 11.4); `none` for the events. -/
def Instr.shape : Instr → Option RequestShape
  | .identify q t a => some ⟨⟨0x01, t, q, a⟩, none⟩
  | .restart q t a => some ⟨⟨0x02, t, q, a⟩, none⟩
  | .routeWrite q t a => some ⟨⟨0x10, t, q, a⟩, none⟩
  | .routeRead q t a => some ⟨⟨0x11, t, q, a⟩, none⟩
  | .routeDefaultWrite q t a => some ⟨⟨0x12, t, q, a⟩, some 0⟩
  | .routeDefaultRead q t a => some ⟨⟨0x12, t, q, a⟩, some 1⟩
  | .portConfigWrite q t a => some ⟨⟨0x13, t, q, a⟩, some 2⟩
  | .portConfigRead q t a => some ⟨⟨0x13, t, q, a⟩, some 4⟩
  | .portStatus q t a => some ⟨⟨0x14, t, q, a⟩, none⟩
  | .portRestart q t a => some ⟨⟨0x15, t, q, a⟩, none⟩
  | .nodeWrite q t a => some ⟨⟨0x18, t, q, a⟩, some 1⟩
  | .nodeDelete q t a => some ⟨⟨0x18, t, q, a⟩, some 4⟩
  | .nodeRead q t a => some ⟨⟨0x19, t, q, a⟩, none⟩
  | .nodeFlush q t a => some ⟨⟨0x1A, t, q, a⟩, none⟩
  | .stationBind q t a => some ⟨⟨0x20, t, q, a⟩, none⟩
  | .stationLimitsWrite q t a => some ⟨⟨0x21, t, q, a⟩, some 2⟩
  | .stationLimitsRead q t a => some ⟨⟨0x21, t, q, a⟩, some 4⟩
  | .weighConfigWrite q t a => some ⟨⟨0x22, t, q, a⟩, some 2⟩
  | .weighConfigRead q t a => some ⟨⟨0x22, t, q, a⟩, some 6⟩
  | .heatConfigWrite q t a => some ⟨⟨0x23, t, q, a⟩, some 2⟩
  | .heatConfigRead q t a => some ⟨⟨0x23, t, q, a⟩, some 3⟩
  | .budgetSetWrite q t a => some ⟨⟨0x24, t, q, a⟩, some 0⟩
  | .budgetSetRead q t a => some ⟨⟨0x24, t, q, a⟩, some 2⟩
  | .lock q t a => some ⟨⟨0x28, t, q, a⟩, none⟩
  | .unlock q t a => some ⟨⟨0x29, t, q, a⟩, none⟩
  | .stepWrite q t a => some ⟨⟨0x2A, t, q, a⟩, none⟩
  | .stepRead q t a => some ⟨⟨0x2B, t, q, a⟩, none⟩
  | .recipeLength q t a => some ⟨⟨0x2C, t, q, a⟩, none⟩
  | .recipeClear q t a => some ⟨⟨0x2D, t, q, a⟩, none⟩
  | .start q t a => some ⟨⟨0x30, t, q, a⟩, none⟩
  | .pause q t a => some ⟨⟨0x31, t, q, a⟩, none⟩
  | .resume q t a => some ⟨⟨0x32, t, q, a⟩, none⟩
  | .stop q t a => some ⟨⟨0x33, t, q, a⟩, none⟩
  | .skip q t a => some ⟨⟨0x34, t, q, a⟩, none⟩
  | .confirm q t a => some ⟨⟨0x35, t, q, a⟩, none⟩
  | .adjust q t a => some ⟨⟨0x36, t, q, a⟩, none⟩
  | .clearFault q t a => some ⟨⟨0x37, t, q, a⟩, none⟩
  | .tare q t a => some ⟨⟨0x38, t, q, a⟩, none⟩
  | .zero q t a => some ⟨⟨0x39, t, q, a⟩, none⟩
  | .calibrate q t a => some ⟨⟨0x3A, t, q, a⟩, none⟩
  | .statusRead q t a => some ⟨⟨0x40, t, q, a⟩, none⟩
  | .noticeEnable q t a => some ⟨⟨0x41, t, q, a⟩, none⟩
  | .noticeClear q t a => some ⟨⟨0x42, t, q, a⟩, none⟩
  | .noticeRead q t a => some ⟨⟨0x43, t, q, a⟩, none⟩
  | .countersRead q t a => some ⟨⟨0x44, t, q, a⟩, none⟩
  | .reportConfigWrite q t a => some ⟨⟨0x45, t, q, a⟩, some 1⟩
  | .reportConfigRead q t a => some ⟨⟨0x45, t, q, a⟩, some 3⟩
  | .unknownRequestCode c q t a => some ⟨⟨c, t, q, a⟩, none⟩
  | .powerOnReset _ => none
  | .frameArrival _ _ => none
  | .receiveError _ _ => none
  | .transmissionStart _ _ => none
  | .lostArbitration _ _ => none
  | .transmitError _ _ => none
  | .agingRemoval _ => none
  | .nodeBecomesSilent _ => none
  | .resetAsserted => none
  | .joinWaitEnd _ => none
  | .portRecovery _ => none
  | .wonArbitration _ => none
  | .transmissionCompleted _ => none
  | .startMarkReceived _ => none
  | .stepTimerExpiry _ => none
  | .reversal _ => none
  | .lockingDeadlineExpiry _ => none
  | .basingDeadlineExpiry _ => none
  | .warmingLimitExpiry _ => none
  | .tareDeadlineExpiry _ => none
  | .zeroCalibrateDeadlineExpiry _ => none
  | .speedHoldExpiry _ => none
  | .heatHoldExpiry _ => none
  | .spinDownExpiry _ => none
  | .refreshExpiry _ => none
  | .reportTimerExpiry _ => none

/-- A frame of the link carries 0 to 16 payload bytes (R195, R196). -/
def Frame.wellFormed (f : Frame) : Bool := f.payload.length ≤ Config.maxPayload

/-- A request comes from a node that may send (not 31, R133), carries at most 14 argument bytes (section 11.2)
and is not of the other form of its code. -/
def RequestShape.wellFormed (r : RequestShape) : Bool :=
  r.request.requester ≠ Config.broadcast && r.request.args.length ≤ 14 &&
  r.otherForm ≠ some r.request.args.length

/-- The well-formed commands. -/
def Instr.wellFormed (i : Instr) : Bool :=
  match i.shape with
  | some r =>
    r.wellFormed &&
    (match i with
      | .unknownRequestCode c _ _ _ => !knownCodes.contains c
      | _ => true)
  | none =>
    match i with
    | .frameArrival _ f => f.wellFormed
    | .agingRemoval k => k < Config.nodeEntries
    | .nodeBecomesSilent k => k < Config.nodeEntries
    | _ => true

end Sys2Proof
end

