-- ==== Sys2Proof/Decode.lean ====
section
/-! DEFINITION. The reading of a table word. Every row of spec/opcode_table.json has an empty list of fields and
no fixed bits: the table spells no command by bits, so no word is a command. How the part reads the bytes of a
frame, a record and a request's arguments is in Sys2Proof/Machine/Layout.lean and Operands.lean. -/

namespace Sys2Proof

/-- The command a word of the table's bits spells: none, because the table gives no row any bits. -/
def decodeTableWord (_nbits _w : Nat) : Option Instr := none

end Sys2Proof
end

