-- ==== Sys2Proof/Machine/Arith.lean ====
section
/-! DEFINITION. The arithmetic conventions of 00_scope.md section 4.2 and the little-endian fields of R195. -/

namespace Sys2Proof.Machine

open Sys2Proof

/-- Division by a positive `d` rounded to the nearest integer, ties away from zero (section 4.2 of 00_scope.md). -/
def roundDiv (x d : Int) : Int :=
  if 0 ≤ x then (2 * x + d) / (2 * d) else -((2 * (-x) + d) / (2 * d))

/-- Division truncated toward zero (section 4.2 of 00_scope.md). -/
def truncDiv (x d : Int) : Int := Int.tdiv x d

/-- `x` clamped to `lo..hi` (section 4.2 of 00_scope.md). -/
def clampInt (lo hi x : Int) : Int := if x < lo then lo else if hi < x then hi else x

/-- A saturating count (section 4.2 of 00_scope.md). -/
def satInc (bound n : Nat) : Nat := if n < bound then n + 1 else n

/-! ### Little-endian fields (R195) -/

/-- An unsigned 16-bit field. -/
def u16 (lo hi : Byte) : Nat := lo.toNat + 256 * hi.toNat

/-- An unsigned 24-bit field. -/
def u24 (b0 b1 b2 : Byte) : Nat := b0.toNat + 256 * b1.toNat + 65536 * b2.toNat

/-- A signed 16-bit field, two's complement. -/
def s16 (lo hi : Byte) : Int := (hi ++ lo).toInt

/-- A signed 24-bit field, sign-extended from bit 7 of its third byte (R197). -/
def s24 (b0 b1 b2 : Byte) : Int := (b2 ++ b1 ++ b0).toInt

/-- A signed 32-bit field. -/
def s32 (b0 b1 b2 b3 : Byte) : Int := (b3 ++ b2 ++ b1 ++ b0).toInt

/-- The low byte of a number. -/
def byteOf (x : Nat) : Byte := BitVec.ofNat 8 x

/-- The bytes of an unsigned 16-bit field. -/
def putU16 (x : Nat) : List Byte := [byteOf x, byteOf (x / 256)]

/-- The bytes of an unsigned 24-bit field. -/
def putU24 (x : Nat) : List Byte := [byteOf x, byteOf (x / 256), byteOf (x / 65536)]

/-- The bytes of an unsigned 32-bit field. -/
def putU32 (x : Nat) : List Byte := [byteOf x, byteOf (x / 256), byteOf (x / 65536), byteOf (x / 16777216)]

/-- The bytes of a signed 16-bit field. -/
def putS16 (x : Int) : List Byte := [BitVec.ofInt 8 x, BitVec.ofInt 8 (x / 256)]

/-- The bytes of a signed 24-bit field. -/
def putS24 (x : Int) : List Byte := [BitVec.ofInt 8 x, BitVec.ofInt 8 (x / 256), BitVec.ofInt 8 (x / 65536)]

/-- The bytes of a signed 32-bit field. -/
def putS32 (x : Int) : List Byte :=
  [BitVec.ofInt 8 x, BitVec.ofInt 8 (x / 256), BitVec.ofInt 8 (x / 65536), BitVec.ofInt 8 (x / 16777216)]

/-- The bytes of a row of sixteen bits, bit 0 lowest (section 11.2). -/
def putBits (b : BitVec 16) : List Byte := putU16 b.toNat

/-- A byte whose bits 0, 1, … are the given flags (sections 11.2 and 11.5). -/
def flagByte : List Bool → Byte
  | [] => 0
  | b :: rest => (if b then 1 else 0) + 2 * flagByte rest

end Sys2Proof.Machine
end

