-- ==== Sys2Proof/Machine/State.lean ====
section
/-! DEFINITION. The state of the HM362 as plain data: every block of 00_scope.md section 2 with every field its
chapter gives it, the queue of waiting commands, and the state right after power-on reset. Fields that an event
of the spec cannot name, but that time needs between two ticks, are marked as the model's own. -/

namespace Sys2Proof.Machine

open Sys2Proof

/-! ### Codes -/

/-- Stir direction (R24). -/
inductive Direction where
  | fwd
  | rev
deriving DecidableEq, Repr

/-- Direction mode of a step (Table 1-1, No. 2). -/
inductive DirMode where
  | fwd
  | rev
  | alt
deriving DecidableEq, Repr

/-- The five roles of a station, in check order (section 1.4). -/
inductive Role where
  | drive
  | heater
  | weigh
  | thermo
  | lid
deriving DecidableEq, Repr

/-- The states of a station (R24). -/
inductive RunState where
  | idle
  | running
  | paused
  | warming
  | fault
deriving DecidableEq, Repr

/-- The phases of a running step (R24). -/
inductive Phase where
  | locking
  | basing
  | active
deriving DecidableEq, Repr

/-- Why a station is PAUSED (R26). -/
inductive PauseReason where
  | request
  | lid
deriving DecidableEq, Repr

/-- How a step ended (R26). -/
inductive StepOutcome where
  | time
  | weight
  | temp
  | confirm
  | limit
  | skipped
  | stopped
  | faulted
deriving DecidableEq, Repr

/-- The ten fault causes (R26, R51). -/
inductive FaultCause where
  | link
  | driveSilent
  | heaterSilent
  | weighSilent
  | thermoSilent
  | driveFault
  | heaterFault
  | thermoSensor
  | overtemp
  | lidLock
deriving DecidableEq, Repr

/-- The command of a lid latch (section 11.2). -/
inductive LidCmd where
  | lock
  | unlock
deriving DecidableEq, Repr

/-- The operation field of the weigh context (R74). -/
inductive WeighOp where
  | none
  | taring
  | zeroing
  | calibrating
deriving DecidableEq, Repr

/-- How a weighing operation ended (R74). -/
inductive OpOutcome where
  | done
  | unstable
  | superseded
  | stale
  | failedRange
  | interrupted
deriving DecidableEq, Repr

/-- Health states of a port (R176). -/
inductive Health where
  | joining
  | active
  | passive
  | isolated
deriving DecidableEq, Repr

/-- The level of an error mark (R168, R173). -/
inductive Level where
  | dominant
  | recessive
deriving DecidableEq, Repr

/-- Admission modes (R137). -/
inductive Admission where
  | opened
  | guarded
  | closed
deriving DecidableEq, Repr

/-- Recovery modes (R179). -/
inductive Recovery where
  | quiet
  | count
deriving DecidableEq, Repr

/-- Origin of a node table entry (section 7.1). -/
inductive NodeOrigin where
  | static
  | learned
deriving DecidableEq, Repr

/-- Arrival port field of a route entry (section 8.1). -/
inductive ArrivalMatch where
  | control
  | appliance
  | either
deriving DecidableEq, Repr

/-- Route actions (section 8.1). -/
inductive RouteAction where
  | forward
  | drop
  | take
  | takeAndForward
  | guard
deriving DecidableEq, Repr

/-- Class queues (R162). -/
inductive QClass where
  | urgent
  | control
  | bulk
deriving DecidableEq, Repr

/-- Class field of a route entry (section 8.1). -/
inductive RouteClass where
  | fixed (c : QClass)
  | byPriority
deriving DecidableEq, Repr

/-! ### Recipe tables (chapter 1) -/

/-- One step record (Table 1-1). -/
structure StepRecord where
  speed : Nat := 0
  mode : DirMode := .fwd
  lock : Bool := false
  keepWarm : Bool := false
  reversal : Nat := 0
  heat : Nat := 0
  dose : Nat := 0
  duration : Nat := 0
  endTime : Bool := false
  endWeight : Bool := false
  endTemp : Bool := false
  endConfirm : Bool := false
  loopCount : Nat := 0
  loopTarget : Nat := 0
deriving DecidableEq, Repr

/-- The node bound to each role, or none (section 1.4); all none after reset (R17). -/
structure Binding where
  drive : Option NodeId := none
  heater : Option NodeId := none
  weigh : Option NodeId := none
  thermo : Option NodeId := none
  lid : Option NodeId := none
deriving DecidableEq, Repr

/-- The ten station limits with the defaults of section 1.5 (R19). -/
structure Limits where
  maxSpeed : Nat := 10000
  hotTemp : Nat := 600
  hotSpeed : Nat := 600
  openSpeed : Nat := 0
  pmax : Nat := 1200
  overtemp : Nat := 2100
  keepWarmTemp : Nat := 650
  keepWarmLimit : Nat := 1800
  refresh : Nat := 100
  manualHold : Nat := 2000
deriving DecidableEq, Repr

/-! ### The station context (R24) -/

/-- Step flags (R24). -/
structure StepFlags where
  baseUnsettled : Bool := false
  adjusted : Bool := false
  paused : Bool := false
deriving DecidableEq, Repr

/-- The step report (R56). -/
structure StepReport where
  step : Nat
  outcome : StepOutcome
  elapsed : Nat
  net : Int
  added : Option Int
  bowl : Option Int
  flags : StepFlags
  stale : Bool
deriving DecidableEq, Repr

/-- The run fields of the station context (R24), each at its After reset value. `tenthMs` and `warmMs` are the
model's own: the milliseconds counted toward the next tenth of elapsed time and the next second of warming. -/
structure RunContext where
  state : RunState := .idle
  phase : Option Phase := none
  savedPhase : Option Phase := none
  phaseAfterLock : Option Phase := none
  pauseReason : Option PauseReason := none
  step : Option Nat := none
  loopCounter : Nat := 0
  elapsed : Nat := 0
  effLimit : Option Nat := none
  extension : Nat := 0
  reversal : Option Direction := none
  doseBase : Option Int := none
  speedOverride : Option Nat := none
  tempOverride : Option Int := none
  deadline : Option Nat := none
  flags : StepFlags := {}
  warmingElapsed : Nat := 0
  warmingLimit : Option Nat := none
  faultCause : Option FaultCause := none
  furtherFaults : Nat := 0
  more : Bool := false
  lastReport : Option StepReport := none
  tenthMs : Nat := 0
  warmMs : Nat := 0
deriving DecidableEq, Repr

/-- A DRIVE_STATE as it was taken (R124). -/
structure DriveReport where
  speed : Nat
  draw : Nat
  fault : Bool
deriving DecidableEq, Repr

/-- A LID_STATE as it was taken (R125). -/
structure LidReport where
  closed : Bool
  locked : Bool
deriving DecidableEq, Repr

/-- A HEAT_STATE as it was taken (R92). -/
structure HeatReport where
  power : Nat
  fault : Bool
deriving DecidableEq, Repr

/-- The manual demands, the commanded speed and direction, the pending unlock (R24) and the drive and lid fields
of R114, each at its After reset value. -/
structure DriveContext where
  manualSpeed : Nat := 0
  manualDir : Direction := .fwd
  speedHold : Option Nat := none
  manualHeat : Nat := 0
  heatHold : Option Nat := none
  manualLid : Option LidCmd := none
  commanded : Nat := 0
  commandedDir : Direction := .fwd
  pendingUnlock : Bool := false
  envelope : Nat := 0
  requested : Nat := 0
  requestedDir : Direction := .fwd
  clamped : Bool := false
  report : Option DriveReport := none
  spinDown : Option Nat := none
  spinDownElapsed : Bool := false
  lidReport : Option LidReport := none
  lidCommand : Option LidCmd := none
  refreshTimer : Nat := 100
deriving DecidableEq, Repr

/-! ### Weighing and heating -/

/-- The kept items of the weigh context (R57, R58). -/
structure WeighConfig where
  zero0 : Int := 0
  zero1 : Int := 0
  zero2 : Int := 0
  zero3 : Int := 0
  gain : Int := 1000
  cap : Int := 100000
  still : Nat := 4
  stir : Nat := 16
  band : Int := 5
  doseTol : Int := 20
deriving DecidableEq, Repr

/-- The working part of the weigh context (R57). -/
structure WeighContext where
  tare : Int := 0
  ring : List Int := []
  lastSeq : Option Byte := none
  filtered : Int := 0
  net : Int := 0
  settled : Bool := false
  overload : Bool := false
  stale : Bool := false
  op : WeighOp := .none
  accCount : Nat := 0
  sum0 : Int := 0
  sum1 : Int := 0
  sum2 : Int := 0
  sum3 : Int := 0
  sumS : Int := 0
  refMass : Option Int := none
  opDeadline : Option Nat := none
  lastTare : Option OpOutcome := none
  lastZero : Option OpOutcome := none
  lastCal : Option OpOutcome := none
deriving DecidableEq, Repr

/-- The kept items of the heat context (R87, R88). -/
structure HeatConfig where
  kp : Nat := 64
  ki : Nat := 16
  reachBand : Nat := 20
deriving DecidableEq, Repr

/-- The rebuilt part of the heat context (R87). -/
structure HeatContext where
  integral : Nat := 0
  demand : Nat := 0
  bowl : Option Int := none
  sensorFault : Option Bool := none
  reached : Bool := false
  report : Option HeatReport := none
  samples : Nat := 0
deriving DecidableEq, Repr

/-- Everything that belongs to one station (00_scope.md section 2). The five counters stand in the order of
R192: clamps, OWNED, REPORT_LOST, sample gaps, duplicates. -/
structure Station where
  steps : Vector (Option StepRecord) 48 := Vector.replicate 48 none
  recipeLength : Nat := 0
  lockHolder : Option NodeId := none
  binding : Binding := {}
  limits : Limits := {}
  run : RunContext := {}
  drive : DriveContext := {}
  weighCfg : WeighConfig := {}
  weigh : WeighContext := {}
  heatCfg : HeatConfig := {}
  heat : HeatContext := {}
  reportInterval : Nat := 200
  reportTimer : Option Nat := some 200
  counters : Vector Nat 5 := Vector.replicate 5 0
deriving DecidableEq, Repr

/-! ### The power arbiter (R104) -/

/-- What the arbiter holds for one station (R104). -/
structure ArbiterSide where
  draw : Nat := 0
  counted : Nat := 0
  share : Nat := 1400
  grant : Nat := 0
  lastSent : Option Nat := none
deriving DecidableEq, Repr

/-- The power arbiter (R104). -/
structure Arbiter where
  budget : Nat := 2800
  available : Nat := 2800
  side0 : ArbiterSide := {}
  side1 : ArbiterSide := {}
deriving DecidableEq, Repr

/-! ### Nodes and routes -/

/-- A filled entry of the node table (section 7.1). Age counts in 10 ms, the silence limit in ms. -/
structure NodeEntry where
  number : NodeId
  port : Port
  origin : NodeOrigin
  age : Nat
  limit : Nat
  silent : Bool
deriving DecidableEq, Repr

/-- A row of the route table (section 8.1). -/
structure RouteEntry where
  enable : Bool := false
  arrival : ArrivalMatch := .control
  kindValue : BitVec 5 := 0
  kindMask : BitVec 5 := 0
  sourceValue : BitVec 5 := 0
  sourceMask : BitVec 5 := 0
  destValue : BitVec 5 := 0
  destMask : BitVec 5 := 0
  action : RouteAction := .forward
  cls : RouteClass := .fixed .urgent
deriving DecidableEq, Repr

/-! ### Ports and queues -/

/-- The kinds of frame the part originates (R158), with their station where they have one. -/
inductive OwnKind where
  | lidSet (n : StationId)
  | speedSet (n : StationId)
  | heatSet (n : StationId)
  | reply
  | notice
  | stepReport (n : StationId)
  | weightReport (n : StationId)
deriving DecidableEq, Repr

/-- Whose buffer a queued frame holds: a transit buffer counted to its arrival port (R155) or a buffer of the
origination pool (R159). -/
inductive FrameOrigin where
  | transit (arrival : Port)
  | own (kind : OwnKind)
deriving DecidableEq, Repr

/-- A frame in a class queue or in a transmit engine (R162). -/
structure Queued where
  frame : Frame
  origin : FrameOrigin
  cls : QClass
deriving DecidableEq, Repr

/-- What a port is doing on its link: neither, receiving (R169), contending for the link with a chosen frame
(R170), or transmitting the frame that won (R164). -/
inductive Activity where
  | idle
  | receiving
  | contending (q : Queued)
  | transmitting (q : Queued)
deriving DecidableEq, Repr

/-- The kept items of PORT_CONFIG for one port (R137, R157, R179). -/
structure PortConfig where
  admission : Admission := .opened
  learnLimit : Nat := 0
  high : Nat := 28
  low : Nat := 20
  wc : Nat := 4
  wb : Nat := 1
  recovery : Recovery := .quiet
deriving DecidableEq, Repr

/-- One link port with its class queues, credits and counters (R162, R163, R166, R174 to R179). The seventeen
counters stand in the order of R192. `wasTransmitter` says whether the port sent the last frame (R169),
`errorMark` is the mark it sent after that frame (R173) and `acknowledged` whether it drove the acknowledgment
window of the last frame it received (R171). `voided` says that the last frame was voided and no start mark has come since:
of that frame the port detects nothing more (R172, R173). `creditSpent` says that the frame in transmission spent a credit
when it won (R163), which a PORT_RESTART gives back (R180). -/
structure PortState where
  cfg : PortConfig := {}
  health : Health := .joining
  tx : Nat := 0
  rx : Nat := 0
  idleBits : Nat := 0
  goodFrames : Nat := 0
  activity : Activity := .idle
  wasTransmitter : Bool := false
  errorMark : Option Level := none
  acknowledged : Bool := false
  voided : Bool := false
  urgent : List Queued := []
  control : List Queued := []
  bulk : List Queued := []
  creditControl : Nat := 4
  creditBulk : Nat := 1
  creditSpent : Bool := false
  dropMode : Bool := false
  counters : Vector Nat 17 := Vector.replicate 17 0
deriving DecidableEq, Repr

/-! ### Management -/

/-- The notice set, its enables and the newly set accumulator (R187). -/
structure Notices where
  bits : BitVec 16 := 0
  enables : BitVec 16 := 0xFFFF
  accumulator : BitVec 16 := 0
deriving DecidableEq, Repr

/-- A snapshot record (R186): its number and, unless it is empty, the copy of the page as section 11.5 lays it
out, one list of bytes for each section. -/
structure Snapshot where
  number : Nat := 0
  page : Option (List (List Byte)) := none
deriving DecidableEq, Repr

/-! ### The whole part -/

/-- The HM362. `pending` is the queue of waiting commands and `ageMs` counts milliseconds toward the next 10 ms of
node age; both are the model's own. `inReset` holds while the reset pin is asserted (R194). -/
structure State where
  pending : List Instr := []
  inReset : Bool := false
  ownNode : NodeId := 27
  station0 : Station := {}
  station1 : Station := {}
  arbiter : Arbiter := {}
  nodes : Vector (Option NodeEntry) 16 := Vector.replicate 16 none
  ageLimit : Nat := 60
  routes : Vector RouteEntry 24 := Vector.replicate 24 {}
  defaultForward : Bool := true
  control : PortState := {}
  appliance : PortState := {}
  requests : List Request := []
  notices : Notices := {}
  snapshots : Vector Snapshot 3 := Vector.replicate 3 {}
  ageMs : Nat := 0
deriving DecidableEq, Repr

/-- Why the machine stops with a fault: the block never does. Every error the spec names is a state the part goes
on from (a counter, a health state, a station in FAULT), so no constructor is needed. -/
inductive Fault where
deriving DecidableEq, Repr

/-- Why a command has no meaning. -/
inductive Refusal where
  /-- Raised by `exec` for a row whose meaning is not written yet; safe, because the machine stops. -/
  | notModelled (mnemonic : String)
deriving DecidableEq, Repr

/-! ### After power-on reset -/

/-- The preset contents of the route table for the part's own number (R146). -/
def presetRoutes (own : NodeId) : List RouteEntry :=
  [{ enable := true, arrival := .control, kindValue := 16, kindMask := 31, destValue := own, destMask := 31,
     action := .take, cls := .byPriority },
   { enable := true, arrival := .appliance, kindValue := 16, kindMask := 31, destValue := own, destMask := 31,
     action := .drop, cls := .byPriority },
   { enable := true, arrival := .appliance, kindValue := 12, kindMask := 31, action := .take, cls := .byPriority },
   { enable := true, arrival := .appliance, kindValue := 13, kindMask := 31, action := .take, cls := .byPriority },
   { enable := true, arrival := .appliance, kindValue := 8, kindMask := 31, action := .takeAndForward,
     cls := .fixed .bulk },
   { enable := true, arrival := .appliance, kindValue := 9, kindMask := 31, action := .takeAndForward,
     cls := .fixed .bulk },
   { enable := true, arrival := .appliance, kindValue := 10, kindMask := 31, action := .takeAndForward,
     cls := .fixed .control },
   { enable := true, arrival := .control, kindValue := 4, kindMask := 28, action := .guard, cls := .fixed .urgent }]

/-- The 24 route entries after power-on reset: the presets, then disabled entries with every field 0 (R146). -/
def resetRoutes (own : NodeId) : Vector RouteEntry 24 :=
  Vector.ofFn (fun i : Fin 24 => (presetRoutes own).getD i.val {})

/-- The default of the appliance port's admission mode is CLOSED (R137). -/
def applianceConfig : PortConfig := { admission := .closed }

/-- Every block at its power-on value, before RESTARTED is set (R194 and the reset rule of each chapter). -/
def State.blank (own : NodeId) : State :=
  { ownNode := own, routes := resetRoutes own, appliance := { cfg := applianceConfig } }

/-- The NOTICE that RESTARTED raises: set and enabled bits, then newly set bits, both RESTARTED alone
(R187, R188, R194). -/
def restartedNotice (own : NodeId) : Queued :=
  { frame := { priority := 3, kind := 18, sourceHigh := 0, source := own, destHigh := 0, dest := 31,
               payload := [1, 0, 1, 0] },
    origin := .own .notice, cls := .control }

/-- The part at the end of a power-on reset that read the given own node number (R194): every block at its
power-on values, RESTARTED set and gathered, and its NOTICE waiting for the control port to join. -/
def State.powerOn (own : NodeId) : State :=
  { State.blank own with
    notices := { bits := 1, accumulator := 1 }
    control := { control := [restartedNotice own] } }

/-- The part right after a power-on reset with both straps read as 0: own node number 27 (section 4.4 of
00_scope.md), nothing waiting. The strap value is a DESIGN CHOICE (notes/assumptions/5.md). -/
def State.reset : State := State.powerOn 27

end Sys2Proof.Machine
end

