-- ==== Sys2Proof/Machine/Layout.lean ====
section
/-! DEFINITION. How frames, payloads and records lie in bytes and on the link: header and check (R195, R196), the
bits of a frame with the line code (R168), the payloads of section 11.2, the step record of section 11.3, and
every code of sections 2.1, 3.7, 8.1, 9.4 and 11.4. -/

namespace Sys2Proof.Machine

open Sys2Proof

/-! ### Codes -/

/-- Frame kinds (section 11.2). -/
def kindSpeedSet : BitVec 5 := 4
def kindHeatSet : BitVec 5 := 5
def kindLidSet : BitVec 5 := 6
def kindDriveState : BitVec 5 := 8
def kindHeatState : BitVec 5 := 9
def kindLidState : BitVec 5 := 10
def kindWeighSample : BitVec 5 := 12
def kindThermoSample : BitVec 5 := 13
def kindMgmtReq : BitVec 5 := 16
def kindMgmtReply : BitVec 5 := 17
def kindNotice : BitVec 5 := 18
def kindStepReport : BitVec 5 := 19
def kindWeightReport : BitVec 5 := 20

/-- Role numbers of refusal details (section 1.4). -/
def roleNo : Role → Nat
  | .drive => 0
  | .heater => 1
  | .weigh => 2
  | .thermo => 3
  | .lid => 4

/-- State codes (R26). -/
def stateCode : RunState → Nat
  | .idle => 0
  | .running => 1
  | .paused => 2
  | .warming => 3
  | .fault => 4

/-- Phase codes (R26). -/
def phaseCode : Phase → Nat
  | .locking => 0
  | .basing => 1
  | .active => 2

/-- Outcome codes (R26). -/
def outcomeCode : StepOutcome → Nat
  | .time => 0
  | .weight => 1
  | .temp => 2
  | .confirm => 3
  | .limit => 4
  | .skipped => 5
  | .stopped => 6
  | .faulted => 7

/-- Fault cause codes (R26). -/
def causeCode : FaultCause → Nat
  | .link => 16
  | .driveSilent => 17
  | .heaterSilent => 18
  | .weighSilent => 19
  | .thermoSilent => 20
  | .driveFault => 21
  | .heaterFault => 22
  | .thermoSensor => 23
  | .overtemp => 24
  | .lidLock => 25

/-- Pause reason codes (R26). -/
def pauseCode : PauseReason → Nat
  | .request => 0
  | .lid => 1

/-- Operation codes (R74, section 11.5). -/
def opCode : WeighOp → Nat
  | .none => 0
  | .zeroing => 5
  | .calibrating => 6
  | .taring => 7

/-- Weighing outcome codes (R74). -/
def opOutcomeCode : OpOutcome → Nat
  | .done => 0
  | .unstable => 1
  | .superseded => 2
  | .stale => 3
  | .failedRange => 4
  | .interrupted => 5

/-- Lid command codes (section 11.2). -/
def lidCmdCode : LidCmd → Nat
  | .lock => 0
  | .unlock => 1

/-- Direction codes (section 11.2). -/
def dirCode : Direction → Nat
  | .fwd => 0
  | .rev => 1

/-- Health codes (R199). -/
def healthCode : Health → Nat
  | .joining => 0
  | .active => 1
  | .passive => 2
  | .isolated => 3

/-- Port codes (section 11.4). -/
def portCode : Port → Nat
  | .control => 0
  | .appliance => 1

/-- Origin codes (section 11.4). -/
def originCode : NodeOrigin → Nat
  | .static => 0
  | .learned => 1

/-- Admission mode codes (R137). -/
def admissionCode : Admission → Nat
  | .opened => 0
  | .guarded => 1
  | .closed => 2

/-- Recovery mode codes (R179). -/
def recoveryCode : Recovery → Nat
  | .quiet => 0
  | .count => 1

/-- Arrival port codes of a route entry (section 8.1). -/
def arrivalCode : ArrivalMatch → Nat
  | .control => 0
  | .appliance => 1
  | .either => 2

/-- Action codes (section 8.1). -/
def actionCode : RouteAction → Nat
  | .forward => 0
  | .drop => 1
  | .take => 2
  | .takeAndForward => 3
  | .guard => 4

/-- Class codes (section 8.1). -/
def classCode : RouteClass → Nat
  | .fixed .urgent => 0
  | .fixed .control => 1
  | .fixed .bulk => 2
  | .byPriority => 3

/-- An optional one-byte code: 255 when absent (R195). -/
def optCode (o : Option Nat) : Byte :=
  match o with
  | some c => byteOf c
  | none => 255

/-- An optional node number: 255 for none (section 11.4). -/
def optNode (o : Option NodeId) : Byte := optCode (o.map BitVec.toNat)

/-! ### Header and check (R195, R196) -/

/-- The four header bytes (section 11.1). -/
def Frame.header (f : Frame) : List Byte :=
  [f.priority ++ f.kind, f.sourceHigh ++ f.source, f.destHigh ++ f.dest, byteOf f.payload.length]

/-- The check register after one data bit (R196). -/
def checkBit (r : BitVec 16) (b : Bool) : BitVec 16 :=
  if r.msb != b then (r <<< 1) ^^^ 0x1021 else r <<< 1

/-- The bits of a byte, most significant first (R168). -/
def byteBits (b : Byte) : List Bool :=
  [b.getLsbD 7, b.getLsbD 6, b.getLsbD 5, b.getLsbD 4, b.getLsbD 3, b.getLsbD 2, b.getLsbD 1, b.getLsbD 0]

/-- The check over some bytes: the register from 0xFFFF, with no final inversion (R196). -/
def checkOf (bytes : List Byte) : BitVec 16 := (bytes.flatMap byteBits).foldl checkBit 0xFFFF

/-- The check of a frame, over header and payload (R196). -/
def Frame.check (f : Frame) : BitVec 16 := checkOf (Frame.header f ++ f.payload)

/-- A frame's bytes in the order sent; the check goes high byte first (R196). -/
def Frame.bytes (f : Frame) : List Byte :=
  Frame.header f ++ f.payload ++ [(Frame.check f).extractLsb' 8 8, (Frame.check f).extractLsb' 0 8]

/-- What a receiver makes of the bytes between start mark and acknowledgment window: the frame when its length
holds and its check is good, else the error it detects (R172, R196). -/
def Frame.ofBytes (bytes : List Byte) : Except RxError Frame :=
  match bytes with
  | b0 :: b1 :: b2 :: b3 :: rest =>
    if Config.maxPayload < b3.toNat then .error .length
    else if rest.length ≠ b3.toNat + 2 then .error .code
    else
      let f : Frame :=
        { priority := b0.extractLsb' 5 3, kind := b0.extractLsb' 0 5
          sourceHigh := b1.extractLsb' 5 3, source := b1.extractLsb' 0 5
          destHigh := b2.extractLsb' 5 3, dest := b2.extractLsb' 0 5
          payload := rest.take b3.toNat }
      if rest.drop b3.toNat = [(Frame.check f).extractLsb' 8 8, (Frame.check f).extractLsb' 0 8] then .ok f
      else .error .check
  | _ => .error .code

/-! ### The line code (R168) -/

/-- The line code: after four consecutive equal bits one bit of the other level is inserted (R168). The first two
arguments are the level and length of the run so far. -/
def stuffFrom (last : Bool) (run : Nat) : List Bool → List Bool
  | [] => []
  | b :: rest =>
    if b = last then
      if run + 1 = 4 then b :: (!b) :: stuffFrom (!b) 1 rest
      else b :: stuffFrom last (run + 1) rest
    else b :: stuffFrom b 1 rest

/-- A receiver's removal of the inserted bits (R168); `none` at a fifth equal bit, the CODE error of R172. -/
def unstuffFrom (last : Bool) (run : Nat) : List Bool → Option (List Bool)
  | [] => if run = 4 then none else some []
  | b :: rest =>
    if run = 4 then (if b = last then none else unstuffFrom b 1 rest)
    else if b = last then (unstuffFrom last (run + 1) rest).map (b :: ·)
    else (unstuffFrom b 1 rest).map (b :: ·)

/-- The coded part of a frame, from the start mark (dominant, 0) to the last check bit (R168). A set bit is
recessive. -/
def Frame.coded (f : Frame) : List Bool := false :: stuffFrom false 1 ((Frame.bytes f).flatMap byteBits)

/-- All bits a transmitter sends: the coded part, the acknowledgment window sent recessive and the recessive end
mark (R168). -/
def Frame.wire (f : Frame) : List Bool := Frame.coded f ++ true :: List.replicate 6 true

/-- The bit times of a frame without inserted bits (R168). -/
def Frame.plainBits (f : Frame) : Nat := 1 + 32 + 8 * f.payload.length + 16 + 1 + 6

/-- The triple of a frame that arbitration compares (R170), without the spare bits of the source byte (DESIGN CHOICE,
notes/assumptions/34.md). -/
def Frame.arbKey (f : Frame) : ArbKey := ⟨f.priority, f.kind, f.source⟩

/-- The bits of the triple as they go on the link, as one number: dominant is 0, so the lower number wins (R170). -/
def arbOrder (k : ArbKey) : Nat := k.priority.toNat * 1024 + k.kind.toNat * 32 + k.source.toNat

/-! ### The step record (section 11.3) -/

/-- Direction mode codes (section 11.3). -/
def modeCode : DirMode → Nat
  | .fwd => 0
  | .rev => 1
  | .alt => 2

/-- The 12 bytes of a record (section 11.3). -/
def StepRecord.encode (r : StepRecord) : List Byte :=
  putU16 r.speed ++
  [byteOf (modeCode r.mode + (if r.lock then 4 else 0) + (if r.keepWarm then 8 else 0)), byteOf r.reversal] ++
  putU16 r.heat ++ putU16 r.dose ++ putU16 r.duration ++
  [byteOf ((if r.endTime then 1 else 0) + (if r.endWeight then 2 else 0) + (if r.endTemp then 4 else 0) +
     (if r.endConfirm then 8 else 0) + 16 * r.loopCount), byteOf r.loopTarget]

/-- The direction mode of the two code bits; code 3 has no meaning (section 11.3). -/
def modeOf (c : Nat) : Option DirMode :=
  match c with
  | 0 => some .fwd
  | 1 => some .rev
  | 2 => some .alt
  | _ => none

/-- A record read from 12 bytes with the range checks of R1 in the order of Table 1-1 (R198); a refusal gives the
number of the first field out of range. -/
def decodeStep (bytes : List Byte) : Except Nat StepRecord :=
  match bytes with
  | [b0, b1, b2, b3, b4, b5, b6, b7, b8, b9, b10, b11] =>
    if 12000 < u16 b0 b1 then .error 1
    else match modeOf (b2.toNat % 4) with
      | none => .error 2
      | some mode =>
        if 16 ≤ b2.toNat then .error 3
        else if 60 < b3.toNat then .error 4
        else if u16 b4 b5 ≠ 0 ∧ (u16 b4 b5 < 300 ∨ 2000 < u16 b4 b5) then .error 5
        else if 47 < b11.toNat then .error 10
        else .ok
          { speed := u16 b0 b1, mode := mode, lock := b2.getLsbD 2, keepWarm := b2.getLsbD 3
            reversal := b3.toNat, heat := u16 b4 b5, dose := u16 b6 b7, duration := u16 b8 b9
            endTime := b10.getLsbD 0, endWeight := b10.getLsbD 1, endTemp := b10.getLsbD 2
            endConfirm := b10.getLsbD 3, loopCount := b10.toNat / 16, loopTarget := b11.toNat }
  | _ => .error 0

/-! ### Payloads the part originates (section 11.2) -/

/-- SPEED_SET. -/
def speedPayload (speed : Nat) (dir : Direction) : List Byte := putU16 speed ++ [byteOf (dirCode dir)]

/-- HEAT_SET. -/
def heatPayload (power : Nat) : List Byte := putU16 power

/-- LID_SET. -/
def lidPayload (c : LidCmd) : List Byte := [byteOf (lidCmdCode c)]

/-- NOTICE (R188). -/
def noticePayload (bits newly : BitVec 16) : List Byte := putBits bits ++ putBits newly

/-- The station number as a byte. -/
def stationByte : StationId → Byte
  | .zero => 0
  | .one => 1

/-- The flags byte of a STEP_REPORT (section 11.2). -/
def reportFlags (r : StepReport) : Byte :=
  flagByte [r.flags.baseUnsettled, r.flags.adjusted, r.flags.paused, r.stale, r.added.isSome, r.bowl.isSome]

/-- STEP_REPORT (section 11.2, R197). -/
def stepReportPayload (n : StationId) (r : StepReport) : List Byte :=
  [stationByte n, byteOf r.step, byteOf (outcomeCode r.outcome)] ++ putU24 r.elapsed ++ putS24 r.net ++
  putS24 (r.added.getD 0) ++ putS16 (r.bowl.getD 0) ++ [reportFlags r]

/-- WEIGHT_REPORT (section 11.2, R86). -/
def weightReportPayload (n : StationId) (net : Int) (added : Option Int) (settled overload stale busy : Bool) :
    List Byte :=
  [stationByte n] ++ putS24 net ++ putS24 (added.getD 0) ++
  [flagByte [settled, overload, stale, busy, added.isSome]]

/-! ### Payloads the part takes (section 11.2, R197) -/

/-- A WEIGH_SAMPLE: sequence and the four cell readings. -/
structure WeighSample where
  seq : Byte
  c0 : Int
  c1 : Int
  c2 : Int
  c3 : Int
deriving DecidableEq, Repr

/-- The layout of WEIGH_SAMPLE; `none` when the length differs. -/
def readWeighSample : List Byte → Option WeighSample
  | [q, a0, a1, a2, b0, b1, b2, c0, c1, c2, d0, d1, d2] =>
    some ⟨q, s24 a0 a1 a2, s24 b0 b1 b2, s24 c0 c1 c2, s24 d0 d1 d2⟩
  | _ => none

/-- The layout of THERMO_SAMPLE: temperature and sensor fault flag. -/
def readThermoSample : List Byte → Option (Int × Bool)
  | [t0, t1, f] => some (s16 t0 t1, f.getLsbD 0)
  | _ => none

/-- The layout of DRIVE_STATE, with the bounds of R197. -/
def readDriveState : List Byte → Option DriveReport
  | [s0, s1, d0, d1, f] => some ⟨min 12000 (u16 s0 s1), min 2000 (u16 d0 d1), f.getLsbD 0⟩
  | _ => none

/-- The layout of HEAT_STATE, with the bound of R197. -/
def readHeatState : List Byte → Option HeatReport
  | [p0, p1, f] => some ⟨min 2000 (u16 p0 p1), f.getLsbD 0⟩
  | _ => none

/-- The layout of LID_STATE. -/
def readLidState : List Byte → Option LidReport
  | [f] => some ⟨f.getLsbD 0, f.getLsbD 1⟩
  | _ => none

/-- A guarded SPEED_SET: speed bounded at 12000, direction byte 0 or 1 (R197). -/
def readSpeedSet : List Byte → Option (Nat × Direction)
  | [s0, s1, d] =>
    if d = 0 then some (min 12000 (u16 s0 s1), .fwd)
    else if d = 1 then some (min 12000 (u16 s0 s1), .rev)
    else none
  | _ => none

/-- A guarded HEAT_SET (section 11.2). -/
def readHeatSet : List Byte → Option Nat
  | [p0, p1] => some (u16 p0 p1)
  | _ => none

/-- A guarded LID_SET: command byte 0 or 1 (R197). -/
def readLidSet : List Byte → Option LidCmd
  | [c] => if c = 0 then some .lock else if c = 1 then some .unlock else none
  | _ => none

end Sys2Proof.Machine
end

