-- ==== Sys2Proof/Machine/Flags.lean ====
section
/-! DEFINITION. The flag computations of the part: the sixteen notice bits (section 10.3), the drop mode
(R156), and the health state that two fault counts give (R176). -/

namespace Sys2Proof.Machine

open Sys2Proof

/-- The bits of the notice set by what sets them (section 10.3). -/
inductive NoticeBit where
  | restarted
  | stepEnd (n : StationId)
  | recipeEnd (n : StationId)
  | fault (n : StationId)
  | paused (n : StationId)
  | weighOp (n : StationId)
  | confirm (n : StationId)
  | nodeSilent
  | portChange
  | drops
deriving DecidableEq, Repr

/-- 0 or 1 (section 4.4 of 00_scope.md). -/
def stationNo : StationId → Nat
  | .zero => 0
  | .one => 1

/-- The index of a notice bit (section 10.3). -/
def noticeIndex : NoticeBit → Nat
  | .restarted => 0
  | .stepEnd n => 1 + stationNo n
  | .recipeEnd n => 3 + stationNo n
  | .fault n => 5 + stationNo n
  | .paused n => 7 + stationNo n
  | .weighOp n => 9 + stationNo n
  | .confirm n => 11 + stationNo n
  | .nodeSilent => 13
  | .portChange => 14
  | .drops => 15

/-- The row of sixteen bits that holds this bit alone. -/
def noticeMask (b : NoticeBit) : BitVec 16 := (1 : BitVec 16) <<< noticeIndex b

/-- The drop mode after it is brought up to date from the held count (R156). -/
def dropModeAfter (cfg : PortConfig) (held : Nat) (mode : Bool) : Bool :=
  if !mode && cfg.high ≤ held then true
  else if mode && held ≤ cfg.low then false
  else mode

/-- The health state two counts give outside JOINING and ISOLATED (R176). -/
def healthOf (tx rx : Nat) : Health :=
  if Config.passiveCount ≤ tx ∨ Config.passiveCount ≤ rx then .passive else .active

/-- The class BY_PRIORITY gives (R148). -/
def priorityClass (p : BitVec 3) : QClass :=
  if p.toNat ≤ 1 then .urgent else if p.toNat ≤ 4 then .control else .bulk

end Sys2Proof.Machine
end

