-- ==== Sys2Proof/Machine/Ops.lean ====
section
/-! DEFINITION. The named operations every meaning is written with: reading and changing one station or port,
counters, the buffer pools, originating a frame (R158 to R161), notice bits (R187, R188), the node table as the
stations read it, and the lid as R27 and R115 read it. -/

namespace Sys2Proof.Machine

open Sys2Proof

/-! ### One station, one port -/

/-- Station `n`. -/
def State.st (s : State) : StationId → Station
  | .zero => s.station0
  | .one => s.station1

/-- The state with station `n` changed by `f`. -/
def State.modSt (s : State) (n : StationId) (f : Station → Station) : State :=
  match n with
  | .zero => { s with station0 := f s.station0 }
  | .one => { s with station1 := f s.station1 }

/-- Port `p`. -/
def State.port (s : State) : Port → PortState
  | .control => s.control
  | .appliance => s.appliance

/-- The state with port `p` changed by `f`. -/
def State.modPort (s : State) (p : Port) (f : PortState → PortState) : State :=
  match p with
  | .control => { s with control := f s.control }
  | .appliance => { s with appliance := f s.appliance }

/-- The state with the run context of station `n` changed. -/
def State.modRun (s : State) (n : StationId) (f : RunContext → RunContext) : State :=
  s.modSt n (fun st => { st with run := f st.run })

/-- The state with the drive and lid context of station `n` changed. -/
def State.modDrive (s : State) (n : StationId) (f : DriveContext → DriveContext) : State :=
  s.modSt n (fun st => { st with drive := f st.drive })

/-- The state with the weigh context of station `n` changed. -/
def State.modWeigh (s : State) (n : StationId) (f : WeighContext → WeighContext) : State :=
  s.modSt n (fun st => { st with weigh := f st.weigh })

/-- The state with the heat context of station `n` changed. -/
def State.modHeat (s : State) (n : StationId) (f : HeatContext → HeatContext) : State :=
  s.modSt n (fun st => { st with heat := f st.heat })

/-- What the arbiter holds for station `n` (R104). -/
def State.side (s : State) : StationId → ArbiterSide
  | .zero => s.arbiter.side0
  | .one => s.arbiter.side1

/-- The state with the arbiter's side of station `n` changed. -/
def State.modSide (s : State) (n : StationId) (f : ArbiterSide → ArbiterSide) : State :=
  match n with
  | .zero => { s with arbiter := { s.arbiter with side0 := f s.arbiter.side0 } }
  | .one => { s with arbiter := { s.arbiter with side1 := f s.arbiter.side1 } }

/-- The other port (section 4.4 of 00_scope.md). -/
def otherPort : Port → Port
  | .control => .appliance
  | .appliance => .control

/-- The other station. -/
def otherStation : StationId → StationId
  | .zero => .one
  | .one => .zero

/-- The node bound to a role (section 1.4). -/
def Binding.get (b : Binding) : Role → Option NodeId
  | .drive => b.drive
  | .heater => b.heater
  | .weigh => b.weigh
  | .thermo => b.thermo
  | .lid => b.lid

/-- The five roles in check order (section 1.4). -/
def allRoles : List Role := [.drive, .heater, .weigh, .thermo, .lid]

/-! ### Counters (R166, R167) -/

/-- The port counters in the order of R192. -/
inductive PortCounter where
  | received
  | receiveErrors
  | transmitted
  | transmitErrors
  | lostArbitrations
  | route
  | admission
  | idClash
  | portConflict
  | localDrop
  | buffer
  | noBuffer
  | isolationDrop
  | format
  | unbound
  | roleMismatch
  | mgmtOverflow
deriving DecidableEq, Repr

/-- The index of a port counter (R192). -/
def portCounterIndex : PortCounter → Nat
  | .received => 0
  | .receiveErrors => 1
  | .transmitted => 2
  | .transmitErrors => 3
  | .lostArbitrations => 4
  | .route => 5
  | .admission => 6
  | .idClash => 7
  | .portConflict => 8
  | .localDrop => 9
  | .buffer => 10
  | .noBuffer => 11
  | .isolationDrop => 12
  | .format => 13
  | .unbound => 14
  | .roleMismatch => 15
  | .mgmtOverflow => 16

/-- The station counters in the order of R192. -/
inductive StationCounter where
  | clamps
  | owned
  | reportLost
  | gaps
  | duplicates
deriving DecidableEq, Repr

/-- The index of a station counter (R192). -/
def stationCounterIndex : StationCounter → Nat
  | .clamps => 0
  | .owned => 1
  | .reportLost => 2
  | .gaps => 3
  | .duplicates => 4

/-- A vector of counters with one of them incremented, saturating (R166). -/
def bump {k : Nat} (v : Vector Nat k) (i : Nat) : Vector Nat k :=
  v.setIfInBounds i (satInc Config.counterMax (v[i]?.getD 0))

/-- Port counter `c` of port `p` increments (R166). -/
def countPort (p : Port) (c : PortCounter) (s : State) : State :=
  s.modPort p (fun q => { q with counters := bump q.counters (portCounterIndex c) })

/-- Station counter `c` of station `n` increments (R167). -/
def countStation (n : StationId) (c : StationCounter) (s : State) : State :=
  s.modSt n (fun st => { st with counters := bump st.counters (stationCounterIndex c) })

/-! ### Queues and pools (R155, R159, R162) -/

/-- The class queue `c` of a port. -/
def PortState.queue (q : PortState) : QClass → List Queued
  | .urgent => q.urgent
  | .control => q.control
  | .bulk => q.bulk

/-- A port with one class queue changed. -/
def PortState.modQueue (q : PortState) (c : QClass) (f : List Queued → List Queued) : PortState :=
  match c with
  | .urgent => { q with urgent := f q.urgent }
  | .control => { q with control := f q.control }
  | .bulk => { q with bulk := f q.bulk }

/-- The frame the transmit engine holds: chosen and contending, or in transmission (R162). -/
def PortState.engine (q : PortState) : List Queued :=
  match q.activity with
  | .contending e => [e]
  | .transmitting e => [e]
  | _ => []

/-- Every frame a port holds, queued or in its transmit engine. -/
def PortState.entries (q : PortState) : List Queued := q.urgent ++ q.control ++ q.bulk ++ q.engine

/-- Every frame the part holds for sending. -/
def State.entries (s : State) : List Queued := s.control.entries ++ s.appliance.entries

/-- Whether a held frame uses a transit buffer of arrival port `p` (R155). -/
def Queued.fromPort (p : Port) (e : Queued) : Bool := e.origin == .transit p

/-- Whether a held frame uses an origination buffer (R159). -/
def Queued.isOwn (e : Queued) : Bool :=
  match e.origin with
  | .own _ => true
  | .transit _ => false

/-- The held count of a port (R155). -/
def State.held (s : State) (p : Port) : Nat := s.entries.countP (Queued.fromPort p)

/-- The free buffers of the transit pool (R155). -/
def State.freeTransit (s : State) : Nat := Config.transitBuffers - (s.held .control + s.held .appliance)

/-- The origination buffers in use (R159). -/
def State.ownHeld (s : State) : Nat := s.entries.countP Queued.isOwn

/-- The free buffers of the origination pool (R159). -/
def State.freeOrigination (s : State) : Nat := Config.originationBuffers - s.ownHeld

/-- The MGMT_REPLY frames held, counting one in transmission (R161). -/
def State.repliesHeld (s : State) : Nat := s.control.entries.countP (fun e => e.origin == .own .reply)

/-- The STEP_REPORT frames held, counting one in transmission (R161). -/
def State.stepReportsHeld (s : State) : Nat :=
  s.control.entries.countP
    (fun e => e.origin == .own (.stepReport .zero) || e.origin == .own (.stepReport .one))

/-- The drop mode of a port is brought up to date from its held count (R156). -/
def updateDropMode (p : Port) (s : State) : State :=
  s.modPort p (fun q => { q with dropMode := dropModeAfter q.cfg (s.held p) q.dropMode })

/-- Both drop modes are brought up to date, at the end of an event that freed buffers (R156). -/
def updateDropModes (s : State) : State := updateDropMode .appliance (updateDropMode .control s)

/-! ### The part's own frames (R158 to R161) -/

/-- Kinds of which at most one unsent copy is queued (R160). -/
def OwnKind.coalesced : OwnKind → Bool
  | .reply => false
  | .stepReport _ => false
  | _ => true

/-- The class of the kind's priority (R158). -/
def OwnKind.cls : OwnKind → QClass
  | .lidSet _ => .urgent
  | .speedSet _ => .urgent
  | .heatSet _ => .urgent
  | .reply => .control
  | .notice => .control
  | .stepReport _ => .control
  | .weightReport _ => .bulk

/-- The header priority of the kind (R158). -/
def OwnKind.priority : OwnKind → BitVec 3
  | .lidSet _ => 0
  | .speedSet _ => 1
  | .heatSet _ => 1
  | .reply => 3
  | .notice => 3
  | .stepReport _ => 4
  | .weightReport _ => 6

/-- The frame kind (section 11.2). -/
def OwnKind.code : OwnKind → BitVec 5
  | .lidSet _ => kindLidSet
  | .speedSet _ => kindSpeedSet
  | .heatSet _ => kindHeatSet
  | .reply => kindMgmtReply
  | .notice => kindNotice
  | .stepReport _ => kindStepReport
  | .weightReport _ => kindWeightReport

/-- The port a kind is bound for (R158). -/
def OwnKind.port : OwnKind → Port
  | .lidSet _ => .appliance
  | .speedSet _ => .appliance
  | .heatSet _ => .appliance
  | _ => .control

/-- A frame of the part: own node number as source, the kind's priority, the spare header bits 0 (R158, R196). -/
def ownFrame (own : NodeId) (k : OwnKind) (dest : NodeId) (payload : List Byte) : Frame :=
  { priority := k.priority, kind := k.code, sourceHigh := 0, source := own, destHigh := 0, dest := dest
    payload := payload }

/-- Whether an entry is an unsent frame of this kind and station. -/
def Queued.isKind (k : OwnKind) (e : Queued) : Bool := e.origin == .own k

/-- The first entry that `p` accepts takes the new contents, in place (R160). -/
def rewriteFirst (p : Queued → Bool) (f : Frame) : List Queued → List Queued
  | [] => []
  | e :: rest => if p e then { e with frame := f } :: rest else e :: rewriteFirst p f rest

/-- A class queue after an origination: an unsent frame of a coalesced kind is updated in place, and otherwise a
new frame joins the tail (R160, R161). -/
def joinQueue (k : OwnKind) (f : Frame) (q : List Queued) : List Queued :=
  if k.coalesced && q.any (Queued.isKind k) then rewriteFirst (Queued.isKind k) f q
  else q ++ [⟨f, .own k, k.cls⟩]

/-- An origination of kind `k` (R158): dropped and counted while its port is ISOLATED (R165), else joined to its
class queue (R160, R161). -/
def originate (k : OwnKind) (dest : NodeId) (payload : List Byte) (s : State) : State :=
  if (s.port k.port).health = .isolated then countPort k.port .isolationDrop s
  else s.modPort k.port (fun q => q.modQueue k.cls (joinQueue k (ownFrame s.ownNode k dest payload)))

/-! ### Notices (R187, R188) -/

/-- A NOTICE is originated with the contents of this moment (R188). -/
def originateNotice (s : State) : State :=
  originate .notice Config.broadcast
    (noticePayload (s.notices.bits &&& s.notices.enables) s.notices.accumulator) s

/-- A block sets a notice bit (R187). -/
def setNotice (b : NoticeBit) (s : State) : State :=
  if s.notices.bits &&& noticeMask b ≠ 0 then s
  else if s.notices.enables &&& noticeMask b ≠ 0 then
    originateNotice { s with notices := { s.notices with
      bits := s.notices.bits ||| noticeMask b
      accumulator := s.notices.accumulator ||| noticeMask b } }
  else { s with notices := { s.notices with bits := s.notices.bits ||| noticeMask b } }

/-! ### The node table as others read it (R131) -/

/-- Whether a table place holds node `k`. -/
def holdsNode (k : NodeId) (o : Option NodeEntry) : Bool :=
  match o with
  | some e => e.number == k
  | none => false

/-- The index of node `k`'s entry (R131). -/
def State.nodeIndex (s : State) (k : NodeId) : Option Nat := s.nodes.toList.findIdx? (holdsNode k)

/-- The entry at an index, where there is one. -/
def State.entryAt (s : State) (i : Nat) : Option NodeEntry := (s.nodes[i]?).join

/-- Node `k`'s entry. -/
def State.nodeEntry (s : State) (k : NodeId) : Option NodeEntry := (s.nodeIndex k).bind s.entryAt

/-- The free entry of lowest index (R131). -/
def State.freeNode (s : State) : Option Nat := s.nodes.toList.findIdx? Option.isNone

/-- Whether an entry is LEARNED on port `p`. -/
def learnedOn (p : Port) (o : Option NodeEntry) : Bool :=
  match o with
  | some e => e.origin == .learned && e.port == p
  | none => false

/-- The learned count of a port (R131). -/
def State.learnedCount (s : State) (p : Port) : Nat := s.nodes.toList.countP (learnedOn p)

/-- The state with node table index `i` holding `o`. -/
def State.setEntry (s : State) (i : Nat) (o : Option NodeEntry) : State :=
  { s with nodes := s.nodes.setIfInBounds i o }

/-- The node bound to role `r` of station `n` is silent (R139). A role that is "none" is not. -/
def State.silent (s : State) (n : StationId) (r : Role) : Bool :=
  match (s.st n).binding.get r with
  | some k => match s.nodeEntry k with
    | some e => e.silent
    | none => false
  | none => false

/-- The role of station `n` that holds node `k`. -/
def roleOf (b : Binding) (k : NodeId) : Option Role := allRoles.find? (fun r => b.get r == some k)

/-- The station and role to which node `k` is bound (R140). -/
def State.boundAs (s : State) (k : NodeId) : Option (StationId × Role) :=
  match roleOf s.station0.binding k with
  | some r => some (.zero, r)
  | none => (roleOf s.station1.binding k).map (fun r => (.one, r))

/-! ### The lid and the appliance port as the stations read them -/

/-- The lid is locked in the sense of R27: reported closed and locked by the bound LID node, which is heard. -/
def State.lidLocked (s : State) (n : StationId) : Bool :=
  (s.st n).binding.lid.isSome && !s.silent n .lid &&
  (match (s.st n).drive.lidReport with
    | some r => r.closed && r.locked
    | none => false)

/-- The appliance port is ISOLATED. -/
def State.applianceIsolated (s : State) : Bool := s.appliance.health == .isolated

/-- The step record of the step a station runs; an empty record where there is none. -/
def State.curStep (s : State) (n : StationId) : StepRecord :=
  match (s.st n).run.step with
  | some i => ((s.st n).steps[i]?).join.getD {}
  | none => {}

end Sys2Proof.Machine
end

