-- ==== Sys2Proof/Machine/Power.lean ====
section
/-! DEFINITION. The power arbiter (chapter 5): the division of R109, recomputation (R108), the grant step (R110)
and HEAT_SET (R111, R112). -/

namespace Sys2Proof.Machine

open Sys2Proof

/-- The two grants (R109). Of a total `a` the odd watt of an odd half goes to station 1. -/
def divideGrants (a d0 d1 : Nat) : Nat × Nat :=
  if d0 + d1 ≤ a then (d0, d1)
  else if d0 < a / 2 then (d0, min d1 (a - d0))
  else if d1 < a - a / 2 then (min d0 (a - d1), d1)
  else (a / 2, a - a / 2)

/-- The shares: set in step 3 of R109, both 0 whenever `a` is 0 (R109), and else left as they were when step 2 ends the
division (DEDUCED, notes/assumptions/10.md). -/
def divideShares (a d0 d1 old0 old1 : Nat) : Nat × Nat :=
  if a = 0 then (0, 0) else if d0 + d1 ≤ a then (old0, old1) else (a / 2, a - a / 2)

/-- Part 1 and 2 of a recomputation: available power, shares and grants (R108, R109). -/
def divideArbiter (b : Arbiter) : Arbiter :=
  let a := b.budget - (b.side0.draw + b.side1.draw)
  let g := divideGrants a b.side0.counted b.side1.counted
  let h := divideShares a b.side0.counted b.side1.counted b.side0.share b.side1.share
  { b with
    available := a
    side0 := { b.side0 with share := h.1, grant := g.1 }
    side1 := { b.side1 with share := h.2, grant := g.2 } }

/-- A HEAT_SET with the present grant goes to the HEATER node, and the last value sent becomes that grant
(R110, R111, R112). With the role "none" nothing is sent. -/
def sendHeatSet (n : StationId) (s : State) : State :=
  match (s.st n).binding.heater with
  | none => s
  | some k =>
    originate (.heatSet n) k (heatPayload (s.side n).grant)
      (s.modSide n (fun a => { a with lastSent := some a.grant }))

/-- The grant step of R110: whether a new grant is worth a frame. -/
def grantDue (grant : Nat) (last : Option Nat) : Bool :=
  match last with
  | none => true
  | some v => v + 10 ≤ grant || grant + 10 ≤ v || (grant == 0 && v != 0) || (grant != 0 && v == 0)

/-- Part 3 of a recomputation for one station (R108, R110). -/
def testGrant (n : StationId) (s : State) : State :=
  if grantDue (s.side n).grant (s.side n).lastSent then sendHeatSet n s else s

/-- The arbiter recomputes (R108). -/
def recomputeArbiter (s : State) : State :=
  testGrant .one (testGrant .zero { s with arbiter := divideArbiter s.arbiter })

/-- The counted demand of a station as its inputs stand (R107). -/
def State.countedDemand (s : State) (n : StationId) : Nat :=
  if (s.st n).binding.heater.isNone || s.silent n .heater then 0 else (s.st n).heat.demand

/-- The counted demand follows its inputs, and a change makes the arbiter recompute (R107). -/
def followDemand (n : StationId) (s : State) : State :=
  if (s.side n).counted = s.countedDemand n then s
  else recomputeArbiter (s.modSide n (fun a => { a with counted := s.countedDemand n }))

/-- The heat regulator hands the arbiter a demand; an unchanged one changes nothing (R90 part 7, R107). -/
def setDemand (n : StationId) (d : Nat) (s : State) : State :=
  if (s.st n).heat.demand = d then s
  else followDemand n (s.modHeat n (fun h => { h with demand := d }))

/-- A motor draw is handed to the arbiter, which recomputes when it differs (R106). -/
def setDraw (n : StationId) (w : Nat) (s : State) : State :=
  if (s.side n).draw = w then s
  else recomputeArbiter (s.modSide n (fun a => { a with draw := w }))

end Sys2Proof.Machine
end

