-- ==== Sys2Proof/Machine/Drive.lean ====
section
/-! DEFINITION. The drive and lid control (chapter 6): the envelope (R115), the requested and commanded speed
(R116 to R118), the lid command (R127) and the unlock interlock (R128, R129). -/

namespace Sys2Proof.Machine

open Sys2Proof

/-! ### The lid (R127 to R129) -/

/-- The first two conditions of R129: the commanded speed is 0, and the blade is known to be still. -/
def State.bladeStill (s : State) (n : StationId) : Bool :=
  (s.st n).drive.commanded == 0 &&
  ((match (s.st n).drive.report with
    | some r => r.speed == 0
    | none => false) || (s.st n).drive.spinDownElapsed)

/-- A LID_SET with this command goes to the LID node; with the role "none" nothing is sent (R127). -/
def sendLidSet (n : StationId) (c : LidCmd) (s : State) : State :=
  match (s.st n).binding.lid with
  | none => s
  | some k => originate (.lidSet n) k (lidPayload c) s

/-- LID_SET LOCK as R127 has it: the lid command becomes LOCK and the pending unlock is cleared. -/
def lockLid (n : StationId) (s : State) : State :=
  match (s.st n).binding.lid with
  | none => s
  | some _ =>
    sendLidSet n .lock (s.modDrive n (fun d => { d with lidCommand := some .lock, pendingUnlock := false }))

/-- The unlock interlock is tested, and a pending unlock is served when its conditions hold (R129). -/
def testUnlock (n : StationId) (s : State) : State :=
  if (s.st n).drive.pendingUnlock && s.bladeStill n && (s.st n).binding.lid.isSome && !s.applianceIsolated then
    sendLidSet n .unlock (s.modDrive n (fun d => { d with lidCommand := some .unlock, pendingUnlock := false }))
  else s

/-- The pending unlock becomes set, and the interlock is tested (R128, R129). -/
def askUnlock (n : StationId) (s : State) : State :=
  testUnlock n (s.modDrive n (fun d => { d with pendingUnlock := true }))

/-! ### Speed (R115 to R118) -/

/-- A bowl temperature is stored and at least HOT_TEMP (R115). -/
def Station.hot (st : Station) : Bool :=
  match st.heat.bowl with
  | some t => (st.limits.hotTemp : Int) ≤ t
  | none => false

/-- The envelope limit (R115). -/
def State.envelopeOf (s : State) (n : StationId) : Nat :=
  let st := s.st n
  let hot := if st.hot then min st.limits.maxSpeed st.limits.hotSpeed else st.limits.maxSpeed
  if s.lidLocked n then hot else min hot st.limits.openSpeed

/-- The direction a step's mode asks for (R25). -/
def stepDirection (m : DirMode) (reversal : Option Direction) : Direction :=
  match m with
  | .fwd => .fwd
  | .rev => .rev
  | .alt => reversal.getD .fwd

/-- The requested speed and direction (R25, R116). -/
def State.requestOf (s : State) (n : StationId) : Nat × Direction :=
  let st := s.st n
  match st.run.state, st.run.phase with
  | .idle, _ =>
    (st.drive.manualSpeed, if 0 < st.drive.manualSpeed then st.drive.manualDir else st.drive.requestedDir)
  | .running, some .active =>
    (st.run.speedOverride.getD (s.curStep n).speed, stepDirection (s.curStep n).mode st.run.reversal)
  | _, _ => (0, st.drive.requestedDir)

/-- A SPEED_SET with the commanded speed and direction goes to the DRIVE node (R118). -/
def sendSpeedSet (n : StationId) (s : State) : State :=
  match (s.st n).binding.drive with
  | none => s
  | some k => originate (.speedSet n) k (speedPayload (s.st n).drive.commanded (s.st n).drive.commandedDir) s

/-- The drive context after the recomputation of R116 and R117 from a request and the envelope held. -/
def composeSpeed (req : Nat × Direction) (d : DriveContext) : DriveContext :=
  { d with
    requested := req.1
    requestedDir := req.2
    commanded := min req.1 d.envelope
    commandedDir := req.2
    clamped := decide (min req.1 d.envelope < req.1) }

/-- Whether a recomputation counts as a clamp: the criterion of R117. Where the requested speed is clamped already, neither a step
with that same speed nor an ADJUST whose speed override equals it is counted (DESIGN CHOICE, notes/assumptions/32.md). -/
def clampCounts (old new : DriveContext) : Bool :=
  new.clamped && (new.requested != old.requested || new.commanded < old.commanded)

/-- The commanded speed is recomputed (R116): the clamp is counted (R117), a change is sent (R118), and a commanded
speed of 0 tests the interlock (R129). -/
def recomputeDrive (n : StationId) (s : State) : State :=
  let old := (s.st n).drive
  let new := composeSpeed (s.requestOf n) old
  let s1 := s.modDrive n (fun _ => new)
  let s2 := if clampCounts old new then countStation n .clamps s1 else s1
  let s3 := if new.commanded ≠ old.commanded ∨ new.commandedDir ≠ old.commandedDir then sendSpeedSet n s2 else s2
  if new.commanded = 0 then testUnlock n s3 else s3

/-- The envelope is recomputed, and the commanded speed with it (R115). -/
def recomputeEnvelope (n : StationId) (s : State) : State :=
  recomputeDrive n (s.modDrive n (fun d => { d with envelope := s.envelopeOf n }))

/-- The manual speed demand returns to 0, its hold timer stops, and the commanded speed is recomputed (R122). The manual
direction stays, at a hold expiry by R122 and elsewhere as the model's choice (DESIGN CHOICE, notes/assumptions/30.md). -/
def dropManualSpeed (n : StationId) (s : State) : State :=
  recomputeDrive n (s.modDrive n (fun d => { d with manualSpeed := 0, speedHold := none }))

end Sys2Proof.Machine
end

