-- ==== Sys2Proof/Machine/Heat.lean ====
section
/-! DEFINITION. The heat regulator's computations (chapter 4): the effective heat target (R93), its adoption
(R94), the PI demand (R95 to R97), the reach test (R98) and the manual demand in IDLE (R99). -/

namespace Sys2Proof.Machine

open Sys2Proof

/-- The effective heat target HT; `none` in IDLE (R93). -/
def State.heatTarget (s : State) (n : StationId) : Option Int :=
  let st := s.st n
  match st.run.state with
  | .idle => none
  | .running => some (st.run.tempOverride.getD ((s.curStep n).heat : Int))
  | .paused => some 0
  | .warming => some (st.limits.keepWarmTemp : Int)
  | .fault => some 0

/-- Some heat target above 0. -/
def heating (ht : Option Int) : Bool :=
  match ht with
  | some t => 0 < t
  | none => false

/-- The proportional term (R95). -/
def propTerm (kp : Nat) (e : Int) : Int := truncDiv (kp * e) 16

/-- The integral step (R95). -/
def integralStep (ki : Nat) (e : Int) : Int := truncDiv (ki * e) 256

/-- A demand clamped to 0..PMAX (R95). -/
def clampDemand (pmax : Nat) (x : Int) : Nat := (clampInt 0 pmax x).toNat

/-- R96: the advance is skipped while the error is positive and the station was granted less than it asked. -/
def skipAdvance (e : Int) (grant demand : Nat) : Bool := 0 < e && grant < demand

/-- The integral after one PI computation (R95, R96). -/
def advanceIntegral (pmax ki : Nat) (e : Int) (grant demand i : Nat) : Nat :=
  if skipAdvance e grant demand then clampDemand pmax i else clampDemand pmax (i + integralStep ki e)

/-- The demand in IDLE (R99): the manual heat demand, or 0 where no temperature guards the heater. -/
def State.idleDemand (s : State) (n : StationId) : Nat :=
  if (s.st n).binding.thermo.isNone || s.silent n .thermo || (s.st n).heat.bowl.isNone then 0
  else (s.st n).drive.manualHeat

/-- The demand recomputed without advancing the integral (R94). -/
def State.heldDemand (s : State) (n : StationId) : Nat :=
  let st := s.st n
  match s.heatTarget n with
  | none => s.idleDemand n
  | some ht =>
    if ht ≤ 0 then 0
    else match st.heat.bowl with
      | none => 0
      | some t =>
        if s.silent n .thermo then 0
        else clampDemand st.limits.pmax (propTerm st.heatCfg.kp (ht - t) + st.heat.integral)

/-- The reach test (R98). -/
def reachTest (ht : Option Int) (bowl : Option Int) (band : Nat) : Bool :=
  match ht, bowl with
  | some h, some t => 0 < h && h - band ≤ t
  | _, _ => false

/-- REACHED is re-tested against the present HT (R98). -/
def retestReached (n : StationId) (s : State) : State :=
  s.modHeat n (fun h => { h with reached := reachTest (s.heatTarget n) h.bowl (s.st n).heatCfg.reachBand })

/-- How an event adopts a new effective heat target (R94): not at all (no change of HT), with the integral kept
(ADJUST, RESUME, START, entry into a state without a target), or as a step or WARMING entry does, which compares
with the target that held just before. -/
inductive Adoption where
  | skip
  | keep
  | entry (old : Option Int)
deriving DecidableEq, Repr

/-- The integral after an adoption (R94). -/
def adoptedIntegral (rule : Adoption) (ht : Option Int) (i : Nat) : Nat :=
  if !heating ht then 0
  else match rule with
    | .entry old => if old = ht then i else 0
    | _ => i

/-- The heat regulator adopts the HT that now stands (R94). While a sample event is under way (`inSample`) the demand
is left to part 6 of that event (R90 part 6). -/
def adoptTarget (n : StationId) (rule : Adoption) (inSample : Bool) (s : State) : State :=
  match rule with
  | .skip => s
  | _ =>
    let s1 := retestReached n
      (s.modHeat n (fun h => { h with integral := adoptedIntegral rule (s.heatTarget n) h.integral }))
    if inSample then s1 else setDemand n (s1.heldDemand n) s1

/-- What every change of state or phase brings about (R25): the commanded speed, the heat target, the grants. -/
def stateChanged (n : StationId) (rule : Adoption) (inSample : Bool) (s : State) : State :=
  recomputeArbiter (adoptTarget n rule inSample (recomputeDrive n s))

/-- In IDLE the demand follows the manual heat demand at once (R99). -/
def followManualHeat (n : StationId) (s : State) : State :=
  if (s.st n).run.state = .idle then setDemand n (s.idleDemand n) s else s

/-- The manual heat demand returns to 0 with its hold timer stopped, and the demand follows (R122, R99). -/
def dropManualHeat (n : StationId) (s : State) : State :=
  followManualHeat n (s.modDrive n (fun d => { d with manualHeat := 0, heatHold := none }))

end Sys2Proof.Machine
end

