-- ==== Sys2Proof/Machine/Engine.lean ====
section
/-! DEFINITION. The step engine (chapter 2): step reports and step end (R36, R56), faults (R51 to R54), step entry
and its phases (R27 to R30), loops and recipe end (R37, R38), pauses (R41 to R43). -/

namespace Sys2Proof.Machine

open Sys2Proof

/-! ### Step end (R36, R56) -/

/-- The added weight: net minus dose base, absent without a base (R72). -/
def Station.added (st : Station) : Option Int := st.run.doseBase.map (fun b => st.weigh.net - b)

/-- The elapsed time that a step end reports (R56). A step skipped or faulted in LOCKING or BASING reports 0 (R46, R53), also where
a RESUME has led an ACTIVE step back to LOCKING with its elapsed time frozen (DESIGN CHOICE, notes/assumptions/36.md). -/
def Station.reportedElapsed (st : Station) (o : StepOutcome) : Nat :=
  if (o = .skipped ∨ o = .faulted) ∧ (st.run.phase = some .locking ∨ st.run.phase = some .basing) then 0
  else st.run.elapsed

/-- The step report of this moment (R56). -/
def Station.captureReport (st : Station) (o : StepOutcome) : StepReport :=
  { step := st.run.step.getD 0, outcome := o, elapsed := st.reportedElapsed o, net := st.weigh.net
    added := st.added, bowl := st.heat.bowl, flags := st.run.flags, stale := st.weigh.stale }

/-- A STEP_REPORT is originated (R191): dropped while the control port is ISOLATED (R165), counted REPORT_LOST at
its cap (R161), and else a new frame. -/
def originateStepReport (n : StationId) (r : StepReport) (s : State) : State :=
  if s.control.health ≠ .isolated ∧ Config.stepReportCap ≤ s.stepReportsHeld then countStation n .reportLost s
  else originate (.stepReport n) Config.broadcast (stepReportPayload n r) s

/-- The run context after parts 1 and 4 of a step end (R36). -/
def endedRun (rep : StepReport) (r : RunContext) : RunContext :=
  { r with
    lastReport := some rep
    speedOverride := none
    tempOverride := none
    extension := 0
    doseBase := none
    deadline := none }

/-- The current step ends with outcome `o` (R36). -/
def endStep (n : StationId) (o : StepOutcome) (s : State) : State :=
  let rep := (s.st n).captureReport o
  (originateStepReport n rep (setNotice (.stepEnd n) s)).modRun n (endedRun rep)

/-- The run context at entry into IDLE, WARMING or FAULT: each field that belongs to other states takes its After
reset value, and elapsed time and loop counter are 0 (R24, R38, R45, R53). -/
def clearedRun (state : RunState) (r : RunContext) : RunContext :=
  { r with
    state := state
    phase := none
    savedPhase := none
    phaseAfterLock := none
    pauseReason := none
    step := none
    loopCounter := 0
    elapsed := 0
    effLimit := none
    extension := 0
    reversal := none
    doseBase := none
    speedOverride := none
    tempOverride := none
    deadline := none
    flags := {}
    warmingElapsed := 0
    warmingLimit := none
    tenthMs := 0
    warmMs := 0 }

/-! ### Faults (R51 to R54) -/

/-- A further fault in FAULT (R54). -/
def furtherFault (n : StationId) (s : State) : State :=
  setNotice (.fault n)
    (s.modRun n (fun r => { r with furtherFaults := satInc 255 r.furtherFaults, more := true }))

/-- The run context a fault entry leaves, with `further` standing causes found beside the first (R52, R53). -/
def faultedRun (c : FaultCause) (further : Nat) (r : RunContext) : RunContext :=
  { clearedRun .fault r with faultCause := some c, furtherFaults := min 255 further, more := decide (0 < further) }

/-- The manual demands as an accepted START and a fault entry leave them (R23, R53). That the manual direction stays is the
model's choice (DESIGN CHOICE, notes/assumptions/30.md). -/
def clearedManual (d : DriveContext) : DriveContext :=
  { d with manualSpeed := 0, speedHold := none, manualHeat := 0, heatHold := none, manualLid := none }

/-- Fault entry (R53). `further` is the number of further standing causes of the same test (R52). -/
def enterFault (n : StationId) (c : FaultCause) (further : Nat) (inSample : Bool) (s : State) : State :=
  let s1 :=
    match (s.st n).run.state with
    | .running => endStep n .faulted s
    | .paused => endStep n .faulted s
    | _ => s
  let s2 := (s1.modRun n (faultedRun c further)).modDrive n clearedManual
  setNotice (.fault n) (askUnlock n (stateChanged n .keep inSample s2))

/-- A cause of "every state": a fault entry, or in FAULT a further fault unless the previous report already carried
the condition (R51, R54). -/
def raiseCause (n : StationId) (c : FaultCause) (carried : Bool) (s : State) : State :=
  if (s.st n).run.state = .fault then (if carried then s else furtherFault n s)
  else enterFault n c 0 false s

/-- A silence or an isolation: a fault entry where R51 lists the station's state (`faults`), a further fault in
FAULT (R54). -/
def raiseSilence (n : StationId) (c : FaultCause) (faults : Bool) (s : State) : State :=
  if (s.st n).run.state = .fault then furtherFault n s
  else if faults then enterFault n c 0 false s
  else s

/-- The station is RUNNING, PAUSED or WARMING (R51). -/
def busyState : RunState → Bool
  | .running => true
  | .paused => true
  | .warming => true
  | _ => false

/-- The standing causes of R52, in test order, for entering RUNNING with this step record, or WARMING with none,
under heat target `ht`. -/
def State.standing (s : State) (n : StationId) (rec : Option StepRecord) (ht : Option Int) : List FaultCause :=
  (if s.applianceIsolated then [.link] else []) ++
  (if s.silent n .drive then [.driveSilent] else []) ++
  (if heating ht && s.silent n .heater then [.heaterSilent] else []) ++
  (match rec with
    | some r => if (r.dose != 0 || r.endWeight) && s.silent n .weigh then [.weighSilent] else []
    | none => []) ++
  (if heating ht && s.silent n .thermo then [.thermoSilent] else [])

/-! ### Phases (R28 to R30) -/

/-- Entry into ACTIVE (R30). -/
def enterActive (n : StationId) (rule : Adoption) (inSample : Bool) (s : State) : State :=
  let s1 := stateChanged n rule inSample
    (s.modRun n (fun r => { r with
      state := .running, phase := some .active, phaseAfterLock := none, savedPhase := none, pauseReason := none
      deadline := none }))
  if (s1.curStep n).endConfirm then setNotice (.confirm n) s1 else s1

/-- Entry into BASING, with a new 5000 ms deadline (R29). -/
def enterBasing (n : StationId) (rule : Adoption) (inSample : Bool) (s : State) : State :=
  stateChanged n rule inSample
    (s.modRun n (fun r => { r with
      state := .running, phase := some .basing, phaseAfterLock := none, savedPhase := none, pauseReason := none
      deadline := some Config.basingMs }))

/-- LOCKING ends, and the station goes on to the phase after lock (R28). -/
def leaveLocking (n : StationId) (rule : Adoption) (inSample : Bool) (s : State) : State :=
  match (s.st n).run.phaseAfterLock with
  | some .basing => enterBasing n rule inSample s
  | _ => enterActive n rule inSample s

/-- The part acts on the lid report in LOCKING (R28): a locked lid ends LOCKING; on a closed and unlocked lid LOCK goes out
and the deadline starts, unless it runs; on an open, silent or unreported lid the deadline is absent. -/
def actOnLid (n : StationId) (s : State) : State :=
  let waits := s.modRun n (fun r => { r with deadline := none })
  if s.lidLocked n then leaveLocking n .skip false s
  else if s.silent n .lid then waits
  else match (s.st n).drive.lidReport with
    | none => waits
    | some r =>
      if r.closed then
        (match (s.st n).run.deadline with
          | some _ => s
          | none => (lockLid n s).modRun n (fun r => { r with deadline := some Config.lockingMs }))
      else waits

/-- Entry into LOCKING with this phase after lock (R27, R28, R29). -/
def enterLocking (n : StationId) (after : Phase) (rule : Adoption) (inSample : Bool) (s : State) : State :=
  actOnLid n (stateChanged n rule inSample
    (s.modRun n (fun r => { r with
      state := .running, phase := some .locking, phaseAfterLock := some after, savedPhase := none
      pauseReason := none, deadline := none })))

/-- BASING ends (R29): to LOCKING when the step needs a lid that is not locked, else to ACTIVE. -/
def leaveBasing (n : StationId) (s : State) : State :=
  if (s.curStep n).lock && !s.lidLocked n then enterLocking n .active .skip false s
  else enterActive n .skip false s

/-! ### Step entry, loops and recipe end (R27, R37, R38) -/

/-- Whether a step has a limit (R31). -/
def StepRecord.hasLimit (r : StepRecord) : Bool := r.endTime || 0 < r.duration

/-- The effective limit (R31). -/
def effectiveLimit (r : StepRecord) (ext : Nat) : Nat :=
  if r.hasLimit then min Config.elapsedMax (r.duration * 10 + ext * 10) else Config.elapsedMax

/-- The run context at entry of step `i` (R27). -/
def enteredRun (i : Nat) (rec : StepRecord) (r : RunContext) : RunContext :=
  { r with
    state := .running
    phase := none
    savedPhase := none
    phaseAfterLock := none
    pauseReason := none
    step := some i
    elapsed := 0
    tenthMs := 0
    reversal := some .fwd
    doseBase := none
    flags := {}
    deadline := none
    extension := 0
    speedOverride := none
    tempOverride := none
    effLimit := some (effectiveLimit rec 0) }

/-- The record in slot `i` of a station; an empty record where there is none. -/
def Station.slot (st : Station) (i : Nat) : StepRecord := ((st.steps[i]?).join).getD {}

/-- Entry of step `i` (R27). `old` is the effective heat target that held just before (R94). -/
def enterStep (n : StationId) (i : Nat) (old : Option Int) (inSample : Bool) (s : State) : State :=
  let rec1 := (s.st n).slot i
  let s1 := s.modRun n (enteredRun i rec1)
  match s1.standing n (some rec1) (s1.heatTarget n) with
  | c :: further => enterFault n c further.length inSample s1
  | [] =>
    if rec1.lock && !s1.lidLocked n then
      enterLocking n (if 0 < rec1.dose then .basing else .active) (.entry old) inSample s1
    else if 0 < rec1.dose then enterBasing n (.entry old) inSample s1
    else enterActive n (.entry old) inSample s1

/-- Entry into IDLE (R24, R38, R45, R55): the run fields clear, the neighbours follow, and the pending unlock is set
when `unlock` says so. -/
def enterIdle (n : StationId) (unlock inSample : Bool) (s : State) : State :=
  let s1 := stateChanged n .keep inSample (s.modRun n (clearedRun .idle))
  if unlock then askUnlock n s1 else s1

/-- Entry into WARMING (R38), with its standing causes (R52). -/
def enterWarming (n : StationId) (old : Option Int) (inSample : Bool) (s : State) : State :=
  let s1 := s.modRun n (fun r =>
    { clearedRun .warming r with warmingLimit := some (s.st n).limits.keepWarmLimit })
  match s1.standing n none (s1.heatTarget n) with
  | c :: further => enterFault n c further.length inSample s1
  | [] => askUnlock n (stateChanged n (.entry old) inSample s1)

/-- The recipe ends after a step with this record (R38). -/
def endRecipe (n : StationId) (rec : StepRecord) (old : Option Int) (inSample : Bool) (s : State) : State :=
  let s1 := setNotice (.recipeEnd n) s
  if rec.keepWarm then enterWarming n old inSample s1 else enterIdle n true inSample s1

/-- The next step and loop counter after a step with this record at index `i` (R5, R37). -/
def nextStep (rec : StepRecord) (i loop : Nat) : Nat × Nat :=
  if rec.loopCount = 0 then (i + 1, loop)
  else if loop < rec.loopCount then (rec.loopTarget, loop + 1)
  else (i + 1, 0)

/-- The current step ends with an outcome that goes on, and the next is entered or the recipe ends (R36 to R38). -/
def finishStep (n : StationId) (o : StepOutcome) (inSample : Bool) (s : State) : State :=
  let old := s.heatTarget n
  let rec1 := s.curStep n
  let next := nextStep rec1 ((s.st n).run.step.getD 0) (s.st n).run.loopCounter
  let s1 := (endStep n o s).modRun n (fun r => { r with loopCounter := next.2 })
  if next.1 < (s.st n).recipeLength then enterStep n next.1 old inSample s1
  else endRecipe n rec1 old inSample s1

/-! ### Pauses (R41 to R43) -/

/-- The station enters PAUSED from its present phase (R41, R42). -/
def pauseStation (n : StationId) (why : PauseReason) (s : State) : State :=
  setNotice (.paused n) (stateChanged n .keep false
    (s.modRun n (fun r => { r with
      state := .paused, savedPhase := r.phase, phase := none, pauseReason := some why
      flags := { r.flags with paused := true } })))

/-- A step with LOCK that is RUNNING in ACTIVE loses its lid (R42). -/
def State.losesLid (s : State) (n : StationId) : Bool :=
  (s.st n).run.state == .running && (s.st n).run.phase == some .active && (s.curStep n).lock

end Sys2Proof.Machine
end

