-- ==== Sys2Proof/Machine/Weigh.lean ====
section
/-! DEFINITION. The weigh unit (chapter 3): gross weight (R62, R63), ring and filter (R64, R65), settle test (R66),
net weight (R68), flush (R69), the operations' completion (R77, R80, R82) and the intake of a sample (R60, R61). -/

namespace Sys2Proof.Machine

open Sys2Proof

/-- The sum of the four differences (R62). -/
def cellSum (c : WeighConfig) (x : WeighSample) : Int :=
  (x.c0 - c.zero0) + (x.c1 - c.zero1) + (x.c2 - c.zero2) + (x.c3 - c.zero3)

/-- The gross weight (R63). -/
def grossOf (gain s : Int) : Int := clampInt (-Config.grossMax) Config.grossMax (roundDiv (s * gain) 65536)

/-- The ring with a new weight, oldest first, at most 32 (R64). -/
def pushRing (ring : List Int) (w : Int) : List Int :=
  if ring.length < Config.ringMax then ring ++ [w] else ring.drop (ring.length + 1 - Config.ringMax) ++ [w]

/-- The most recent `k` values of a ring. -/
def recent (ring : List Int) (k : Nat) : List Int := ring.drop (ring.length - k)

/-- The mean of the most recent values over a window (R65). -/
def filteredOf (ring : List Int) (window : Nat) : Int :=
  let k := min window ring.length
  roundDiv (recent ring k).sum k

/-- The largest and smallest of some values differ by at most `band`. -/
def within (band : Int) (l : List Int) : Bool := l.all (fun x => l.all (fun y => x - y ≤ band))

/-- The settle test (R66). -/
def settledOf (ring : List Int) (band : Int) : Bool :=
  Config.settleSpan ≤ ring.length && within band (recent ring Config.settleSpan)

/-- The net weight (R68). -/
def netOf (cap filtered tare : Int) : Int := clampInt (-cap) cap (filtered - tare)

/-- A ring flush (R69). -/
def flushRing (w : WeighContext) : WeighContext :=
  { w with ring := [], lastSeq := none, settled := false, overload := false }

/-- The operation field returns to NONE with its count, sums, mass and deadline discarded (R74, R84). -/
def clearOp (w : WeighContext) : WeighContext :=
  { w with
    op := .none, accCount := 0, sum0 := 0, sum1 := 0, sum2 := 0, sum3 := 0, sumS := 0
    refMass := none, opDeadline := none }

/-- The outcome becomes the last outcome of the running operation's kind (R74). -/
def recordOutcome (o : OpOutcome) (w : WeighContext) : WeighContext :=
  match w.op with
  | .none => w
  | .taring => { w with lastTare := some o }
  | .zeroing => { w with lastZero := some o }
  | .calibrating => { w with lastCal := some o }

/-- The operation in progress ends with an outcome and sets WEIGH_OP_n (R74). -/
def endOp (n : StationId) (o : OpOutcome) (s : State) : State :=
  setNotice (.weighOp n) (s.modWeigh n (fun w => clearOp (recordOutcome o w)))

/-- The tare changes to `t`: a dose base moves by the change (R73) and the net weight follows (R68, R77). -/
def changeTare (n : StationId) (t : Int) (s : State) : State :=
  let cap := (s.st n).weighCfg.cap
  let old := (s.st n).weigh.tare
  (s.modRun n (fun r => { r with doseBase := r.doseBase.map (fun b => clampInt (-cap) cap (b - (t - old))) })).modWeigh n
    (fun w => { w with tare := t, net := netOf cap w.filtered t })

/-- Parts 1 to 6 of a filter update, for window `win` (R61 to R68). -/
def filterUpdate (c : WeighConfig) (win : Nat) (x : WeighSample) (w : WeighContext) : WeighContext :=
  let ring := pushRing w.ring (grossOf c.gain (cellSum c x))
  let f := filteredOf ring win
  { w with
    ring := ring
    filtered := f
    settled := settledOf ring c.band
    overload := decide (c.cap < f)
    net := netOf c.cap f w.tare }

/-- Part 7 of a filter update (R61): the WEIGHT test of an ACTIVE dose step (R33), or the base capture of BASING
(R29). -/
def weighStep (n : StationId) (s : State) : State :=
  let st := s.st n
  match st.run.state, st.run.phase with
  | .running, some .active =>
    (match st.added with
      | some a =>
        if (s.curStep n).endWeight && ((s.curStep n).dose : Int) - st.weighCfg.doseTol ≤ a then
          finishStep n .weight false s
        else s
      | none => s)
  | .running, some .basing =>
    if st.weigh.settled then
      leaveBasing n (s.modRun n (fun r => { r with doseBase := some st.weigh.net, deadline := none }))
    else s
  | _, _ => s

/-- The sixteenth sample of a zero capture sets the offsets (R80). -/
def completeZero (n : StationId) (s : State) : State :=
  let w := (s.st n).weigh
  let s1 := s.modSt n (fun st => { st with
    weighCfg := { st.weighCfg with
      zero0 := roundDiv w.sum0 16, zero1 := roundDiv w.sum1 16
      zero2 := roundDiv w.sum2 16, zero3 := roundDiv w.sum3 16 }
    weigh := { flushRing w with tare := 0, filtered := 0, net := 0 } })
  endOp n .done s1

/-- The gain a calibration computes, or `none` outside the gain range (R82). -/
def calibratedGain (mass sumS : Int) : Option Int :=
  let avg := roundDiv sumS 16
  if avg ≤ 0 then none
  else
    let g := roundDiv (mass * 65536) avg
    if g = 0 ∨ Config.gainMax < g then none else some g

/-- The sixteenth sample of a calibration sets the gain or fails (R82). -/
def completeCalibrate (n : StationId) (s : State) : State :=
  let w := (s.st n).weigh
  let m := w.refMass.getD 0
  match calibratedGain m w.sumS with
  | none => endOp n .failedRange s
  | some g =>
    endOp n .done (s.modSt n (fun st => { st with
      weighCfg := { st.weighCfg with gain := g }
      weigh := { flushRing w with filtered := m, net := netOf st.weighCfg.cap m w.tare } }))

/-- Part 8 of a filter update: an operation in progress advances (R61, R77, R80, R82). -/
def advanceOp (n : StationId) (x : WeighSample) (s : State) : State :=
  let w := (s.st n).weigh
  match w.op with
  | .none => s
  | .taring =>
    if w.settled then
      endOp n .done (changeTare n (clampInt (-(s.st n).weighCfg.cap) (s.st n).weighCfg.cap w.filtered) s)
    else s
  | .zeroing =>
    let s1 := s.modWeigh n (fun w => { w with
      sum0 := w.sum0 + x.c0, sum1 := w.sum1 + x.c1, sum2 := w.sum2 + x.c2, sum3 := w.sum3 + x.c3
      accCount := w.accCount + 1 })
    if Config.captureSamples ≤ w.accCount + 1 then completeZero n s1 else s1
  | .calibrating =>
    let s1 := s.modWeigh n (fun w => { w with
      sumS := w.sumS + cellSum (s.st n).weighCfg x, accCount := w.accCount + 1 })
    if Config.captureSamples ≤ w.accCount + 1 then completeCalibrate n s1 else s1

/-- The window a filter update uses, from the commanded speed held when it is taken (R65). -/
def Station.window (st : Station) : Nat :=
  if 0 < st.drive.commanded then st.weighCfg.stir else st.weighCfg.still

/-- An accepted sample: last sequence, STALE cleared, and the filter update taken whole (R60, R61). -/
def acceptSample (n : StationId) (x : WeighSample) (s : State) : State :=
  let st := s.st n
  advanceOp n x (weighStep n (s.modWeigh n (fun w =>
    filterUpdate st.weighCfg st.window x { w with lastSeq := some x.seq, stale := false })))

/-- A delivered WEIGH_SAMPLE: a duplicate is discarded, a gap is counted (R60). -/
def takeWeighSample (n : StationId) (x : WeighSample) (s : State) : State :=
  match (s.st n).weigh.lastSeq with
  | none => acceptSample n x s
  | some q =>
    if x.seq = q then countStation n .duplicates s
    else if x.seq = q + 1 then acceptSample n x s
    else acceptSample n x (countStation n .gaps s)

end Sys2Proof.Machine
end

