-- ==== Sys2Proof/Machine/Samples.lean ====
section
/-! DEFINITION. What the station blocks do with the other frames delivered to them: THERMO_SAMPLE (R89 to R91,
R95 to R98), HEAT_STATE (R92), DRIVE_STATE (R124), LID_STATE (R125) and the guarded setpoints (R120 to R123). -/

namespace Sys2Proof.Machine

open Sys2Proof

/-! ### Temperature -/

/-- Part 1 of a sample event (R89, R90): the sample is stored and counted. -/
def storeThermo (t : Int) (fault : Bool) (h : HeatContext) : HeatContext :=
  if fault then { h with sensorFault := some true, samples := satInc Config.counterMax h.samples }
  else { h with bowl := some t, sensorFault := some false, samples := satInc Config.counterMax h.samples }

/-- The stored temperature is at or above a bound. -/
def atLeast (bowl : Option Int) (bound : Nat) : Bool :=
  match bowl with
  | some t => (bound : Int) ≤ t
  | none => false

/-- Part 2 of a sample event (R90, R91): the fault test, against the context before the sample for the repeats. -/
def thermoFaults (n : StationId) (t : Int) (fault : Bool) (before : HeatContext) (s : State) : State :=
  let bound := (s.st n).limits.overtemp
  if fault then raiseCause n .thermoSensor (before.sensorFault == some true) s
  else if (bound : Int) ≤ t then raiseCause n .overtemp (atLeast before.bowl bound) s
  else s

/-- Part 4 of a sample event (R34, R90): the TEMP test. -/
def tempStep (n : StationId) (t : Int) (s : State) : State :=
  let st := s.st n
  if st.run.state = .running ∧ st.run.phase = some .active ∧ (s.curStep n).endTemp = true ∧
      (s.heatTarget n).getD 0 - st.heatCfg.reachBand ≤ t then
    finishStep n .temp true s
  else s

/-- Part 6 and 7 of a good sample's event (R90, R95 to R97, R99): the demand, with the integral advanced once. `grant`
and `demand` are those before the sample (R96). -/
def thermoDemand (n : StationId) (t : Int) (grant demand : Nat) (s : State) : State :=
  let st := s.st n
  match s.heatTarget n with
  | none => setDemand n (s.idleDemand n) s
  | some ht =>
    if ht ≤ 0 then setDemand n 0 (s.modHeat n (fun h => { h with integral := 0 }))
    else if s.silent n .thermo then setDemand n 0 s
    else
      let e := ht - t
      let i := advanceIntegral st.limits.pmax st.heatCfg.ki e grant demand st.heat.integral
      setDemand n (clampDemand st.limits.pmax (propTerm st.heatCfg.kp e + i))
        (s.modHeat n (fun h => { h with integral := i }))

/-- A delivered THERMO_SAMPLE, parts 1 to 7 in order (R90). -/
def takeThermoSample (n : StationId) (t : Int) (fault : Bool) (s : State) : State :=
  let before := (s.st n).heat
  let grant := (s.side n).grant
  let s2 := thermoFaults n t fault before (s.modHeat n (storeThermo t fault))
  if fault then s2
  else thermoDemand n t grant before.demand (retestReached n (tempStep n t (recomputeEnvelope n s2)))

/-! ### Heater, drive and lid reports -/

/-- A delivered HEAT_STATE (R92). -/
def takeHeatState (n : StationId) (r : HeatReport) (s : State) : State :=
  let carried := match (s.st n).heat.report with
    | some p => p.fault
    | none => false
  let s1 := s.modHeat n (fun h => { h with report := some r })
  if r.fault then raiseCause n .heaterFault carried s1 else s1

/-- A delivered DRIVE_STATE, parts 1 to 4 (R124). -/
def takeDriveState (n : StationId) (r : DriveReport) (s : State) : State :=
  let carried := match (s.st n).drive.report with
    | some p => p.fault
    | none => false
  let s1 := s.modDrive n (fun d => { d with report := some r })
  let s2 := if r.fault then raiseCause n .driveFault carried s1 else s1
  testUnlock n (setDraw n r.draw s2)

/-- A delivered LID_STATE, parts 1 to 3 (R125). -/
def takeLidState (n : StationId) (r : LidReport) (s : State) : State :=
  let s1 := s.modDrive n (fun d => { d with lidReport := some r })
  let s2 :=
    if (s1.st n).run.state = .running ∧ (s1.st n).run.phase = some .locking then actOnLid n s1
    else if s1.losesLid n && !(r.closed && r.locked) then pauseStation n .lid s1
    else s1
  recomputeEnvelope n s2

/-! ### Manual demands (R121, R123) -/

/-- A guarded SPEED_SET taken in IDLE (R121). -/
def manualSpeed (n : StationId) (v : Nat) (dir : Direction) (s : State) : State :=
  recomputeDrive n (s.modDrive n (fun d =>
    { d with manualSpeed := v, manualDir := dir, speedHold := some (s.st n).limits.manualHold }))

/-- A guarded HEAT_SET taken in IDLE (R121). -/
def manualHeat (n : StationId) (w : Nat) (s : State) : State :=
  followManualHeat n (s.modDrive n (fun d =>
    { d with manualHeat := min w (s.st n).limits.pmax, heatHold := some (s.st n).limits.manualHold }))

/-- A guarded LID_SET taken in IDLE (R123). -/
def manualLid (n : StationId) (c : LidCmd) (s : State) : State :=
  let s1 := s.modDrive n (fun d => { d with manualLid := some c })
  match c with
  | .lock => lockLid n (s1.modDrive n (fun d => { d with pendingUnlock := false }))
  | .unlock => askUnlock n s1

end Sys2Proof.Machine
end

