-- ==== Sys2Proof/Machine/Nodes.lean ====
section
/-! DEFINITION. The node table's events (chapter 7): a role falling silent (R140) or being heard again (R141),
removal with its locks (R16), learning (R135) and admission (R133 to R136). -/

namespace Sys2Proof.Machine

open Sys2Proof

/-! ### Silence and being heard (R139 to R141) -/

/-- The WEIGH role falls silent: the weigh unit first (R70), then the step engine (R51). -/
def weighSilence (n : StationId) (s : State) : State :=
  let s1 := s.modWeigh n (fun w => { flushRing w with stale := true })
  let s2 := if (s.st n).weigh.op = .none then s1 else endOp n .stale s1
  raiseSilence n .weighSilent
    ((s2.st n).run.state == .running && ((s2.st n).run.phase == some .basing || (s2.curStep n).endWeight)) s2

/-- The THERMO role falls silent (R101, R51). -/
def thermoSilence (n : StationId) (s : State) : State :=
  let s1 := s.modHeat n (fun h => { h with integral := 0, reached := false })
  let s2 := if (s.st n).run.state = .idle
    then s1.modDrive n (fun d => { d with manualHeat := 0, heatHold := none }) else s1
  let s3 := setDemand n 0 s2
  raiseSilence n .thermoSilent
    ((s3.st n).run.state == .warming || ((s3.st n).run.state == .running && heating (s3.heatTarget n))) s3

/-- The HEATER role falls silent: the counted demand and the grant become 0 (R102, R107, R108), then R51. -/
def heaterSilence (n : StationId) (s : State) : State :=
  let s1 := recomputeArbiter (followDemand n s)
  raiseSilence n .heaterSilent
    ((s1.st n).run.state == .warming || ((s1.st n).run.state == .running && heating (s1.heatTarget n))) s1

/-- The DRIVE role falls silent (R126, R51). -/
def driveSilence (n : StationId) (s : State) : State :=
  let s1 := s.modDrive n (fun d => { d with spinDown := some Config.spinDownMs })
  let s2 := if (s.st n).run.state = .idle then dropManualSpeed n s1 else s1
  raiseSilence n .driveSilent (busyState (s2.st n).run.state) s2

/-- The LID role falls silent (R126): LOCKING loses its deadline, a LOCK step in ACTIVE pauses (R42), and the
envelope is recomputed. -/
def lidSilence (n : StationId) (s : State) : State :=
  let s1 :=
    if (s.st n).run.state = .running ∧ (s.st n).run.phase = some .locking then
      s.modRun n (fun r => { r with deadline := none })
    else if s.losesLid n then pauseStation n .lid s
    else s
  recomputeEnvelope n s1

/-- A station is told that a role has fallen silent (R140). -/
def roleSilent (n : StationId) (r : Role) (s : State) : State :=
  match r with
  | .drive => driveSilence n s
  | .heater => heaterSilence n s
  | .weigh => weighSilence n s
  | .thermo => thermoSilence n s
  | .lid => lidSilence n s

/-- A station is told that a role is heard again (R141). -/
def roleHeard (n : StationId) (r : Role) (s : State) : State :=
  match r with
  | .drive => s.modDrive n (fun d => { d with spinDown := none, spinDownElapsed := false })
  | .heater => recomputeArbiter (followDemand n s)
  | .weigh => s
  | .thermo => s
  | .lid => recomputeEnvelope n s

/-- The entry at an index becomes silent (R139): the flag, NODE_SILENT, and the bound station. -/
def becomeSilent (i : Nat) (e : NodeEntry) (s : State) : State :=
  let s1 := setNotice .nodeSilent (s.setEntry i (some { e with silent := true }))
  match s1.boundAs e.number with
  | some (n, r) => roleSilent n r s1
  | none => s1

/-- An admitted frame from an entry's node on its own port (R134): age 0, and a silence ends (R141). -/
def hearNode (i : Nat) (e : NodeEntry) (s : State) : State :=
  let s1 := s.setEntry i (some { e with age := 0, silent := false })
  if e.silent then
    match s1.boundAs e.number with
    | some (n, r) => roleHeard n r s1
    | none => s1
  else s1

/-! ### Ages that have reached their end (R137 to R139, R142) -/

/-- A LEARNED entry at or above an AGE_LIMIT (R137, R138). -/
def NodeEntry.tooOld (limit : Nat) (e : NodeEntry) : Bool := e.origin == .learned && limit * 100 ≤ e.age

/-- An entry is due to become silent (R139, R142). -/
def NodeEntry.silenceDue (e : NodeEntry) : Bool :=
  e.origin == .static && !e.silent && e.limit != 0 && e.limit / 10 ≤ e.age

/-! ### Removal and learning (R16, R131, R135) -/

/-- The recipe locks that node `k` holds become free (R16). -/
def releaseLocks (k : NodeId) (s : State) : State :=
  let free := fun st : Station => if st.lockHolder = some k then { st with lockHolder := none } else st
  (s.modSt .zero free).modSt .one free

/-- The entry at an index is removed and its node's locks are released (R131, R16). -/
def removeEntry (i : Nat) (s : State) : State :=
  match s.entryAt i with
  | some e => releaseLocks e.number (s.setEntry i none)
  | none => s

/-- The port's learn limit leaves room (R135). -/
def State.limitRoom (s : State) (p : Port) : Bool :=
  (s.port p).cfg.learnLimit == 0 || s.learnedCount p < (s.port p).cfg.learnLimit

/-- A LEARNED entry with age 0. -/
def learnedEntry (k : NodeId) (p : Port) : NodeEntry :=
  { number := k, port := p, origin := .learned, age := 0, limit := 0, silent := false }

/-! ### Admission (R133 to R136) -/

/-- A frame from a source without an entry (R135). The Bool says whether the frame is admitted. -/
def admitUnknown (p : Port) (k : NodeId) (s : State) : State × Bool :=
  match (s.port p).cfg.admission with
  | .closed => (countPort p .admission s, false)
  | mode =>
    match s.freeNode, s.limitRoom p with
    | some i, true => (s.setEntry i (some (learnedEntry k p)), true)
    | _, _ => if mode = .opened then (s, true) else (countPort p .admission s, false)

/-- A frame from a LEARNED source on the other port (R136). -/
def admitMoved (p : Port) (i : Nat) (k : NodeId) (s : State) : State × Bool :=
  match (s.port p).cfg.admission with
  | .closed => (countPort p .admission s, false)
  | mode =>
    if s.limitRoom p then (s.setEntry i (some (learnedEntry k p)), true)
    else if mode = .opened then (removeEntry i s, true)
    else (countPort p .admission s, false)

/-- The node table decides a frame's fate by source and arrival port (R133 to R136). -/
def admitSource (p : Port) (k : NodeId) (s : State) : State × Bool :=
  if k = s.ownNode ∨ k = Config.broadcast then (countPort p .idClash s, false)
  else
    match s.nodeIndex k with
    | none => admitUnknown p k s
    | some i =>
      match s.entryAt i with
      | none => admitUnknown p k s
      | some e =>
        if e.port = p then (hearNode i e s, true)
        else if e.origin = .static then (countPort p .portConflict s, false)
        else admitMoved p i k s

end Sys2Proof.Machine
end

