-- ==== Sys2Proof/Machine/Route.lean ====
section
/-! DEFINITION. The route unit and the arrival of a frame (chapter 8): classification (R147), the take part (R149),
the forward part (R148, R151, R156, R165), the guard (R120) and the event as a whole (R154). -/

namespace Sys2Proof.Machine

open Sys2Proof

/-- The arrival port field of an entry accepts a port (R147). -/
def arrivalMatches (a : ArrivalMatch) (p : Port) : Bool :=
  match a, p with
  | .either, _ => true
  | .control, .control => true
  | .appliance, .appliance => true
  | _, _ => false

/-- A field equals a value under a mask (R147). -/
def underMask (x v m : BitVec 5) : Bool := x &&& m == v &&& m

/-- An entry matches a frame (R147). -/
def RouteEntry.accepts (e : RouteEntry) (p : Port) (f : Frame) : Bool :=
  e.enable && arrivalMatches e.arrival p && underMask f.kind e.kindValue e.kindMask &&
  underMask f.source e.sourceValue e.sourceMask && underMask f.dest e.destValue e.destMask

/-- The action and class of an admitted frame: the matching entry of lowest index, else the default action
(R147, R153). -/
def State.classify (s : State) (p : Port) (f : Frame) : RouteAction × RouteClass :=
  match s.routes.toList.find? (fun e => e.accepts p f) with
  | some e => (e.action, e.cls)
  | none => (if s.defaultForward then .forward else .drop, .byPriority)

/-- The class queue of a forwarded frame (R148). -/
def resolveClass (c : RouteClass) (f : Frame) : QClass :=
  match c with
  | .fixed q => q
  | .byPriority => priorityClass f.priority

/-! ### Forward part -/

/-- Local filtering (R151): the destination is on the arrival port, or is the part itself. -/
def State.isLocal (s : State) (p : Port) (f : Frame) : Bool :=
  f.dest == s.ownNode ||
  (match s.nodeEntry f.dest with
    | some e => e.port == p
    | none => false)

/-- A transit frame joins the tail of its class queue on a port, or is dropped and counted there while the port is
ISOLATED (R162, R165). -/
def enqueueTransit (p : Port) (c : QClass) (f : Frame) (s : State) : State :=
  if (s.port (otherPort p)).health = .isolated then countPort (otherPort p) .isolationDrop s
  else s.modPort (otherPort p) (fun q => q.modQueue c (· ++ [⟨f, .transit p, c⟩]))

/-- The forward part of a frame (R148): local filtering, the drop mode as it stood before the frame, the queue. -/
def forwardPart (p : Port) (rc : RouteClass) (f : Frame) (s : State) : State :=
  let c := resolveClass rc f
  if s.isLocal p f then countPort p .localDrop s
  else if c = .bulk ∧ (s.port p).dropMode = true then setNotice .drops (countPort p .buffer s)
  else enqueueTransit p c f s

/-! ### Take part -/

/-- A MGMT_REQ joins the request queue, or is dropped as MGMT_OVERFLOW (R182). -/
def joinRequests (r : Request) (s : State) : State :=
  if s.requests.length < Config.requestDepth then { s with requests := s.requests ++ [r] }
  else countPort .control .mgmtOverflow s

/-- A MGMT_REQ that meets a take part (R149). -/
def takeRequest (p : Port) (f : Frame) (s : State) : State :=
  if p ≠ .control ∨ f.dest ≠ s.ownNode then countPort p .route s
  else match f.payload with
    | code :: tag :: args => joinRequests ⟨code, tag, f.source, args⟩ s
    | _ => countPort p .format s

/-- A sample or report of the right length goes to the station that has its source bound in the role, and is else
counted UNBOUND or ROLE_MISMATCH (R149). -/
def deliver (p : Port) (src : NodeId) (role : Role) (give : StationId → State → State) (s : State) : State :=
  match s.boundAs src with
  | none => countPort p .unbound s
  | some (n, r) => if r = role then give n s else countPort p .roleMismatch s

/-- The take part of a frame (R149). `counts` says that a kind without a taker is counted as ROUTE: it is under TAKE
and not under TAKE_AND_FORWARD. -/
def takePart (p : Port) (f : Frame) (counts : Bool) (s : State) : State :=
  if f.kind = kindWeighSample then
    match readWeighSample f.payload with
    | some x => deliver p f.source .weigh (fun n => takeWeighSample n x) s
    | none => countPort p .format s
  else if f.kind = kindThermoSample then
    match readThermoSample f.payload with
    | some x => deliver p f.source .thermo (fun n => takeThermoSample n x.1 x.2) s
    | none => countPort p .format s
  else if f.kind = kindDriveState then
    match readDriveState f.payload with
    | some x => deliver p f.source .drive (fun n => takeDriveState n x) s
    | none => countPort p .format s
  else if f.kind = kindHeatState then
    match readHeatState f.payload with
    | some x => deliver p f.source .heater (fun n => takeHeatState n x) s
    | none => countPort p .format s
  else if f.kind = kindLidState then
    match readLidState f.payload with
    | some x => deliver p f.source .lid (fun n => takeLidState n x) s
    | none => countPort p .format s
  else if f.kind = kindMgmtReq then takeRequest p f s
  else if counts then countPort p .route s
  else s

/-! ### Guard (R120) -/

/-- The role a setpoint kind is for (R120). -/
def guardRole (k : BitVec 5) : Option Role :=
  if k = kindSpeedSet then some .drive
  else if k = kindHeatSet then some .heater
  else if k = kindLidSet then some .lid
  else none

/-- The station that has a node bound in this role. -/
def State.roleStation (s : State) (r : Role) (k : NodeId) : Option StationId :=
  if s.station0.binding.get r = some k then some .zero
  else if s.station1.binding.get r = some k then some .one
  else none

/-- What a guarded setpoint asks of an IDLE station; `none` where its format is wrong (R120 case 3). -/
def guardDemand (k : BitVec 5) (payload : List Byte) : Option (StationId → State → State) :=
  if k = kindSpeedSet then (readSpeedSet payload).map (fun x n => manualSpeed n x.1 x.2)
  else if k = kindHeatSet then (readHeatSet payload).map (fun x n => manualHeat n x)
  else (readLidSet payload).map (fun x n => manualLid n x)

/-- A frame whose action is GUARD (R120). -/
def guardFrame (p : Port) (rc : RouteClass) (f : Frame) (s : State) : State :=
  match (guardRole f.kind).bind (fun r => s.roleStation r f.dest) with
  | none => forwardPart p rc f s
  | some n =>
    match guardDemand f.kind f.payload with
    | none => countPort p .format s
    | some demand =>
      if (s.st n).run.state = .idle then demand n s else countStation n .owned s

/-! ### The arrival (R154) -/

/-- Part 5 of an arrival: the parts of the action (R148). -/
def routeFrame (p : Port) (f : Frame) (s : State) : State :=
  let c := s.classify p f
  match c.1 with
  | .forward => forwardPart p c.2 f s
  | .drop => countPort p .route s
  | .take => takePart p f true s
  | .takeAndForward => forwardPart p c.2 f (takePart p f false s)
  | .guard => guardFrame p c.2 f s

/-- The queue manager's work on an arriving frame, parts 1 to 6 (R154). -/
def arrive (p : Port) (f : Frame) (s : State) : State :=
  let s1 := countPort p .received s
  if s1.freeTransit = 0 then setNotice .drops (countPort p .noBuffer s1)
  else
    let a := admitSource p f.source s1
    updateDropMode p (if a.2 then routeFrame p f a.1 else a.1)

end Sys2Proof.Machine
end

