-- ==== Sys2Proof/Machine/Links.lean ====
section
/-! DEFINITION. The link ports (chapters 8 and 9): health changes (R176), isolation (R165, R178), recovery (R179),
the return of a frame to unsent (R164), the scheduler (R163), and a frame leaving the transmit engine. -/

namespace Sys2Proof.Machine

open Sys2Proof

/-! ### Health -/

/-- A port enters a health state; a change sets PORT_CHANGE (R176). -/
def setHealth (p : Port) (h : Health) (s : State) : State :=
  if (s.port p).health = h then s
  else setNotice .portChange (s.modPort p (fun q => { q with health := h }))

/-- Outside JOINING and ISOLATED the health state follows the counts (R176). -/
def followCounts (p : Port) (s : State) : State :=
  match (s.port p).health with
  | .active => setHealth p (healthOf (s.port p).tx (s.port p).rx) s
  | .passive => setHealth p (healthOf (s.port p).tx (s.port p).rx) s
  | _ => s

/-- The RX count after a receive error (R175): frozen at 127. -/
def rxUp (n : Nat) : Nat := satInc Config.rxMax n

/-- The RX count after a good frame (R175): frozen at 127, and 0 stays 0. -/
def rxDown (n : Nat) : Nat := if Config.rxMax ≤ n then n else n - 1

/-- The TX count after a counted transmit error (R174). -/
def txUp (n : Nat) : Nat := min Config.txMax (n + 8)

/-- The interframe gap a port must have read (R169). -/
def PortState.gapNeeded (q : PortState) : Nat :=
  if q.health = .passive ∧ q.wasTransmitter = true then Config.passiveGapBits else Config.gapBits

/-- The mark a port sends at an error (R173). -/
def markOf (h : Health) : Option Level :=
  match h with
  | .active => some .dominant
  | .passive => some .recessive
  | _ => none

/-- Whether a port drives the acknowledgment window of a good frame (R171). -/
def acknowledges (h : Health) : Bool :=
  match h with
  | .active => true
  | .passive => true
  | _ => false

/-! ### Isolation (R165, R178) -/

/-- ISOLATION_DROP counts once for each frame removed (R165). -/
def countDrops (p : Port) : Nat → State → State
  | 0, s => s
  | k + 1, s => countDrops p k (countPort p .isolationDrop s)

/-- What an isolation of the appliance port does to a station (R178 part 5). -/
def isolateStation (n : StationId) (s : State) : State :=
  if (s.st n).run.state = .idle then dropManualHeat n (dropManualSpeed n s)
  else raiseSilence n .link (busyState (s.st n).run.state) s

/-- A port enters ISOLATED (R178): the frame in transmission and the three queues are discarded and counted, the
recovery progress starts, PORT_CHANGE is set, and the stations act on an isolation of the appliance port. -/
def enterIsolated (p : Port) (s : State) : State :=
  let lost := (s.port p).entries.length
  let s1 := countDrops p lost (s.modPort p (fun q => { q with
    urgent := [], control := [], bulk := [], activity := .idle, idleBits := 0, goodFrames := 0
    errorMark := none }))
  let s2 := setHealth p .isolated s1
  match p with
  | .appliance => isolateStation .one (isolateStation .zero s2)
  | .control => s2

/-- A port leaves ISOLATED for JOINING (R179, R180): the interlocks are tested on the appliance port (R129), and a
NOTICE goes out on the control port when the accumulator is not empty (R188). -/
def leftIsolation (p : Port) (s : State) : State :=
  match p with
  | .appliance => testUnlock .one (testUnlock .zero s)
  | .control => if s.notices.accumulator = 0 then s else originateNotice s

/-- Recovery of an ISOLATED port (R179). A frame under way is not decoded further, for the port is JOINING (R177). -/
def recoverPort (p : Port) (s : State) : State :=
  leftIsolation p (setHealth p .joining (s.modPort p (fun q => { q with
    tx := 0, rx := 0, idleBits := 0, goodFrames := 0, activity := .idle, voided := false })))

/-- The measure of the recovery mode has reached its threshold (R179). -/
def PortState.measureMet (q : PortState) : Bool :=
  match q.cfg.recovery with
  | .quiet => Config.quietBits ≤ q.idleBits
  | .count => Config.countFrames ≤ q.goodFrames

/-- An ISOLATED port whose measure is met recovers (R179). -/
def recoverIfMet (p : Port) (s : State) : State :=
  if (s.port p).health = .isolated ∧ (s.port p).measureMet = true then recoverPort p s else s

/-! ### The scheduler (R163) -/

/-- The credits after the reload of step 2 of R163. -/
def reloadCredits (q : PortState) : PortState :=
  if q.urgent.isEmpty && !q.control.isEmpty && !q.bulk.isEmpty && q.creditControl == 0 && q.creditBulk == 0 then
    { q with creditControl := q.cfg.wc, creditBulk := q.cfg.wb }
  else q

/-- The class whose head the scheduler offers, after a reload (R163). -/
def PortState.choice (q : PortState) : Option QClass :=
  if !q.urgent.isEmpty then some .urgent
  else if !q.control.isEmpty && !q.bulk.isEmpty then
    (if 0 < q.creditControl then some .control else some .bulk)
  else if !q.control.isEmpty then some .control
  else if !q.bulk.isEmpty then some .bulk
  else none

/-- The chosen frame leaves the head of its queue for the transmit engine (R162, R163). -/
def offerFrame (q : PortState) : PortState :=
  match q.choice with
  | none => q
  | some c =>
    match q.queue c with
    | [] => q
    | e :: rest => { q.modQueue c (fun _ => rest) with activity := .contending e, errorMark := none, voided := false }

/-- The credit of the winning frame's class is spent, when above 0 (R163). -/
def spendCredit (c : QClass) (q : PortState) : PortState :=
  match c with
  | .urgent => { q with creditSpent := false }
  | .control => { q with creditControl := q.creditControl - 1, creditSpent := 0 < q.creditControl }
  | .bulk => { q with creditBulk := q.creditBulk - 1, creditSpent := 0 < q.creditBulk }

/-- The credit that the frame in transmission spent is given back (R180 part 3: without spending credit). -/
def unspendCredit (c : QClass) (q : PortState) : PortState :=
  if q.creditSpent then
    match c with
    | .urgent => q
    | .control => { q with creditControl := q.creditControl + 1 }
    | .bulk => { q with creditBulk := q.creditBulk + 1 }
  else q

/-! ### Return to unsent (R164) -/

/-- The role a setpoint kind is sent to, with its station. -/
def setpointRole : OwnKind → Option (StationId × Role)
  | .lidSet n => some (n, .lid)
  | .speedSet n => some (n, .drive)
  | .heatSet n => some (n, .heater)
  | _ => none

/-- A queue that holds a frame, less its first entry of this kind. -/
def removeFirst (k : OwnKind) : List Queued → List Queued
  | [] => []
  | e :: rest => if Queued.isKind k e then rest else e :: removeFirst k rest

/-- A returning setpoint without a newer frame whose destination is no longer bound to its role (R164). -/
def State.strayed (s : State) (k : OwnKind) (e : Queued) : Bool :=
  match setpointRole k with
  | some (n, r) => (s.st n).binding.get r != some e.frame.dest
  | none => false

/-- A frame returns to unsent at the head of its class queue (R164): a coalesced frame takes the contents of a newer
one, which frees its buffer; a setpoint whose node is no longer bound is discarded. -/
def returnUnsent (p : Port) (e : Queued) (s : State) : State :=
  match e.origin with
  | .transit _ => s.modPort p (fun q => q.modQueue e.cls (e :: ·))
  | .own k =>
    match (if k.coalesced then ((s.port p).queue e.cls).find? (Queued.isKind k) else none) with
    | some newer =>
      s.modPort p (fun q => q.modQueue e.cls (fun l => { e with frame := newer.frame } :: removeFirst k l))
    | none =>
      if s.strayed k e then s
      else s.modPort p (fun q => q.modQueue e.cls (e :: ·))

/-! ### Restart of a port (R180) -/

/-- The frame in the transmit engine, if any, stops and returns to unsent, with no credit spent; a frame being received is
abandoned (R180 parts 2 and 3). A NOTICE that returns does not restore the accumulator its win emptied (DESIGN CHOICE,
notes/assumptions/37.md). -/
def stopSending (p : Port) (s : State) : State :=
  match (s.port p).activity with
  | .contending e => returnUnsent p e (s.modPort p (fun q => { q with activity := .idle }))
  | .transmitting e => returnUnsent p e (s.modPort p (fun q => { unspendCredit e.cls q with activity := .idle }))
  | .idle => s
  | .receiving => s.modPort p (fun q => { q with activity := .idle })

/-- PORT_RESTART's effect on a port, parts 1 to 4 (R180). -/
def restartPort (p : Port) (s : State) : State :=
  let wasIsolated := (s.port p).health = .isolated
  let s1 := stopSending p (s.modPort p (fun q => { q with
    tx := 0, rx := 0, idleBits := 0, goodFrames := 0, wasTransmitter := false, errorMark := none, voided := false }))
  let s2 := setNotice .portChange (s1.modPort p (fun q => { q with health := .joining }))
  if wasIsolated then leftIsolation p s2 else s2

end Sys2Proof.Machine
end

