-- ==== Sys2Proof/Machine/Operands.lean ====
section
/-! DEFINITION. Every operand form of a management request: the codes inside arguments (section 11.4, R199), and
the range of every limit and configuration item (R19, R58, R88, R137, R157, R179). -/

namespace Sys2Proof.Machine

open Sys2Proof

/-- A station argument: 0 or 1. -/
def stationOf (b : Byte) : Option StationId :=
  if b = 0 then some .zero else if b = 1 then some .one else none

/-- A port argument: 0 or 1. -/
def portOf (b : Byte) : Option Port :=
  if b = 0 then some .control else if b = 1 then some .appliance else none

/-- A node number argument that the node table may hold: 0 to 30 and not the part's own (R131, R142). -/
def nodeOf (own : NodeId) (b : Byte) : Option NodeId :=
  if 30 < b.toNat ∨ b.setWidth 5 = own then none else some (b.setWidth 5)

/-- A five-bit field of a route entry (R152). -/
def fieldOf (b : Byte) : Option (BitVec 5) := if 31 < b.toNat then none else some (b.setWidth 5)

/-- An arrival port code (R152). -/
def arrivalOf (b : Byte) : Option ArrivalMatch :=
  if b = 0 then some .control else if b = 1 then some .appliance else if b = 2 then some .either else none

/-- An action code (R152). -/
def actionOf (b : Byte) : Option RouteAction :=
  if b = 0 then some .forward else if b = 1 then some .drop else if b = 2 then some .take
  else if b = 3 then some .takeAndForward else if b = 4 then some .guard else none

/-- A class code (R152). -/
def classOf (b : Byte) : Option RouteClass :=
  if b = 0 then some (.fixed .urgent) else if b = 1 then some (.fixed .control)
  else if b = 2 then some (.fixed .bulk) else if b = 3 then some .byPriority else none

/-- A route entry read field by field; a refusal gives the number of the first field that fails (R152). -/
def readRoute (port kv km sv sm dv dm act cls en : Byte) : Except Nat RouteEntry :=
  match arrivalOf port with
  | none => .error 1
  | some a => match fieldOf kv with
    | none => .error 2
    | some kv => match fieldOf km with
      | none => .error 3
      | some km => match fieldOf sv with
        | none => .error 4
        | some sv => match fieldOf sm with
          | none => .error 5
          | some sm => match fieldOf dv with
            | none => .error 6
            | some dv => match fieldOf dm with
              | none => .error 7
              | some dm => match actionOf act with
                | none => .error 8
                | some action => match classOf cls with
                  | none => .error 9
                  | some c => .ok
                    { enable := en.getLsbD 0, arrival := a, kindValue := kv, kindMask := km, sourceValue := sv
                      sourceMask := sm, destValue := dv, destMask := dm, action := action, cls := c }

/-- The ten fields of a route entry in the ROUTE_WRITE order (section 11.4). -/
def putRoute (e : RouteEntry) : List Byte :=
  [byteOf (arrivalCode e.arrival), e.kindValue.setWidth 8, e.kindMask.setWidth 8, e.sourceValue.setWidth 8,
   e.sourceMask.setWidth 8, e.destValue.setWidth 8, e.destMask.setWidth 8, byteOf (actionCode e.action),
   byteOf (classCode e.cls), if e.enable then 1 else 0]

/-! ### Station limits (R19) -/

/-- The present value of limit `id`; `none` above 9. -/
def limitValue (l : Limits) (id : Nat) : Option Nat :=
  match id with
  | 0 => some l.maxSpeed
  | 1 => some l.hotTemp
  | 2 => some l.hotSpeed
  | 3 => some l.openSpeed
  | 4 => some l.pmax
  | 5 => some l.overtemp
  | 6 => some l.keepWarmTemp
  | 7 => some l.keepWarmLimit
  | 8 => some l.refresh
  | 9 => some l.manualHold
  | _ => none

/-- The range of limit `id` (section 1.5). -/
def limitInRange (id v : Nat) : Bool :=
  match id with
  | 0 => v ≤ 12000
  | 1 => 300 ≤ v && v ≤ 1500
  | 2 => v ≤ 12000
  | 3 => v ≤ 300
  | 4 => v ≤ 2000
  | 5 => 1000 ≤ v && v ≤ 2400
  | 6 => 300 ≤ v && v ≤ 900
  | 7 => v == 0 || (60 ≤ v && v ≤ 14400)
  | 8 => 50 ≤ v && v ≤ 500
  | 9 => 500 ≤ v && v ≤ 10000
  | _ => false

/-- The limits with limit `id` replaced. -/
def setLimit (l : Limits) (id v : Nat) : Limits :=
  match id with
  | 0 => { l with maxSpeed := v }
  | 1 => { l with hotTemp := v }
  | 2 => { l with hotSpeed := v }
  | 3 => { l with openSpeed := v }
  | 4 => { l with pmax := v }
  | 5 => { l with overtemp := v }
  | 6 => { l with keepWarmTemp := v }
  | 7 => { l with keepWarmLimit := v }
  | 8 => { l with refresh := v }
  | 9 => { l with manualHold := v }
  | _ => l

/-! ### Weigh configuration (R58) -/

/-- The present value of weigh item `id`; `none` above 9. -/
def weighValue (c : WeighConfig) (id : Nat) : Option Int :=
  match id with
  | 0 => some c.cap
  | 1 => some c.still
  | 2 => some c.stir
  | 3 => some c.band
  | 4 => some c.doseTol
  | 5 => some c.gain
  | 6 => some c.zero0
  | 7 => some c.zero1
  | 8 => some c.zero2
  | 9 => some c.zero3
  | _ => none

/-- The range of weigh item `id` (R58). -/
def weighInRange (id : Nat) (v : Int) : Bool :=
  match id with
  | 0 => 10000 ≤ v && v ≤ 200000
  | 1 => 1 ≤ v && v ≤ 32
  | 2 => 1 ≤ v && v ≤ 32
  | 3 => 1 ≤ v && v ≤ 255
  | 4 => 0 ≤ v && v ≤ 255
  | 5 => 1 ≤ v && v ≤ 4194303
  | 6 => -8388608 ≤ v && v ≤ 8388607
  | 7 => -8388608 ≤ v && v ≤ 8388607
  | 8 => -8388608 ≤ v && v ≤ 8388607
  | 9 => -8388608 ≤ v && v ≤ 8388607
  | _ => false

/-- The weigh configuration with item `id` replaced. -/
def setWeighItem (c : WeighConfig) (id : Nat) (v : Int) : WeighConfig :=
  match id with
  | 0 => { c with cap := v }
  | 1 => { c with still := v.toNat }
  | 2 => { c with stir := v.toNat }
  | 3 => { c with band := v }
  | 4 => { c with doseTol := v }
  | 5 => { c with gain := v }
  | 6 => { c with zero0 := v }
  | 7 => { c with zero1 := v }
  | 8 => { c with zero2 := v }
  | 9 => { c with zero3 := v }
  | _ => c

/-! ### Heat configuration (R88) -/

/-- The present value of heat item `id`; `none` above 2. -/
def heatValue (c : HeatConfig) (id : Nat) : Option Nat :=
  match id with
  | 0 => some c.kp
  | 1 => some c.ki
  | 2 => some c.reachBand
  | _ => none

/-- The range of heat item `id` (R88). -/
def heatInRange (id v : Nat) : Bool :=
  match id with
  | 0 => v ≤ 255
  | 1 => v ≤ 255
  | 2 => v ≤ 100
  | _ => false

/-- The heat configuration with item `id` replaced. -/
def setHeatItem (c : HeatConfig) (id v : Nat) : HeatConfig :=
  match id with
  | 0 => { c with kp := v }
  | 1 => { c with ki := v }
  | 2 => { c with reachBand := v }
  | _ => c

/-! ### Port configuration (R137, R157, R179) -/

/-- The present value of port item `id`; `none` above 7. Item 2 is the one AGE_LIMIT of the table. -/
def State.portItem (s : State) (p : Port) (id : Nat) : Option Nat :=
  let c := (s.port p).cfg
  match id with
  | 0 => some (admissionCode c.admission)
  | 1 => some c.learnLimit
  | 2 => some s.ageLimit
  | 3 => some c.high
  | 4 => some c.low
  | 5 => some c.wc
  | 6 => some c.wb
  | 7 => some (recoveryCode c.recovery)
  | _ => none

/-- The range of port item `id` (R137, R157, R179). -/
def portItemInRange (id v : Nat) : Bool :=
  match id with
  | 0 => v ≤ 2
  | 1 => v ≤ 16
  | 2 => 1 ≤ v && v ≤ 600
  | 3 => 2 ≤ v && v ≤ 40
  | 4 => 1 ≤ v && v ≤ 39
  | 5 => 1 ≤ v && v ≤ 8
  | 6 => 1 ≤ v && v ≤ 8
  | 7 => v ≤ 1
  | _ => false

/-- A value that fits its range and not the port's other items, refused with detail 2 (R137, R157). -/
def State.portItemClashes (s : State) (p : Port) (id v : Nat) : Bool :=
  match id with
  | 1 => v != 0 && v < s.learnedCount p
  | 3 => v ≤ (s.port p).cfg.low
  | 4 => (s.port p).cfg.high ≤ v
  | _ => false

/-- Admission mode of a code in range. -/
def admissionOf (v : Nat) : Admission :=
  match v with
  | 0 => .opened
  | 1 => .guarded
  | _ => .closed

/-- The port configuration with item `id` replaced; AGE_LIMIT (2) is not one of the port's own. -/
def setPortItem (c : PortConfig) (id v : Nat) : PortConfig :=
  match id with
  | 0 => { c with admission := admissionOf v }
  | 1 => { c with learnLimit := v }
  | 3 => { c with high := v }
  | 4 => { c with low := v }
  | 5 => { c with wc := v }
  | 6 => { c with wb := v }
  | 7 => { c with recovery := if v = 0 then .quiet else .count }
  | _ => c

end Sys2Proof.Machine
end

