-- ==== Sys2Proof/Machine/Requests.lean ====
section
/-! DEFINITION. The management unit's turn (section 10.1): whose turn it is (R182, R183), the reply (R184), and
the forms every request's meaning is written in. -/

namespace Sys2Proof.Machine

open Sys2Proof

/-- The statuses of a reply (R184). -/
inductive Status where
  | done
  | granted
  | held
  | busy
  | wrongState
  | notHolder
  | notKnown
  | locked
  | full
  | noBinding
  | notReady
  | badRecipe
  | badValue
  | badRequest
deriving DecidableEq, Repr

/-- Status codes (R184). -/
def statusCode : Status → Nat
  | .done => 0
  | .granted => 1
  | .held => 2
  | .busy => 3
  | .wrongState => 4
  | .notHolder => 5
  | .notKnown => 6
  | .locked => 7
  | .full => 8
  | .noBinding => 9
  | .notReady => 10
  | .badRecipe => 11
  | .badValue => 12
  | .badRequest => 13

/-- What a request's rule answers (R184). -/
structure Answer where
  status : Status
  detail : Nat := 0
  data : List Byte := []
deriving DecidableEq, Repr

/-- DONE with data. -/
def done (data : List Byte) : Answer := { status := .done, data := data }

/-- A refusal with a detail and no data (R184). -/
def refuse (st : Status) (detail : Nat) : Answer := { status := st, detail := detail }

/-- BAD_REQUEST for an argument length the layout does not allow (R183). -/
def badLength : Answer := refuse .badRequest 1

/-- BAD_VALUE with detail 255, for a station or port that does not exist. -/
def badStation : Answer := refuse .badValue 255

/-- The payload of a MGMT_REPLY (section 11.2, R184). -/
def replyPayload (r : Request) (a : Answer) : List Byte :=
  [r.code, r.tag, byteOf (statusCode a.status), byteOf a.detail] ++ a.data

/-- A MGMT_REPLY is originated to the requester (R184); while the control port is ISOLATED it is dropped and the
request counts as answered (R165, R183). -/
def sendReply (r : Request) (a : Answer) (s : State) : State :=
  originate .reply r.requester (replyPayload r a) s

/-- A reply buffer is free, or the control port is ISOLATED and a reply takes none (R161, R183). -/
def State.replyFree (s : State) : Bool := s.control.health == .isolated || s.repliesHeld < Config.replyCap

/-- The state in which the management unit takes up this request, or `none` when it is not its turn: the part is in
reset, no reply buffer is free, or another request stands at the head of the queue (R182, R183). A request sent
while the queue is empty stands at its head (notes/assumptions/4.md). -/
def takeTurn (r : Request) (s : State) : Option State :=
  if s.inReset || !s.replyFree then none
  else match s.requests with
    | [] => some { s with requests := [r] }
    | q :: _ => if q = r then some s else none

/-- The head request leaves the queue (R183 part 4). -/
def leaveQueue (s : State) : State := { s with requests := s.requests.tail }

/-- A request is processed in its turn, taken whole (R183): checked and applied by its rule, answered, and gone from
the queue. Out of its turn nothing happens. -/
def serve (r : Request) (rule : State → State × Answer) (s : State) : State :=
  match takeTurn r s with
  | none => s
  | some s1 => leaveQueue (sendReply r (rule s1).2 (rule s1).1)

/-- A row that shares its code with another form is not meant by a request of the other form's length. -/
def serveForm (other : Nat) (r : Request) (rule : State → State × Answer) (s : State) : State :=
  if r.args.length = other then s else serve r rule s

/-- A rule that begins with the station check: other than 0 or 1 is refused BAD_VALUE, detail 255. -/
def withStation (b : Byte) (rule : StationId → State → State × Answer) (s : State) : State × Answer :=
  match stationOf b with
  | none => (s, badStation)
  | some n => rule n s

/-- A rule that begins with the port check: other than 0 or 1 is refused BAD_VALUE, detail 255. -/
def withPort (b : Byte) (rule : Port → State → State × Answer) (s : State) : State × Answer :=
  match portOf b with
  | none => (s, badStation)
  | some p => rule p s

/-- A rule for an IDLE station: any other state is refused WRONG_STATE with the state's code. -/
def whenIdle (n : StationId) (rule : State → State × Answer) (s : State) : State × Answer :=
  if (s.st n).run.state = .idle then rule s
  else (s, refuse .wrongState (stateCode (s.st n).run.state))

end Sys2Proof.Machine
end

