-- ==== Sys2Proof/Machine/LinkEvents.lean ====
section
/-! DEFINITION. The meanings of the link's events (chapters 8 and 9): a frame's arrival, receive and transmit
errors, the stages of a transmission, joining and recovery. An event that cannot happen in the state it finds
changes nothing (notes/assumptions/3.md). -/

namespace Sys2Proof.Machine

open Sys2Proof

/-- An event acts only while the part is not held in reset (R194). -/
def whenLive (event : State → State) (s : State) : State := if s.inReset then s else event s

/-- The port is not sending a frame and decodes the link (R177, R178: in every state but JOINING). -/
def PortState.hears (q : PortState) : Bool :=
  q.health != .joining && q.engine.isEmpty

/-- The port has driven the acknowledgment window before it detects this error (R171): the check of the frame was good,
and the end mark is read dominant, by the port itself or by another node's mark. -/
def RxError.afterWindow : RxError → Bool
  | .form => true
  | .mark inEndMark => inEndMark
  | .code => false
  | .length => false
  | .check => false

/-- A receive error at a port (R171, R173, R175, R176): the frame is discarded, counted, and marked by the health state the
port had at the detection (DESIGN CHOICE, notes/assumptions/33.md); of that frame it detects nothing more. -/
def receiveErrorAt (p : Port) (error : RxError) (s : State) : State :=
  followCounts p (countPort p .receiveErrors (s.modPort p (fun q => { q with
    activity := .idle, wasTransmitter := false, voided := true, errorMark := markOf q.health
    acknowledged := RxError.afterWindow error && acknowledges q.health
    rx := rxUp q.rx })))

/-- The port's own part of a good frame (R171, R175, R178): acknowledged, counted down, and while ISOLATED counted
toward recovery. -/
def goodFrameAt (p : Port) (s : State) : State :=
  recoverIfMet p (followCounts p (s.modPort p (fun q => { q with
    activity := .idle, wasTransmitter := false, voided := false, errorMark := none
    acknowledged := acknowledges q.health
    rx := rxDown q.rx
    goodFrames := if q.health = .isolated then q.goodFrames + 1 else q.goodFrames })))

/-- FRAME_ARRIVAL (R154): a frame received whole with a good check. A JOINING port receives nothing (R177), a sending
port is no receiver, and a Length above 16 is a receive error instead (R150, R196). A frame that arrives was not voided, so
an arrival after an error is another frame, with a start mark of its own (notes/assumptions/11.md). -/
def execFrameArrival (p : Port) (f : Frame) (s : State) : Host.Outcome State Fault Refusal :=
  .next (whenLive (fun s =>
    if !(s.port p).hears then s
    else if Config.maxPayload < f.payload.length then receiveErrorAt p .length s
    else arrive p f (goodFrameAt p s)) s)

/-- RECEIVE_ERROR (R173): a receiver detects an error or reads another node's dominant mark. Every kind counts alike, and
after an error nothing more is detected until the next start mark (R172, R173). -/
def execReceiveError (p : Port) (error : RxError) (s : State) : Host.Outcome State Fault Refusal :=
  .next (whenLive (fun s =>
    if (s.port p).hears && !(s.port p).voided then receiveErrorAt p error s else s) s)

/-- START_MARK_RECEIVED (R169): the port becomes the receiver of another node's frame, so none is chosen. -/
def execStartMarkReceived (p : Port) (s : State) : Host.Outcome State Fault Refusal :=
  .next (whenLive (fun s =>
    if (s.port p).hears then
      s.modPort p (fun q => { q with activity := .receiving, errorMark := none, voided := false })
    else s) s)

/-- A port may start a transmission after reading this many recessive bit times (R169). -/
def PortState.mayStart (q : PortState) (gap : Nat) : Bool :=
  (q.health == .active || q.health == .passive) && q.activity == .idle && q.gapNeeded ≤ gap

/-- TRANSMISSION_START (R169): the scheduler chooses a frame (R163), and the port contends with it. -/
def execTransmissionStart (p : Port) (gap : Nat) (s : State) : Host.Outcome State Fault Refusal :=
  .next (whenLive (fun s =>
    if (s.port p).mayStart gap then s.modPort p (fun q => offerFrame (reloadCredits q)) else s) s)

/-- LOST_ARBITRATION (R170): a lower triple wins; the frame returns to unsent (R164) and the port receives the
winner's frame. No credit is spent. Bits 7 to 5 of header byte 1 are not compared (DESIGN CHOICE,
notes/assumptions/34.md). -/
def execLostArbitration (p : Port) (winner : ArbKey) (s : State) : Host.Outcome State Fault Refusal :=
  .next (whenLive (fun s =>
    match (s.port p).activity with
    | .contending e =>
      if arbOrder winner < arbOrder (Frame.arbKey e.frame) then
        countPort p .lostArbitrations (returnUnsent p e
          (s.modPort p (fun q => { q with activity := .receiving, wasTransmitter := false })))
      else s
    | _ => s) s)

/-- A frame is a NOTICE of the part. -/
def Queued.isNotice (e : Queued) : Bool := e.origin == .own .notice

/-- WON_ARBITRATION (R164): transmission starts with contents fixed, the credit is spent (R163), and a NOTICE empties
the accumulator (R188). -/
def execWonArbitration (p : Port) (s : State) : Host.Outcome State Fault Refusal :=
  .next (whenLive (fun s =>
    match (s.port p).activity with
    | .contending e =>
      let s1 := s.modPort p (fun q => spendCredit e.cls { q with activity := .transmitting e })
      if e.isNotice then { s1 with notices := { s1.notices with accumulator := 0 } } else s1
    | _ => s) s)

/-- TRANSMISSION_COMPLETED (R164): the buffer is freed, frames transmitted counts, and TX decrements (R174). -/
def execTransmissionCompleted (p : Port) (s : State) : Host.Outcome State Fault Refusal :=
  .next (whenLive (fun s =>
    match (s.port p).activity with
    | .transmitting _ =>
      updateDropModes (followCounts p (countPort p .transmitted (s.modPort p (fun q =>
        { q with activity := .idle, wasTransmitter := true, tx := q.tx - 1 }))))
    | _ => s) s)

/-- The TX count after a transmit error (R174): NO_ACK counts only while ACTIVE. -/
def txAfter (error : TxError) (q : PortState) : Nat :=
  match error with
  | .bit => txUp q.tx
  | .noAck => if q.health = .active then txUp q.tx else q.tx

/-- A transmit error at a sending port (R173, R174, R178): isolation when TX passes 200, and else the frame is voided
without a retry. The mark follows the health state the port had at the detection (DESIGN CHOICE, notes/assumptions/33.md), and of that
frame it detects nothing more. -/
def transmitErrorAt (p : Port) (error : TxError) (s : State) : State :=
  let tx := txAfter error (s.port p)
  let s1 := countPort p .transmitErrors (s.modPort p (fun q =>
    { q with tx := tx, wasTransmitter := true, voided := true }))
  updateDropModes (
    if Config.isolationCount < tx then enterIsolated p s1
    else followCounts p (s1.modPort p (fun q => { q with activity := .idle, errorMark := markOf q.health })))

/-- TRANSMIT_ERROR (R173): BIT while contending or transmitting, NO_ACK while transmitting (R172). -/
def execTransmitError (p : Port) (error : TxError) (s : State) : Host.Outcome State Fault Refusal :=
  .next (whenLive (fun s =>
    match (s.port p).activity, error with
    | .transmitting _, _ => transmitErrorAt p error s
    | .contending _, .bit => transmitErrorAt p error s
    | _, _ => s) s)

/-- JOIN_WAIT_END (R177): a JOINING port has read 16 recessive bit times and becomes ACTIVE. -/
def execJoinWaitEnd (p : Port) (s : State) : Host.Outcome State Fault Refusal :=
  .next (whenLive (fun s => if (s.port p).health = .joining then setHealth p .active s else s) s)

/-- PORT_RECOVERY can be the end of this isolation (R179): the idle time of QUIET is the sender's to measure
(notes/assumptions/2.md), and COUNT needs its good frames. -/
def PortState.mayRecover (q : PortState) : Bool :=
  q.health == .isolated && (q.cfg.recovery == .quiet || q.measureMet)

/-- PORT_RECOVERY (R179): the measure of an ISOLATED port is met, and it recovers. -/
def execPortRecovery (p : Port) (s : State) : Host.Outcome State Fault Refusal :=
  .next (whenLive (fun s => if (s.port p).mayRecover then recoverPort p s else s) s)

end Sys2Proof.Machine
end

