-- ==== Sys2Proof/Machine/PortRequests.lean ====
section
/-! DEFINITION. The meanings of PORT_CONFIG (R137, R157, R179, R199), PORT_STATUS (R181) and PORT_RESTART
(R180). -/

namespace Sys2Proof.Machine

open Sys2Proof

/-- Every entry that `p` accepts is removed, with its node's locks (R131, R16). -/
def removeWhere (p : NodeEntry → Bool) (s : State) : State :=
  (List.range Config.nodeEntries).foldl
    (fun s i => match s.entryAt i with
      | some e => if p e then removeEntry i s else s
      | none => s) s

/-- What an accepted PORT_CONFIG write does: the item is replaced; a new AGE_LIMIT, HIGH, LOW or recovery mode acts at
once (R137, R157, R179). -/
def applyPortItem (p : Port) (id v : Nat) (s : State) : State :=
  if id = 2 then removeWhere (NodeEntry.tooOld v) { s with ageLimit := v }
  else
    let s1 := s.modPort p (fun q => { q with cfg := setPortItem q.cfg id v })
    if id = 3 ∨ id = 4 then updateDropMode p s1
    else if id = 7 then recoverIfMet p s1
    else s1

/-- The write form of PORT_CONFIG: port, identifier, range, fit (R199, R137, R157). -/
def portConfigWriteRule (args : List Byte) (s : State) : State × Answer :=
  match args with
  | [p, id, lo, hi] =>
    withPort p (fun p s =>
      if 7 < id.toNat then (s, refuse .badValue 0)
      else if portItemInRange id.toNat (u16 lo hi) = false then (s, refuse .badValue 1)
      else if s.portItemClashes p id.toNat (u16 lo hi) = true then (s, refuse .badValue 2)
      else (applyPortItem p id.toNat (u16 lo hi) s, done (putU16 (u16 lo hi)))) s
  | _ => (s, badLength)

/-- PORT_CONFIG, write form. -/
def execPortConfigWrite (q : NodeId) (t : Byte) (args : List Byte) (s : State) :
    Host.Outcome State Fault Refusal :=
  .next (serveForm 2 ⟨0x13, t, q, args⟩ (portConfigWriteRule args) s)

/-- The read form of PORT_CONFIG (R137, R199). -/
def portConfigReadRule (args : List Byte) (s : State) : State × Answer :=
  match args with
  | [p, id] =>
    withPort p (fun p s =>
      match s.portItem p id.toNat with
      | none => (s, refuse .badValue 0)
      | some v => (s, done (putU16 v))) s
  | _ => (s, badLength)

/-- PORT_CONFIG, read form. -/
def execPortConfigRead (q : NodeId) (t : Byte) (args : List Byte) (s : State) :
    Host.Outcome State Fault Refusal :=
  .next (serveForm 4 ⟨0x13, t, q, args⟩ (portConfigReadRule args) s)

/-- A frame of the port is in transmission (R181): the transmit engine holds it and no queue does (R162). A contending frame is
one (DEDUCED, notes/assumptions/35.md). -/
def PortState.sending (q : PortState) : Bool := !q.engine.isEmpty

/-- The status byte of a port (R199). -/
def PortState.statusByte (q : PortState) : Byte :=
  byteOf (healthCode q.health + 4 * recoveryCode q.cfg.recovery + (if q.dropMode then 8 else 0) +
    (if q.sending then 16 else 0))

/-- The PORT_STATUS data (R199). Its progress bytes are 0 unless the port is ISOLATED. -/
def State.portStatus (s : State) (p : Port) : List Byte :=
  let q := s.port p
  let isolated := q.health == .isolated
  [PortState.statusByte q, byteOf q.tx, byteOf q.rx] ++
  putU16 (if isolated then min 65535 (q.idleBits / Config.bitsPerMs) else 0) ++
  [byteOf (if isolated then min 255 q.goodFrames else 0), byteOf (s.learnedCount p), byteOf (s.held p),
   byteOf q.urgent.length, byteOf q.control.length, byteOf q.bulk.length]

/-- PORT_STATUS's rule (R181). -/
def portStatusRule (args : List Byte) (s : State) : State × Answer :=
  match args with
  | [p] => withPort p (fun p s => (s, done (s.portStatus p))) s
  | _ => (s, badLength)

/-- PORT_STATUS (R181). -/
def execPortStatus (q : NodeId) (t : Byte) (args : List Byte) (s : State) : Host.Outcome State Fault Refusal :=
  .next (serve ⟨0x14, t, q, args⟩ (portStatusRule args) s)

/-- PORT_RESTART's rule (R180). -/
def portRestartRule (args : List Byte) (s : State) : State × Answer :=
  match args with
  | [p] => withPort p (fun p s => (restartPort p s, done [])) s
  | _ => (s, badLength)

/-- PORT_RESTART (R180). -/
def execPortRestart (q : NodeId) (t : Byte) (args : List Byte) (s : State) : Host.Outcome State Fault Refusal :=
  .next (serve ⟨0x15, t, q, args⟩ (portRestartRule args) s)

end Sys2Proof.Machine
end

