-- ==== Sys2Proof/Machine/NodeRequests.lean ====
section
/-! DEFINITION. The meanings of NODE_WRITE in its write and delete forms (R142, R143), NODE_READ (R144) and
NODE_FLUSH (R145). -/

namespace Sys2Proof.Machine

open Sys2Proof

/-- 10 × station + role number (R142, section 11.4). -/
def bindingNo (b : StationId × Role) : Nat := 10 * stationNo b.1 + roleNo b.2

/-- A silence limit NODE_WRITE accepts (R142). -/
def silenceLimitOk (v : Nat) : Bool := v == 0 || (20 ≤ v && v ≤ 2000 && v % 10 == 0)

/-- The entry a NODE_WRITE leaves for a number that had one (the table of R142). -/
def rewrittenEntry (e : NodeEntry) (p : Port) (limit : Nat) : NodeEntry :=
  { e with
    port := p
    origin := .static
    limit := limit
    age := if e.port = p then e.age else 0
    silent := if e.port = p ∧ e.origin = .static then e.silent else false }

/-- A new STATIC entry (R142). -/
def staticEntry (k : NodeId) (p : Port) (limit : Nat) : NodeEntry :=
  { number := k, port := p, origin := .static, age := 0, limit := limit, silent := false }

/-- An entry is written at an index, and becomes silent at once when it is due (R142). -/
def writeEntry (i : Nat) (e : NodeEntry) (s : State) : State :=
  let s1 := s.setEntry i (some e)
  if e.silenceDue then becomeSilent i e s1 else s1

/-- NODE_WRITE from its checked arguments on (R142 steps 4 and 5, and the table). -/
def nodeWrite (k : NodeId) (p : Port) (limit : Nat) (s : State) : State × Answer :=
  match s.nodeIndex k, s.nodeEntry k with
  | some i, some e =>
    (match s.boundAs k with
      | some b =>
        if e.port = p then (writeEntry i (rewrittenEntry e p limit) s, done [byteOf i])
        else (s, refuse .wrongState (bindingNo b))
      | none => (writeEntry i (rewrittenEntry e p limit) s, done [byteOf i]))
  | _, _ =>
    match s.freeNode with
    | none => (s, refuse .full 0)
    | some i => (writeEntry i (staticEntry k p limit) s, done [byteOf i])

/-- The write form of NODE_WRITE (R142). -/
def nodeWriteRule (args : List Byte) (s : State) : State × Answer :=
  match args with
  | [k, p, lo, hi] =>
    match nodeOf s.ownNode k with
    | none => (s, refuse .badValue 0)
    | some k => match portOf p with
      | none => (s, refuse .badValue 1)
      | some p =>
        if silenceLimitOk (u16 lo hi) then nodeWrite k p (u16 lo hi) s else (s, refuse .badValue 2)
  | _ => (s, badLength)

/-- NODE_WRITE, write form (R142). -/
def execNodeWrite (q : NodeId) (t : Byte) (args : List Byte) (s : State) : Host.Outcome State Fault Refusal :=
  .next (serveForm 1 ⟨0x18, t, q, args⟩ (nodeWriteRule args) s)

/-- The delete form of NODE_WRITE (R143). -/
def nodeDeleteRule (args : List Byte) (s : State) : State × Answer :=
  match args with
  | [k] =>
    match nodeOf s.ownNode k with
    | none => (s, refuse .badValue 0)
    | some k => match s.nodeIndex k with
      | none => (s, refuse .notKnown 0)
      | some i => match s.boundAs k with
        | some b => (s, refuse .wrongState (bindingNo b))
        | none => (removeEntry i s, done [])
  | _ => (s, badLength)

/-- NODE_WRITE, delete form (R143). -/
def execNodeDelete (q : NodeId) (t : Byte) (args : List Byte) (s : State) : Host.Outcome State Fault Refusal :=
  .next (serveForm 4 ⟨0x18, t, q, args⟩ (nodeDeleteRule args) s)

/-- The nine bytes of NODE_READ (R144, section 11.4). -/
def State.nodeBytes (s : State) (e : NodeEntry) : List Byte :=
  [e.number.setWidth 8, byteOf (portCode e.port), byteOf (originCode e.origin)] ++ putU16 e.age ++
  putU16 e.limit ++ [if e.silent then 1 else 0, optCode ((s.boundAs e.number).map bindingNo)]

/-- NODE_READ's rule (R144). -/
def nodeReadRule (args : List Byte) (s : State) : State × Answer :=
  match args with
  | [i] =>
    if 15 < i.toNat then (s, refuse .badValue 0)
    else match s.entryAt i.toNat with
      | none => (s, done [])
      | some e => (s, { status := .done, detail := 1, data := s.nodeBytes e })
  | _ => (s, badLength)

/-- NODE_READ (R144). -/
def execNodeRead (q : NodeId) (t : Byte) (args : List Byte) (s : State) : Host.Outcome State Fault Refusal :=
  .next (serve ⟨0x19, t, q, args⟩ (nodeReadRule args) s)

/-- A LEARNED entry. -/
def NodeEntry.isLearned (e : NodeEntry) : Bool := e.origin == .learned

/-- NODE_FLUSH's rule (R145). -/
def nodeFlushRule (args : List Byte) (s : State) : State × Answer :=
  match args with
  | [] =>
    (removeWhere NodeEntry.isLearned s, done [byteOf (s.learnedCount .control + s.learnedCount .appliance)])
  | _ => (s, badLength)

/-- NODE_FLUSH (R145). -/
def execNodeFlush (q : NodeId) (t : Byte) (args : List Byte) (s : State) : Host.Outcome State Fault Refusal :=
  .next (serve ⟨0x1A, t, q, args⟩ (nodeFlushRule args) s)

end Sys2Proof.Machine
end

