-- ==== Sys2Proof/Machine/TimerEvents.lean ====
section
/-! DEFINITION. The meanings of the expiries and of the node table's time events. An expiry command brings its timer
to its end and has the effect the rule gives that end; where the timer does not run nothing happens
(notes/assumptions/2.md and 3.md). -/

namespace Sys2Proof.Machine

open Sys2Proof

/-- The station is RUNNING in this phase. -/
def Station.inPhase (st : Station) (p : Phase) : Bool := st.run.state == .running && st.run.phase == some p

/-- STEP_TIMER_EXPIRY (R32): the elapsed time of a step with a limit reaches the effective limit, and the step ends
TIME or LIMIT. -/
def execStepTimerExpiry (n : StationId) (s : State) : Host.Outcome State Fault Refusal :=
  .next (whenLive (fun s =>
    if (s.st n).inPhase .active && (s.curStep n).hasLimit then
      finishStep n (if (s.curStep n).endTime then .time else .limit) false
        (s.modRun n (fun r => { r with elapsed := r.effLimit.getD r.elapsed, tenthMs := 0 }))
    else s) s)

/-- The other direction. -/
def flipDirection : Direction → Direction
  | .fwd => .rev
  | .rev => .fwd

/-- The direction an ALT step has after this many reversals (R119). -/
def parityDirection (k : Nat) : Direction := if k % 2 = 0 then .fwd else .rev

/-- The elapsed time at which the next reversal of an ALT step comes: the present one when it stands at a multiple
whose reversal is not made yet, and else the next whole multiple (R31). -/
def reversalTime (unit elapsed : Nat) (dir : Direction) : Nat :=
  if dir = parityDirection (elapsed / unit) then (elapsed / unit + 1) * unit else elapsed

/-- REVERSAL (R31, R119): the elapsed time of an ALT step reaches a whole multiple of reversal interval × 10; the
direction flips, and the commanded direction follows. -/
def execReversal (n : StationId) (s : State) : Host.Outcome State Fault Refusal :=
  .next (whenLive (fun s =>
    let r := (s.st n).run
    let unit := (s.curStep n).reversal * 10
    let dir := r.reversal.getD .fwd
    let at' := reversalTime unit r.elapsed dir
    if (s.st n).inPhase .active && (s.curStep n).mode == .alt && 0 < unit && at' ≤ r.effLimit.getD 0 then
      recomputeDrive n (s.modRun n (fun r => { r with
        elapsed := at', reversal := some (flipDirection dir)
        tenthMs := if at' = r.elapsed then r.tenthMs else 0 }))
    else s) s)

/-- LOCKING_DEADLINE_EXPIRY (R28): the station enters FAULT with cause LID_LOCK. -/
def execLockingDeadlineExpiry (n : StationId) (s : State) : Host.Outcome State Fault Refusal :=
  .next (whenLive (fun s =>
    if (s.st n).inPhase .locking && (s.st n).run.deadline.isSome then enterFault n .lidLock 0 false s else s) s)

/-- BASING_DEADLINE_EXPIRY (R29): the base is taken from the present net weight, BASE_UNSETTLED is set, and BASING
ends. -/
def execBasingDeadlineExpiry (n : StationId) (s : State) : Host.Outcome State Fault Refusal :=
  .next (whenLive (fun s =>
    if (s.st n).inPhase .basing && (s.st n).run.deadline.isSome then
      leaveBasing n (s.modRun n (fun r => { r with
        doseBase := some (s.st n).weigh.net, deadline := none
        flags := { r.flags with baseUnsettled := true } }))
    else s) s)

/-- WARMING_LIMIT_EXPIRY (R39): the warming elapsed time reaches a nonzero limit and the station enters IDLE. -/
def execWarmingLimitExpiry (n : StationId) (s : State) : Host.Outcome State Fault Refusal :=
  .next (whenLive (fun s =>
    if (s.st n).run.state = .warming ∧ 0 < (s.st n).run.warmingLimit.getD 0 then enterIdle n true false s else s) s)

/-- TARE_DEADLINE_EXPIRY (R78): the tare ends UNSTABLE. -/
def execTareDeadlineExpiry (n : StationId) (s : State) : Host.Outcome State Fault Refusal :=
  .next (whenLive (fun s => if (s.st n).weigh.op = .taring then endOp n .unstable s else s) s)

/-- ZERO_CALIBRATE_DEADLINE_EXPIRY (R84): the operation ends STALE. -/
def execZeroCalibrateDeadlineExpiry (n : StationId) (s : State) : Host.Outcome State Fault Refusal :=
  .next (whenLive (fun s =>
    if (s.st n).weigh.op = .zeroing ∨ (s.st n).weigh.op = .calibrating then endOp n .stale s else s) s)

/-- SPEED_HOLD_EXPIRY (R122): the manual speed demand returns to 0 and the commanded speed is recomputed. -/
def execSpeedHoldExpiry (n : StationId) (s : State) : Host.Outcome State Fault Refusal :=
  .next (whenLive (fun s => if (s.st n).drive.speedHold.isSome then dropManualSpeed n s else s) s)

/-- HEAT_HOLD_EXPIRY (R122): the manual heat demand returns to 0 and the heat regulator follows. -/
def execHeatHoldExpiry (n : StationId) (s : State) : Host.Outcome State Fault Refusal :=
  .next (whenLive (fun s => if (s.st n).drive.heatHold.isSome then dropManualHeat n s else s) s)

/-- SPIN_DOWN_EXPIRY (R126): spin-down elapsed is set and the interlock is tested. -/
def execSpinDownExpiry (n : StationId) (s : State) : Host.Outcome State Fault Refusal :=
  .next (whenLive (fun s =>
    if (s.st n).drive.spinDown.isSome then
      testUnlock n (s.modDrive n (fun d => { d with spinDown := none, spinDownElapsed := true }))
    else s) s)

/-- The lid setpoint a refresh repeats (R130): LOCK always, UNLOCK only over a still blade. -/
def refreshLid (n : StationId) (s : State) : State :=
  match (s.st n).drive.lidCommand with
  | some .lock => sendLidSet n .lock s
  | some .unlock => if s.bladeStill n then sendLidSet n .unlock s else s
  | none => s

/-- REFRESH_EXPIRY (R130): the timer restarts, the station's setpoints are re-sent (R111, R118), and the interlock is
tested (R129). -/
def execRefreshExpiry (n : StationId) (s : State) : Host.Outcome State Fault Refusal :=
  .next (whenLive (fun s =>
    testUnlock n (refreshLid n (sendHeatSet n (sendSpeedSet n
      (s.modDrive n (fun d => { d with refreshTimer := (s.st n).limits.refresh })))))) s)

/-- The added weight a WEIGHT_REPORT carries (R86). -/
def Station.reportedAdded (st : Station) : Option Int :=
  if st.inPhase .active then st.added else none

/-- A WEIGHT_REPORT is originated with the contents of this moment (R86, R190). -/
def sendWeightReport (n : StationId) (s : State) : State :=
  let st := s.st n
  originate (.weightReport n) Config.broadcast
    (weightReportPayload n st.weigh.net st.reportedAdded st.weigh.settled st.weigh.overload st.weigh.stale
      (st.weigh.op != .none)) s

/-- A report timer at an interval: stopped at 0 (R190). -/
def reportTimerOf (interval : Nat) : Option Nat := if interval = 0 then none else some interval

/-- REPORT_TIMER_EXPIRY (R190): the timer restarts, and a WEIGHT_REPORT goes out when the WEIGH role is bound. -/
def execReportTimerExpiry (n : StationId) (s : State) : Host.Outcome State Fault Refusal :=
  .next (whenLive (fun s =>
    if (s.st n).reportTimer.isSome then
      let s1 := s.modSt n (fun st => { st with reportTimer := reportTimerOf st.reportInterval })
      if (s.st n).binding.weigh.isSome then sendWeightReport n s1 else s1
    else s) s)

/-- AGING_REMOVAL (R138): a LEARNED entry's age has reached AGE_LIMIT × 100, and the entry is removed with its locks. An
entry that was heard first has age 0, and its removal does not happen. -/
def execAgingRemoval (i : Nat) (s : State) : Host.Outcome State Fault Refusal :=
  .next (whenLive (fun s =>
    match s.entryAt i with
    | some e => if e.tooOld s.ageLimit then removeEntry i s else s
    | none => s) s)

/-- NODE_BECOMES_SILENT (R139): a STATIC entry's age has reached its silence limit, and it is marked silent. An entry that
was heard first has age 0, and its silence does not happen. -/
def execNodeBecomesSilent (i : Nat) (s : State) : Host.Outcome State Fault Refusal :=
  .next (whenLive (fun s =>
    match s.entryAt i with
    | some e => if e.silenceDue then becomeSilent i e s else s
    | none => s) s)

end Sys2Proof.Machine
end

