-- ==== Sys2Proof/Machine/Reset.lean ====
section
/-! DEFINITION. The meanings of the resets (section 10.6): POWER_ON_RESET and RESET_ASSERTED (R194), and RESTART
(R193) with what each block keeps. -/

namespace Sys2Proof.Machine

open Sys2Proof

/-- The own node number from the straps: 27 plus their value (section 4.4 of 00_scope.md). -/
def ownOf (straps : BitVec 2) : NodeId := 27 + straps.setWidth 5

/-- POWER_ON_RESET (R194): the release of the reset pin or the end of the supply rise. The straps are read and every
block takes its power-on values. -/
def execPowerOnReset (straps : BitVec 2) (s : State) : Host.Outcome State Fault Refusal :=
  .next { State.powerOn (ownOf straps) with pending := s.pending }

/-- RESET_ASSERTED (R194): while the pin is asserted the part keeps no state, drives nothing and acknowledges nothing.
The values the fields hold meanwhile are a DESIGN CHOICE no rule reads (notes/assumptions/6.md). -/
def execResetAsserted (s : State) : Host.Outcome State Fault Refusal :=
  .next { State.blank 27 with inReset := true, pending := s.pending }

/-! ### RESTART (R193) -/

/-- A station after RESTART with keep = 1: tables, binding, limits and configuration stay, the rest is as after
power-on reset (R7, R13, R17, R19, R24, R57, R87, R114, R190). -/
def keptStation (st : Station) : Station :=
  { steps := st.steps
    recipeLength := st.recipeLength
    binding := st.binding
    limits := st.limits
    weighCfg := st.weighCfg
    heatCfg := st.heatCfg
    reportInterval := st.reportInterval
    reportTimer := reportTimerOf st.reportInterval
    drive := { envelope := min st.limits.maxSpeed st.limits.openSpeed, refreshTimer := st.limits.refresh } }

/-- The arbiter after RESTART with keep = 1 (R104). -/
def keptArbiter (b : Arbiter) : Arbiter :=
  { budget := b.budget
    available := b.budget
    side0 := { share := b.budget / 2 }
    side1 := { share := b.budget - b.budget / 2 } }

/-- A node table place after RESTART with keep = 1: a STATIC entry stays with age 0 and its silent flag clear, a
LEARNED one goes (R132). -/
def keptEntry : Option NodeEntry → Option NodeEntry
  | some e => if e.origin = .static then some { e with age := 0, silent := false } else none
  | none => none

/-- A port after RESTART with keep = 1: its configuration, with both credits loaded (R163, R176, R193). -/
def keptPort (q : PortState) : PortState :=
  { cfg := q.cfg, creditControl := q.cfg.wc, creditBulk := q.cfg.wb }

/-- Everything RESTART with keep = 1 leaves, before RESTARTED is set (R193). -/
def keptState (s : State) : State :=
  { pending := s.pending
    ownNode := s.ownNode
    station0 := keptStation s.station0
    station1 := keptStation s.station1
    arbiter := keptArbiter s.arbiter
    nodes := s.nodes.map keptEntry
    ageLimit := s.ageLimit
    routes := s.routes
    defaultForward := s.defaultForward
    control := keptPort s.control
    appliance := keptPort s.appliance
    notices := { enables := s.notices.enables } }

/-- The part after an accepted RESTART (R193): RESTARTED goes from clear to set. -/
def restarted (keep : Bool) (s : State) : State :=
  if keep then setNotice .restarted (keptState s)
  else { State.powerOn s.ownNode with pending := s.pending }

/-- RESTART (R193). An accepted one originates no reply and empties the request queue with the rest. -/
def execRestart (q : NodeId) (t : Byte) (args : List Byte) (s : State) : Host.Outcome State Fault Refusal :=
  .next (
    let r : Request := ⟨0x02, t, q, args⟩
    match takeTurn r s with
    | none => s
    | some s1 =>
      match args with
      | [k] =>
        if k = 0 then restarted false s1
        else if k = 1 then restarted true s1
        else leaveQueue (sendReply r (refuse .badValue 0) s1)
      | _ => leaveQueue (sendReply r badLength s1))

end Sys2Proof.Machine
end

