-- ==== Sys2Proof/Machine/RouteRequests.lean ====
section
/-! DEFINITION. The meanings of IDENTIFY (R185) and of the route requests ROUTE_WRITE, ROUTE_READ (R152) and
ROUTE_DEFAULT (R153). -/

namespace Sys2Proof.Machine

open Sys2Proof

/-- The IDENTIFY data (R185, section 11.4). -/
def identity (own : NodeId) : List Byte :=
  [0x41] ++ putU16 0x0362 ++
  [2, own.setWidth 8, byteOf Config.nodeEntries, byteOf Config.routeEntries, byteOf Config.transitBuffers,
   byteOf Config.originationBuffers, byteOf Config.stepSlots]

/-- IDENTIFY's rule (R185). -/
def identifyRule (args : List Byte) (s : State) : State × Answer :=
  match args with
  | [] => (s, done (identity s.ownNode))
  | _ => (s, badLength)

/-- IDENTIFY (R185). -/
def execIdentify (q : NodeId) (t : Byte) (args : List Byte) (s : State) : Host.Outcome State Fault Refusal :=
  .next (serve ⟨0x01, t, q, args⟩ (identifyRule args) s)

/-- ROUTE_WRITE's rule (R152): the index, then every field in order; an accepted write replaces the entry. -/
def routeWriteRule (args : List Byte) (s : State) : State × Answer :=
  match args with
  | [i, port, kv, km, sv, sm, dv, dm, act, cls, en] =>
    if 23 < i.toNat then (s, refuse .badValue 0)
    else match readRoute port kv km sv sm dv dm act cls en with
      | .error f => (s, refuse .badValue f)
      | .ok e => ({ s with routes := s.routes.setIfInBounds i.toNat e }, done [])
  | _ => (s, badLength)

/-- ROUTE_WRITE (R152). -/
def execRouteWrite (q : NodeId) (t : Byte) (args : List Byte) (s : State) : Host.Outcome State Fault Refusal :=
  .next (serve ⟨0x10, t, q, args⟩ (routeWriteRule args) s)

/-- ROUTE_READ's rule (R152). -/
def routeReadRule (args : List Byte) (s : State) : State × Answer :=
  match args with
  | [i] =>
    match s.routes[i.toNat]? with
    | none => (s, refuse .badValue 0)
    | some e => (s, done (putRoute e))
  | _ => (s, badLength)

/-- ROUTE_READ (R152). -/
def execRouteRead (q : NodeId) (t : Byte) (args : List Byte) (s : State) : Host.Outcome State Fault Refusal :=
  .next (serve ⟨0x11, t, q, args⟩ (routeReadRule args) s)

/-- The code of the default action (section 11.4). -/
def defaultCode (forward : Bool) : Byte := if forward then 0 else 1

/-- The write form of ROUTE_DEFAULT (R153). -/
def routeDefaultWriteRule (args : List Byte) (s : State) : State × Answer :=
  match args with
  | [c] =>
    if c = 0 then ({ s with defaultForward := true }, done [c])
    else if c = 1 then ({ s with defaultForward := false }, done [c])
    else (s, refuse .badValue 1)
  | _ => (s, badLength)

/-- ROUTE_DEFAULT, write form (R153). -/
def execRouteDefaultWrite (q : NodeId) (t : Byte) (args : List Byte) (s : State) :
    Host.Outcome State Fault Refusal :=
  .next (serveForm 0 ⟨0x12, t, q, args⟩ (routeDefaultWriteRule args) s)

/-- The read form of ROUTE_DEFAULT (R153). -/
def routeDefaultReadRule (args : List Byte) (s : State) : State × Answer :=
  match args with
  | [] => (s, done [defaultCode s.defaultForward])
  | _ => (s, badLength)

/-- ROUTE_DEFAULT, read form (R153). -/
def execRouteDefaultRead (q : NodeId) (t : Byte) (args : List Byte) (s : State) :
    Host.Outcome State Fault Refusal :=
  .next (serveForm 1 ⟨0x12, t, q, args⟩ (routeDefaultReadRule args) s)

end Sys2Proof.Machine
end

