-- ==== Sys2Proof/Machine/Recipes.lean ====
section
/-! DEFINITION. The meanings of the recipe requests (chapter 1): LOCK and UNLOCK (R14, R15), STEP_WRITE, STEP_READ,
RECIPE_LENGTH and RECIPE_CLEAR (R8 to R12), and START with its validation (R21 to R23). -/

namespace Sys2Proof.Machine

open Sys2Proof

/-! ### The recipe lock -/

/-- The status LOCK is answered with, with a node number in the detail (R14). -/
def lockAnswer (st : Status) (k : NodeId) : Answer := { status := st, detail := k.toNat }

/-- LOCK for a station that exists, from its second check on (R14). -/
def lockStation (q : NodeId) (n : StationId) (s : State) : State × Answer :=
  match s.nodeIndex q with
  | none => (s, refuse .notKnown 0)
  | some _ =>
    match (s.st n).lockHolder with
    | none => (s.modSt n (fun st => { st with lockHolder := some q }), lockAnswer .granted q)
    | some h => if h = q then (s, lockAnswer .granted q) else (s, lockAnswer .held h)

/-- LOCK's rule (R14). -/
def lockRule (q : NodeId) (args : List Byte) (s : State) : State × Answer :=
  match args with
  | [n] => withStation n (lockStation q) s
  | _ => (s, badLength)

/-- LOCK (R14). -/
def execLock (q : NodeId) (t : Byte) (args : List Byte) (s : State) : Host.Outcome State Fault Refusal :=
  .next (serve ⟨0x28, t, q, args⟩ (lockRule q args) s)

/-- The detail of NOT_HOLDER: the holder, or 255 when the lock is free (R8, R15). -/
def holderDetail (h : Option NodeId) : Nat := (optNode h).toNat

/-- UNLOCK for a station that exists (R15). -/
def unlockStation (q : NodeId) (n : StationId) (s : State) : State × Answer :=
  if (s.st n).lockHolder = some q then (s.modSt n (fun st => { st with lockHolder := none }), done [])
  else (s, refuse .notHolder (holderDetail (s.st n).lockHolder))

/-- UNLOCK's rule (R15). -/
def unlockRule (q : NodeId) (args : List Byte) (s : State) : State × Answer :=
  match args with
  | [n] => withStation n (unlockStation q) s
  | _ => (s, badLength)

/-- UNLOCK (R15). -/
def execUnlock (q : NodeId) (t : Byte) (args : List Byte) (s : State) : Host.Outcome State Fault Refusal :=
  .next (serve ⟨0x29, t, q, args⟩ (unlockRule q args) s)

/-! ### Editing (R8) -/

/-- The checks of an editing request: the station, IDLE, and the lock held by the requester (R8). -/
def withEditing (q : NodeId) (n : Byte) (rule : StationId → State → State × Answer) (s : State) : State × Answer :=
  withStation n (fun n => whenIdle n (fun s =>
    if (s.st n).lockHolder = some q then rule n s
    else (s, refuse .notHolder (holderDetail (s.st n).lockHolder)))) s

/-- The state with a record in a slot (R9). -/
def storeStep (n : StationId) (i : Nat) (r : StepRecord) (s : State) : State :=
  s.modSt n (fun st => { st with steps := st.steps.setIfInBounds i (some r) })

/-- STEP_WRITE's rule (R1, R8, R9, R198). -/
def stepWriteRule (q : NodeId) (args : List Byte) (s : State) : State × Answer :=
  match args with
  | n :: i :: record =>
    if record.length ≠ 12 then (s, badLength)
    else withEditing q n (fun n s =>
      if 47 < i.toNat then (s, refuse .badValue 0)
      else match decodeStep record with
        | .error f => (s, refuse .badValue f)
        | .ok r => (storeStep n i.toNat r s, done [])) s
  | _ => (s, badLength)

/-- STEP_WRITE (R9). -/
def execStepWrite (q : NodeId) (t : Byte) (args : List Byte) (s : State) : Host.Outcome State Fault Refusal :=
  .next (serve ⟨0x2A, t, q, args⟩ (stepWriteRule q args) s)

/-- STEP_READ's rule (R12, R198). -/
def stepReadRule (args : List Byte) (s : State) : State × Answer :=
  match args with
  | [n, i] =>
    withStation n (fun n s =>
      match (s.st n).steps[i.toNat]? with
      | none => (s, refuse .badValue 0)
      | some none => (s, done [])
      | some (some r) => (s, { status := .done, detail := 1, data := StepRecord.encode r })) s
  | _ => (s, badLength)

/-- STEP_READ (R12). -/
def execStepRead (q : NodeId) (t : Byte) (args : List Byte) (s : State) : Host.Outcome State Fault Refusal :=
  .next (serve ⟨0x2B, t, q, args⟩ (stepReadRule args) s)

/-- RECIPE_LENGTH's rule (R10). -/
def recipeLengthRule (q : NodeId) (args : List Byte) (s : State) : State × Answer :=
  match args with
  | [n, len] =>
    withEditing q n (fun n s =>
      if 48 < len.toNat then (s, refuse .badValue 0)
      else (s.modSt n (fun st => { st with recipeLength := len.toNat }), done [])) s
  | _ => (s, badLength)

/-- RECIPE_LENGTH (R10). -/
def execRecipeLength (q : NodeId) (t : Byte) (args : List Byte) (s : State) : Host.Outcome State Fault Refusal :=
  .next (serve ⟨0x2C, t, q, args⟩ (recipeLengthRule q args) s)

/-- RECIPE_CLEAR's rule (R11). -/
def recipeClearRule (q : NodeId) (args : List Byte) (s : State) : State × Answer :=
  match args with
  | [n] =>
    withEditing q n (fun n s =>
      (s.modSt n (fun st => { st with steps := Vector.replicate 48 none, recipeLength := 0 }), done [])) s
  | _ => (s, badLength)

/-- RECIPE_CLEAR (R11). -/
def execRecipeClear (q : NodeId) (t : Byte) (args : List Byte) (s : State) : Host.Outcome State Fault Refusal :=
  .next (serve ⟨0x2D, t, q, args⟩ (recipeClearRule q args) s)

/-! ### START (R21 to R23) -/

/-- Whether a slot from the loop target to just below a loop step is a loop step too (R22, LOOP_NESTED). -/
def Station.nestedLoop (st : Station) (target i : Nat) : Bool :=
  (List.range i).any (fun j => target ≤ j && 0 < (st.slot j).loopCount)

/-- The reason code a filled slot is offending for, in the order of R22 from NO_END 1 to LOOP_NESTED 8. -/
def Station.recordFault (st : Station) (i : Nat) (r : StepRecord) : Option Nat :=
  if !(r.endTime || r.endWeight || r.endTemp || r.endConfirm) then some 1
  else if r.endTime ∧ r.duration = 0 then some 2
  else if r.endWeight ∧ r.dose = 0 then some 3
  else if r.endTemp ∧ r.heat = 0 then some 4
  else if r.heat ≠ 0 ∧ st.limits.overtemp - 50 ≤ r.heat then some 5
  else if r.mode = .alt ∧ r.reversal = 0 then some 6
  else if 0 < r.loopCount ∧ i < r.loopTarget then some 7
  else if 0 < r.loopCount ∧ st.nestedLoop r.loopTarget i = true then some 8
  else none

/-- The reason code a slot is offending for; an empty slot is EMPTY, 0 (R22). -/
def Station.slotFault (st : Station) (i : Nat) : Option Nat :=
  match (st.steps[i]?).join with
  | none => some 0
  | some r => st.recordFault i r

/-- The lowest offending slot of the recipe, with its reason (R21 check 6, R22). -/
def Station.recipeFault (st : Station) : Option (Nat × Nat) :=
  (List.range st.recipeLength).findSome? (fun i => (st.slotFault i).map (fun c => (i, c)))

/-- The first unbound role (R21 check 3). -/
def Station.unbound (st : Station) : Option Role := allRoles.find? (fun r => (st.binding.get r).isNone)

/-- The first silent role (R21 check 4). -/
def State.firstSilent (s : State) (n : StationId) : Option Role := allRoles.find? (fun r => s.silent n r)

/-- The checks 1 to 6 of START; `none` when it passes them all (R21). -/
def State.startRefusal (s : State) (q : NodeId) (n : StationId) (first : Nat) : Option Answer :=
  let st := s.st n
  if st.run.state ≠ .idle then some (refuse .wrongState (stateCode st.run.state))
  else if st.weigh.op = .zeroing ∨ st.weigh.op = .calibrating then some (refuse .wrongState (opCode st.weigh.op))
  else if st.lockHolder.isSome ∧ st.lockHolder ≠ some q then some (refuse .locked (holderDetail st.lockHolder))
  else match st.unbound with
    | some r => some (refuse .noBinding (roleNo r))
    | none => match s.firstSilent n with
      | some r => some (refuse .notReady (roleNo r))
      | none =>
        if s.applianceIsolated then some (refuse .notReady 5)
        else if st.recipeLength ≤ first then some (refuse .badValue 0)
        else st.recipeFault.map (fun f =>
          { status := .badRecipe, detail := f.1, data := [byteOf f.2] })

/-- An accepted START (R23): the pending unlock and the manual demands are cleared, and the first step is entered with
loop counter 0. -/
def startStation (n : StationId) (first : Nat) (s : State) : State :=
  let s1 := dropManualSpeed n (s.modDrive n (fun d => { d with pendingUnlock := false }))
  enterStep n first none false
    ((s1.modDrive n clearedManual).modRun n (fun r => { r with loopCounter := 0 }))

/-- START's rule (R21 to R23). -/
def startRule (q : NodeId) (args : List Byte) (s : State) : State × Answer :=
  match args with
  | [n, first] =>
    withStation n (fun n s =>
      match s.startRefusal q n first.toNat with
      | some a => (s, a)
      | none => (startStation n first.toNat s, done [])) s
  | _ => (s, badLength)

/-- START (R21 to R23). -/
def execStart (q : NodeId) (t : Byte) (args : List Byte) (s : State) : Host.Outcome State Fault Refusal :=
  .next (serve ⟨0x30, t, q, args⟩ (startRule q args) s)

end Sys2Proof.Machine
end

