-- ==== Sys2Proof/Machine/RunRequests.lean ====
section
/-! DEFINITION. The meanings of the run-time requests (section 2.6 and R55): PAUSE, RESUME, STOP, SKIP, CONFIRM, ADJUST
and CLEAR_FAULT. -/

namespace Sys2Proof.Machine

open Sys2Proof

/-- The refusal WRONG_STATE with the station's state code (R40). -/
def State.wrongState (s : State) (n : StationId) : Answer := refuse .wrongState (stateCode (s.st n).run.state)

/-- A request whose only argument is the station. -/
def oneStation (args : List Byte) (rule : StationId → State → State × Answer) (s : State) : State × Answer :=
  match args with
  | [n] => withStation n rule s
  | _ => (s, badLength)

/-- PAUSE for a station that exists (R41). -/
def pauseRule (n : StationId) (s : State) : State × Answer :=
  if (s.st n).run.state = .running then (pauseStation n .request s, done []) else (s, s.wrongState n)

/-- PAUSE (R41). -/
def execPause (q : NodeId) (t : Byte) (args : List Byte) (s : State) : Host.Outcome State Fault Refusal :=
  .next (serve ⟨0x31, t, q, args⟩ (oneStation args pauseRule) s)

/-! ### RESUME (R44) -/

/-- The last lid report is closed and not locked, from a node that is heard (R44). -/
def State.lidClosedOnly (s : State) (n : StationId) : Bool :=
  !s.silent n .lid &&
  (match (s.st n).drive.lidReport with
    | some r => r.closed && !r.locked
    | none => false)

/-- The return to LOCKING from a pause in LOCKING (R44): the phase after lock is kept, and the frozen deadline where the
lid is closed and not locked. -/
def resumeLocking (n : StationId) (s : State) : State :=
  let keep := s.lidClosedOnly n
  actOnLid n (stateChanged n .keep false
    (s.modRun n (fun r => { r with
      state := .running, phase := some .locking, savedPhase := none, pauseReason := none
      deadline := if keep then r.deadline else none })))

/-- The return of a PAUSED station to RUNNING (the table of R44). -/
def resumePhase (n : StationId) (s : State) : State :=
  let need := (s.curStep n).lock && !s.lidLocked n
  match (s.st n).run.savedPhase with
  | some .locking => if need then resumeLocking n s else leaveLocking n .keep false s
  | some .basing => if need then enterLocking n .basing .keep false s else enterBasing n .keep false s
  | _ => if need then enterLocking n .active .keep false s else enterActive n .keep false s

/-- The heat target a PAUSED station will have after RESUME (R93, R94). -/
def State.resumeTarget (s : State) (n : StationId) : Option Int :=
  some ((s.st n).run.tempOverride.getD ((s.curStep n).heat : Int))

/-- An accepted RESUME: the standing causes first (R52), then the return (R44). -/
def resumeStation (n : StationId) (s : State) : State :=
  match s.standing n (some (s.curStep n)) (s.resumeTarget n) with
  | c :: further => enterFault n c further.length false s
  | [] => resumePhase n s

/-- RESUME for a station that exists (R44). -/
def resumeRule (n : StationId) (s : State) : State × Answer :=
  if (s.st n).run.state = .paused then (resumeStation n s, done []) else (s, s.wrongState n)

/-- RESUME (R44). -/
def execResume (q : NodeId) (t : Byte) (args : List Byte) (s : State) : Host.Outcome State Fault Refusal :=
  .next (serve ⟨0x32, t, q, args⟩ (oneStation args resumeRule) s)

/-! ### STOP, SKIP, CONFIRM -/

/-- STOP for a station that exists (R45). -/
def stopRule (n : StationId) (s : State) : State × Answer :=
  match (s.st n).run.state with
  | .running => (enterIdle n true false (endStep n .stopped s), done [])
  | .paused => (enterIdle n true false (endStep n .stopped s), done [])
  | .warming => (enterIdle n true false s, done [])
  | .idle => (askUnlock n (dropManualHeat n (dropManualSpeed n s)), done [])
  | .fault => (s, s.wrongState n)

/-- STOP (R45). -/
def execStop (q : NodeId) (t : Byte) (args : List Byte) (s : State) : Host.Outcome State Fault Refusal :=
  .next (serve ⟨0x33, t, q, args⟩ (oneStation args stopRule) s)

/-- SKIP for a station that exists (R46). -/
def skipRule (n : StationId) (s : State) : State × Answer :=
  if (s.st n).run.state = .running then (finishStep n .skipped false s, done []) else (s, s.wrongState n)

/-- SKIP (R46). -/
def execSkip (q : NodeId) (t : Byte) (args : List Byte) (s : State) : Host.Outcome State Fault Refusal :=
  .next (serve ⟨0x34, t, q, args⟩ (oneStation args skipRule) s)

/-- The refusals of CONFIRM in their order; `none` when it is accepted (R47). -/
def State.confirmRefusal (s : State) (n : StationId) (expected : Nat) : Option Answer :=
  let r := (s.st n).run
  if r.state ≠ .running then some (s.wrongState n)
  else match r.phase with
    | some .locking => some (refuse .wrongState 8)
    | some .basing => some (refuse .wrongState 9)
    | _ =>
      if (s.curStep n).endConfirm = false then some (refuse .wrongState 10)
      else if expected ≠ 255 ∧ some expected ≠ r.step then some (refuse .wrongState 11)
      else none

/-- CONFIRM's rule (R47). -/
def confirmRule (args : List Byte) (s : State) : State × Answer :=
  match args with
  | [n, e] =>
    withStation n (fun n s =>
      match s.confirmRefusal n e.toNat with
      | some a => (s, a)
      | none => (finishStep n .confirm false s, done [])) s
  | _ => (s, badLength)

/-- CONFIRM (R47). -/
def execConfirm (q : NodeId) (t : Byte) (args : List Byte) (s : State) : Host.Outcome State Fault Refusal :=
  .next (serve ⟨0x35, t, q, args⟩ (confirmRule args) s)

/-! ### ADJUST (R48 to R50) -/

/-- What an ADJUST carries (R48). -/
structure Adjustment where
  speed : Option Nat
  temp : Option Int
  extension : Nat
deriving DecidableEq, Repr

/-- The layout of the ADJUST arguments after the station (section 11.4, R199). -/
def readAdjust (pres s0 s1 t0 t1 e0 e1 : Byte) : Adjustment :=
  { speed := if pres.getLsbD 0 then some (u16 s0 s1) else none
    temp := if pres.getLsbD 1 then some (s16 t0 t1) else none
    extension := u16 e0 e1 }

/-- A temperature override clamped into 300..min(2000, OVERTEMP − 50) (R49). -/
def clampOverride (overtemp : Nat) (t : Int) : Int := clampInt 300 (min 2000 ((overtemp : Int) - 50)) t

/-- The extension after an ADJUST (R50): it stays 0 in a step without a limit. -/
def extended (r : StepRecord) (old add : Nat) : Nat :=
  if r.hasLimit then min (old + add) (65535 - r.duration) else old

/-- The run context with every part of an ADJUST applied (R48 to R50). -/
def adjustRun (a : Adjustment) (rec1 : StepRecord) (overtemp : Nat) (r : RunContext) : RunContext :=
  { r with
    speedOverride := a.speed.or r.speedOverride
    tempOverride := (a.temp.map (clampOverride overtemp)).or r.tempOverride
    extension := if a.extension = 0 then r.extension else extended rec1 r.extension a.extension
    effLimit := if a.extension = 0 then r.effLimit
      else some (effectiveLimit rec1 (extended rec1 r.extension a.extension))
    flags := if a.speed.isSome || a.temp.isSome || a.extension != 0 then { r.flags with adjusted := true }
      else r.flags }

/-- The heat side of an ADJUST (R49): a target raised from 0 in RUNNING is tested against the standing causes (R52), and
a new target is adopted with the integral kept (R94). -/
def adjustHeat (n : StationId) (before : Option Int) (a : Adjustment) (s : State) : State :=
  if (s.st n).run.state = .running ∧ a.temp.isSome = true then
    match (if heating before then [] else s.standing n (some (s.curStep n)) (s.heatTarget n)) with
    | c :: further => enterFault n c further.length false s
    | [] => adoptTarget n .keep false s
  else s

/-- An accepted ADJUST (R48 to R50): all its parts are written, a present speed override recomputes the commanded speed at once
(R48, R116), and then the heat side is tested and adopted. That the recomputation, with its clamp and SPEED_SET, precedes a
standing-cause test that faults the station is the model's choice (DESIGN CHOICE, notes/assumptions/38.md). -/
def adjustStation (n : StationId) (a : Adjustment) (s : State) : State :=
  let before := s.heatTarget n
  let s1 := s.modRun n (adjustRun a (s.curStep n) (s.st n).limits.overtemp)
  adjustHeat n before a (if a.speed.isSome then recomputeDrive n s1 else s1)

/-- The ADJUST reply data from the run context the parts left (R48, R199). -/
def adjustData (r : RunContext) : List Byte :=
  [flagByte [r.speedOverride.isSome, r.tempOverride.isSome]] ++ putU16 (r.speedOverride.getD 0) ++
  putS16 (r.tempOverride.getD 0) ++ putU24 (r.effLimit.getD 0)

/-- ADJUST for a station that exists (R48). -/
def adjustRule (n : StationId) (a : Adjustment) (s : State) : State × Answer :=
  if (s.st n).run.state ≠ .running ∧ (s.st n).run.state ≠ .paused then (s, s.wrongState n)
  else if 12000 < a.speed.getD 0 then (s, refuse .badValue 0)
  else if 3600 < a.extension then (s, refuse .badValue 2)
  else (adjustStation n a s,
    done (adjustData (adjustRun a (s.curStep n) (s.st n).limits.overtemp (s.st n).run)))

/-- ADJUST (R48). -/
def execAdjust (q : NodeId) (t : Byte) (args : List Byte) (s : State) : Host.Outcome State Fault Refusal :=
  .next (serve ⟨0x36, t, q, args⟩ (fun s =>
    match args with
    | [n, pres, s0, s1, t0, t1, e0, e1] =>
      withStation n (fun n s => adjustRule n (readAdjust pres s0 s1 t0 t1 e0 e1) s) s
    | _ => (s, badLength)) s)

/-! ### CLEAR_FAULT (R55) -/

/-- A stored bowl temperature above OVERTEMP − 100 (R55). -/
def Station.tooHot (st : Station) : Bool :=
  match st.heat.bowl with
  | some t => (st.limits.overtemp : Int) - 100 < t
  | none => false

/-- A fault cause still holds (R55). -/
def State.causeHolds (s : State) (n : StationId) (c : FaultCause) : Bool :=
  let st := s.st n
  match c with
  | .link => s.applianceIsolated
  | .driveSilent => s.silent n .drive
  | .heaterSilent => s.silent n .heater
  | .weighSilent => s.silent n .weigh
  | .thermoSilent => s.silent n .thermo
  | .driveFault => (st.drive.report.map DriveReport.fault).getD false
  | .heaterFault => (st.heat.report.map HeatReport.fault).getD false
  | .thermoSensor => st.heat.sensorFault.getD false
  | .overtemp => st.tooHot
  | .lidLock => false

/-- CLEAR_FAULT for a station that exists (R55). The fault fields are kept, and the pending unlock stays as it is. -/
def clearFaultRule (n : StationId) (s : State) : State × Answer :=
  if (s.st n).run.state = .fault then
    match (s.st n).run.faultCause with
    | some c =>
      if s.causeHolds n c then (s, refuse .wrongState (causeCode c)) else (enterIdle n false false s, done [])
    | none => (enterIdle n false false s, done [])
  else (s, s.wrongState n)

/-- CLEAR_FAULT (R55). -/
def execClearFault (q : NodeId) (t : Byte) (args : List Byte) (s : State) : Host.Outcome State Fault Refusal :=
  .next (serve ⟨0x37, t, q, args⟩ (oneStation args clearFaultRule) s)

end Sys2Proof.Machine
end

