-- ==== Sys2Proof/Machine/Setup.lean ====
section
/-! DEFINITION. The meanings of the station setup requests: STATION_BIND (R17, R18), STATION_LIMITS (R19, R20),
WEIGH_CONFIG (R58, R59), HEAT_CONFIG (R88) and BUDGET_SET (R105). -/

namespace Sys2Proof.Machine

open Sys2Proof

/-! ### STATION_BIND -/

/-- A role value argument: 255 is "none", 0 to 30 a node number; any other number has no entry (R17, R131). -/
inductive RoleArg where
  | none
  | node (k : NodeId)
  | bad
deriving DecidableEq, Repr

/-- The role value of a byte. -/
def roleArg (b : Byte) : RoleArg :=
  if b = 255 then .none else if 30 < b.toNat then .bad else .node (b.setWidth 5)

/-- A node has a STATIC entry on the appliance port (R17). -/
def State.bindable (s : State) (k : NodeId) : Bool :=
  match s.nodeEntry k with
  | some e => e.origin == .static && e.port == .appliance
  | none => false

/-- Whether a role value fails the check of R17 step 3: no STATIC appliance entry, named under an earlier role of the
request, or bound in the other station. -/
def State.roleFails (s : State) (n : StationId) (earlier : List RoleArg) (a : RoleArg) : Bool :=
  match a with
  | .none => false
  | .bad => true
  | .node k => !s.bindable k || earlier.contains a || (roleOf (s.st (otherStation n)).binding k).isSome

/-- The number of the first role that fails, counting from `i` (R17). -/
def State.firstFailing (s : State) (n : StationId) (i : Nat) (earlier : List RoleArg) :
    List RoleArg → Option Nat
  | [] => none
  | a :: rest => if s.roleFails n earlier a then some i else s.firstFailing n (i + 1) (earlier ++ [a]) rest

/-- The node a role value names. -/
def RoleArg.toNode : RoleArg → Option NodeId
  | .node k => some k
  | _ => Option.none

/-- The station's unsent setpoint of a kind is discarded and its buffer freed (R18). -/
def discardUnsent (k : OwnKind) (s : State) : State :=
  s.modPort .appliance (fun q => q.modQueue k.cls (List.filter (fun e => !Queued.isKind k e)))

/-- What the station forgets of its old DRIVE node (R18); the spin-down timer starts at once when the new node is
silent (R126). That the manual direction stays is the model's choice (DESIGN CHOICE, notes/assumptions/30.md). -/
def forgetDrive (newSilent : Bool) (d : DriveContext) : DriveContext :=
  { d with
    manualSpeed := 0, speedHold := none, report := none, spinDownElapsed := false
    spinDown := if newSilent then some Config.spinDownMs else none }

/-- Whether the node of an optional role value is silent (R139). -/
def State.nodeSilent (s : State) (k : Option NodeId) : Bool :=
  match k.bind s.nodeEntry with
  | some e => e.silent
  | none => false

/-- The part of R18 that forgets: for each changed role its fields and its unsent setpoint. -/
def forgetRoles (n : StationId) (old new : Binding) (s : State) : State :=
  let s1 := if old.drive = new.drive then s else
    (discardUnsent (.speedSet n) (s.modDrive n (forgetDrive (s.nodeSilent new.drive)))).modSide n
      (fun a => { a with draw := 0 })
  let s2 := if old.heater = new.heater then s1 else
    (((discardUnsent (.heatSet n) s1).modDrive n (fun d => { d with manualHeat := 0, heatHold := none })).modHeat n
      (fun h => { h with report := none })).modSide n (fun a => { a with lastSent := none })
  let s3 := if old.weigh = new.weigh then s2 else s2.modWeigh n flushRing
  let s4 := if old.thermo = new.thermo then s3 else s3.modHeat n (fun h => { h with bowl := none, sensorFault := none })
  if old.lid = new.lid then s4 else
    (discardUnsent (.lidSet n) s4).modDrive n (fun d => { d with lidCommand := none, lidReport := none })

/-- The recomputations a changed binding calls for, once the new binding stands (R18, R99, R106, R107, R115, R118,
R129). -/
def followBinding (n : StationId) (old new : Binding) (s : State) : State :=
  let s1 := if old.thermo = new.thermo ∧ old.lid = new.lid then s else recomputeEnvelope n s
  let s2 := if old.drive = new.drive then s1 else recomputeArbiter (sendSpeedSet n (recomputeDrive n s1))
  let s3 := followDemand n (followManualHeat n s2)
  if old.lid ≠ new.lid ∧ new.lid.isSome = true then testUnlock n s3 else s3

/-- An accepted STATION_BIND (R17, R18). -/
def bindStation (n : StationId) (new : Binding) (s : State) : State :=
  let old := (s.st n).binding
  followBinding n old new ((forgetRoles n old new s).modSt n (fun st => { st with binding := new }))

/-- STATION_BIND's rule (R17). -/
def stationBindRule (args : List Byte) (s : State) : State × Answer :=
  match args with
  | [n, d, h, w, t, l] =>
    withStation n (fun n => whenIdle n (fun s =>
      match s.firstFailing n 0 [] [roleArg d, roleArg h, roleArg w, roleArg t, roleArg l] with
      | some r => (s, refuse .badValue r)
      | none =>
        if (roleArg w).toNode ≠ (s.st n).binding.weigh ∧ (s.st n).weigh.op ≠ .none then (s, refuse .busy 0)
        else (bindStation n ⟨(roleArg d).toNode, (roleArg h).toNode, (roleArg w).toNode, (roleArg t).toNode,
            (roleArg l).toNode⟩ s, done []))) s
  | _ => (s, badLength)

/-- STATION_BIND (R17, R18). -/
def execStationBind (q : NodeId) (t : Byte) (args : List Byte) (s : State) : Host.Outcome State Fault Refusal :=
  .next (serve ⟨0x20, t, q, args⟩ (stationBindRule args) s)

/-! ### STATION_LIMITS -/

/-- What an accepted limit write does (R20). -/
def applyLimit (n : StationId) (id v : Nat) (s : State) : State :=
  let s1 := s.modSt n (fun st => { st with limits := setLimit st.limits id v })
  if id < 4 then recomputeEnvelope n s1
  else if id = 4 then
    recomputeArbiter (followManualHeat n (s1.modDrive n (fun d => { d with manualHeat := min d.manualHeat v })))
  else s1

/-- The write form of STATION_LIMITS (R19). -/
def stationLimitsWriteRule (args : List Byte) (s : State) : State × Answer :=
  match args with
  | [n, id, lo, hi] =>
    withStation n (fun n => whenIdle n (fun s =>
      if 9 < id.toNat then (s, refuse .badValue 0)
      else if limitInRange id.toNat (u16 lo hi) then
        (applyLimit n id.toNat (u16 lo hi) s, done (putU16 (u16 lo hi)))
      else (s, refuse .badValue 1))) s
  | _ => (s, badLength)

/-- STATION_LIMITS, write form (R19). -/
def execStationLimitsWrite (q : NodeId) (t : Byte) (args : List Byte) (s : State) :
    Host.Outcome State Fault Refusal :=
  .next (serveForm 2 ⟨0x21, t, q, args⟩ (stationLimitsWriteRule args) s)

/-- The read form of STATION_LIMITS (R19). -/
def stationLimitsReadRule (args : List Byte) (s : State) : State × Answer :=
  match args with
  | [n, id] =>
    withStation n (fun n s =>
      match limitValue (s.st n).limits id.toNat with
      | none => (s, refuse .badValue 0)
      | some v => (s, done (putU16 v))) s
  | _ => (s, badLength)

/-- STATION_LIMITS, read form (R19). -/
def execStationLimitsRead (q : NodeId) (t : Byte) (args : List Byte) (s : State) :
    Host.Outcome State Fault Refusal :=
  .next (serveForm 4 ⟨0x21, t, q, args⟩ (stationLimitsReadRule args) s)

/-! ### WEIGH_CONFIG -/

/-- The weigh context after a CAP write (R59). -/
def capWeigh (cap : Int) (w : WeighContext) : WeighContext :=
  let t := clampInt (-cap) cap w.tare
  { w with tare := t, net := netOf cap w.filtered t, overload := decide (cap < w.filtered) }

/-- What an accepted WEIGH_CONFIG write does (R59). -/
def applyWeighItem (n : StationId) (id : Nat) (v : Int) (s : State) : State :=
  let s1 := s.modSt n (fun st => { st with weighCfg := setWeighItem st.weighCfg id v })
  if id = 0 then s1.modWeigh n (capWeigh v)
  else if 5 ≤ id then s1.modWeigh n flushRing
  else s1

/-- The write form of WEIGH_CONFIG (R58). -/
def weighConfigWriteRule (args : List Byte) (s : State) : State × Answer :=
  match args with
  | [n, id, b0, b1, b2, b3] =>
    withStation n (fun n => whenIdle n (fun s =>
      if (s.st n).weigh.op ≠ .none then (s, refuse .busy (opCode (s.st n).weigh.op))
      else if 9 < id.toNat then (s, refuse .badValue 0)
      else if weighInRange id.toNat (s32 b0 b1 b2 b3) then
        (applyWeighItem n id.toNat (s32 b0 b1 b2 b3) s, done (putS32 (s32 b0 b1 b2 b3)))
      else (s, refuse .badValue 1))) s
  | _ => (s, badLength)

/-- WEIGH_CONFIG, write form (R58). -/
def execWeighConfigWrite (q : NodeId) (t : Byte) (args : List Byte) (s : State) :
    Host.Outcome State Fault Refusal :=
  .next (serveForm 2 ⟨0x22, t, q, args⟩ (weighConfigWriteRule args) s)

/-- The read form of WEIGH_CONFIG (R58). -/
def weighConfigReadRule (args : List Byte) (s : State) : State × Answer :=
  match args with
  | [n, id] =>
    withStation n (fun n s =>
      match weighValue (s.st n).weighCfg id.toNat with
      | none => (s, refuse .badValue 0)
      | some v => (s, done (putS32 v))) s
  | _ => (s, badLength)

/-- WEIGH_CONFIG, read form (R58). -/
def execWeighConfigRead (q : NodeId) (t : Byte) (args : List Byte) (s : State) :
    Host.Outcome State Fault Refusal :=
  .next (serveForm 6 ⟨0x22, t, q, args⟩ (weighConfigReadRule args) s)

/-! ### HEAT_CONFIG -/

/-- The write form of HEAT_CONFIG (R88). -/
def heatConfigWriteRule (args : List Byte) (s : State) : State × Answer :=
  match args with
  | [n, id, v] =>
    withStation n (fun n => whenIdle n (fun s =>
      if 2 < id.toNat then (s, refuse .badValue 0)
      else if heatInRange id.toNat v.toNat then
        (s.modSt n (fun st => { st with heatCfg := setHeatItem st.heatCfg id.toNat v.toNat }), done [v])
      else (s, refuse .badValue 1))) s
  | _ => (s, badLength)

/-- HEAT_CONFIG, write form (R88). -/
def execHeatConfigWrite (q : NodeId) (t : Byte) (args : List Byte) (s : State) :
    Host.Outcome State Fault Refusal :=
  .next (serveForm 2 ⟨0x23, t, q, args⟩ (heatConfigWriteRule args) s)

/-- The read form of HEAT_CONFIG (R88). -/
def heatConfigReadRule (args : List Byte) (s : State) : State × Answer :=
  match args with
  | [n, id] =>
    withStation n (fun n s =>
      match heatValue (s.st n).heatCfg id.toNat with
      | none => (s, refuse .badValue 0)
      | some v => (s, done [byteOf v])) s
  | _ => (s, badLength)

/-- HEAT_CONFIG, read form (R88). -/
def execHeatConfigRead (q : NodeId) (t : Byte) (args : List Byte) (s : State) :
    Host.Outcome State Fault Refusal :=
  .next (serveForm 3 ⟨0x23, t, q, args⟩ (heatConfigReadRule args) s)

/-! ### BUDGET_SET -/

/-- The BUDGET_SET data: the budget and both grants (R105). -/
def State.budgetData (s : State) : List Byte :=
  putU16 s.arbiter.budget ++ putU16 s.arbiter.side0.grant ++ putU16 s.arbiter.side1.grant

/-- An accepted budget replaces the old one, and the arbiter recomputes (R105). -/
def setBudget (w : Nat) (s : State) : State :=
  recomputeArbiter { s with arbiter := { s.arbiter with budget := w } }

/-- The write form of BUDGET_SET (R105). -/
def budgetSetWriteRule (args : List Byte) (s : State) : State × Answer :=
  match args with
  | [lo, hi] =>
    if u16 lo hi < 500 ∨ 3600 < u16 lo hi then (s, refuse .badValue 1)
    else (setBudget (u16 lo hi) s, done (setBudget (u16 lo hi) s).budgetData)
  | _ => (s, badLength)

/-- BUDGET_SET, write form (R105). -/
def execBudgetSetWrite (q : NodeId) (t : Byte) (args : List Byte) (s : State) :
    Host.Outcome State Fault Refusal :=
  .next (serveForm 0 ⟨0x24, t, q, args⟩ (budgetSetWriteRule args) s)

/-- The read form of BUDGET_SET (R105). -/
def budgetSetReadRule (args : List Byte) (s : State) : State × Answer :=
  match args with
  | [] => (s, done s.budgetData)
  | _ => (s, badLength)

/-- BUDGET_SET, read form (R105). -/
def execBudgetSetRead (q : NodeId) (t : Byte) (args : List Byte) (s : State) :
    Host.Outcome State Fault Refusal :=
  .next (serveForm 2 ⟨0x24, t, q, args⟩ (budgetSetReadRule args) s)

end Sys2Proof.Machine
end

