-- ==== Sys2Proof/Machine/Status.lean ====
section
/-! DEFINITION. The meanings of the status and report requests (chapter 10): STATUS_READ with its pages (R186, R200),
the notice requests (R189), COUNTERS_READ (R192), REPORT_CONFIG (R190), and a request code the part does not know
(R183). -/

namespace Sys2Proof.Machine

open Sys2Proof

/-! ### Status pages (R186, R200) -/

/-- Section 1 of the part page for one port. -/
def State.portBytes (s : State) (p : Port) : List Byte :=
  [PortState.statusByte (s.port p), byteOf (s.port p).tx, byteOf (s.port p).rx, byteOf (s.held p)]

/-- Page 0, the part page (R200). -/
def State.partPage (s : State) : List (List Byte) :=
  let b := s.arbiter
  [putBits s.notices.bits ++ putBits s.notices.enables ++ putBits s.notices.accumulator ++
     [byteOf s.requests.length, byteOf (Config.replyCap - s.repliesHeld), byteOf s.freeTransit,
      byteOf s.freeOrigination],
   s.portBytes .control ++ s.portBytes .appliance,
   putU16 b.budget ++ putU16 b.available ++ putU16 b.side0.draw ++ putU16 b.side1.draw ++ putU16 b.side0.counted ++
     putU16 b.side1.counted,
   putU16 b.side0.share ++ putU16 b.side1.share ++ putU16 b.side0.grant ++ putU16 b.side1.grant]

/-- Section 0 of a station page: the run position (R200). -/
def Station.runBytes (st : Station) : List Byte :=
  let r := st.run
  [byteOf (stateCode r.state), optCode (r.phase.map phaseCode), optCode (r.savedPhase.map phaseCode),
   optCode (r.phaseAfterLock.map phaseCode), optCode (r.pauseReason.map pauseCode), optCode r.step,
   byteOf r.loopCounter] ++ putU24 r.elapsed ++
  [flagByte [r.flags.baseUnsettled, r.flags.adjusted, r.flags.paused], byteOf st.recipeLength]

/-- Section 1: limit, extension, overrides, lock holder, fault cause (R200). -/
def Station.limitBytes (st : Station) : List Byte :=
  let r := st.run
  putU24 (r.effLimit.getD 0) ++ putU16 r.extension ++
  [flagByte [r.speedOverride.isSome, r.tempOverride.isSome]] ++ putU16 (r.speedOverride.getD 0) ++
  putS16 (r.tempOverride.getD 0) ++ [optNode st.lockHolder, optCode (r.faultCause.map causeCode)]

/-- Section 2: further faults, warming, binding and silent flags (R200). An absent warming limit is shown as 0 (DESIGN CHOICE,
notes/assumptions/31.md). -/
def State.bindingBytes (s : State) (n : StationId) : List Byte :=
  let st := s.st n
  [byteOf st.run.furtherFaults, if st.run.more then 1 else 0] ++ putU16 st.run.warmingElapsed ++
  putU16 (st.run.warmingLimit.getD 0) ++ allRoles.map (fun r => optNode (st.binding.get r)) ++
  [flagByte (allRoles.map (s.silent n))]

/-- Section 3: the weights (R200). -/
def Station.weightBytes (st : Station) : List Byte :=
  putS24 st.weigh.net ++ putS24 st.weigh.filtered ++ putS24 st.weigh.tare ++ putS24 (st.added.getD 0)

/-- Section 4: weigh flags, operation and outcomes (R200). -/
def Station.opBytes (st : Station) : List Byte :=
  let w := st.weigh
  [flagByte [w.settled, w.overload, w.stale, st.added.isSome], byteOf (opCode w.op),
   optCode (w.lastTare.map opOutcomeCode), optCode (w.lastZero.map opOutcomeCode),
   optCode (w.lastCal.map opOutcomeCode), byteOf w.ring.length, byteOf w.accCount]

/-- Section 5: the heat regulator (R200). An absent sensor fault is shown as 0 (DESIGN CHOICE, notes/assumptions/31.md). -/
def State.heatBytes (s : State) (n : StationId) : List Byte :=
  let h := (s.st n).heat
  [flagByte [(s.heatTarget n).isSome, h.bowl.isSome, h.sensorFault.getD false, h.reached, h.report.isSome,
     (h.report.map HeatReport.fault).getD false, (s.side n).lastSent.isSome]] ++
  putS16 ((s.heatTarget n).getD 0) ++ putS16 (h.bowl.getD 0) ++ putU16 h.integral ++ putU16 h.demand ++
  putU16 (s.side n).grant

/-- Section 6: heater power, last value sent, sample count, temperature of the last step report (R200). -/
def State.heaterBytes (s : State) (n : StationId) : List Byte :=
  let st := s.st n
  putU16 ((st.heat.report.map HeatReport.power).getD 0) ++ putU16 ((s.side n).lastSent.getD 0) ++
  putU32 st.heat.samples ++ putS16 ((st.run.lastReport.bind StepReport.bowl).getD 0)

/-- Whether a direction is REV. -/
def isRev : Direction → Bool
  | .fwd => false
  | .rev => true

/-- Section 7: speeds and manual demands (R200). -/
def Station.speedBytes (st : Station) : List Byte :=
  let d := st.drive
  putU16 d.requested ++ putU16 d.commanded ++
  [flagByte [isRev d.requestedDir, isRev d.commandedDir, d.clamped, isRev d.manualDir]] ++ putU16 d.envelope ++
  putU16 d.manualSpeed ++ putU16 d.manualHeat

/-- Section 8: holds, lid and drive reports (R200). -/
def Station.lidBytes (st : Station) : List Byte :=
  let d := st.drive
  putU16 (d.speedHold.getD 0) ++ putU16 (d.heatHold.getD 0) ++
  [optCode (d.manualLid.map lidCmdCode), optCode (d.lidCommand.map lidCmdCode),
   flagByte [d.lidReport.isSome, (d.lidReport.map LidReport.closed).getD false,
     (d.lidReport.map LidReport.locked).getD false, d.report.isSome, (d.report.map DriveReport.fault).getD false,
     d.pendingUnlock, d.spinDownElapsed]] ++
  putU16 ((d.report.map DriveReport.speed).getD 0) ++ putU16 ((d.report.map DriveReport.draw).getD 0)

/-- Section 9: the last step report (R200). -/
def Station.reportBytes (st : Station) : List Byte :=
  match st.run.lastReport with
  | none => [0, 255] ++ List.replicate 10 0
  | some r =>
    [byteOf r.step, byteOf (outcomeCode r.outcome)] ++ putU24 r.elapsed ++ putS24 r.net ++
    putS24 (r.added.getD 0) ++ [reportFlags r]

/-- Pages 1 and 2, the station pages (R200). -/
def State.stationPage (s : State) (n : StationId) : List (List Byte) :=
  let st := s.st n
  [st.runBytes, st.limitBytes, s.bindingBytes n, st.weightBytes, st.opBytes, s.heatBytes n, s.heaterBytes n,
   st.speedBytes, st.lidBytes, st.reportBytes]

/-- The page of this number. -/
def State.page (s : State) : Nat → List (List Byte)
  | 0 => s.partPage
  | 1 => s.stationPage .zero
  | _ => s.stationPage .one

/-- The number of sections of a page (R186). -/
def sections (page : Nat) : Nat := if page = 0 then 4 else 10

/-- A new snapshot of a page: the whole page copied, its number stepped modulo 256 (R186). -/
def takeSnapshot (page : Nat) (s : State) : State :=
  let fresh : Snapshot :=
    { number := ((s.snapshots[page]?.getD {}).number + 1) % 256, page := some (s.page page) }
  { s with snapshots := s.snapshots.setIfInBounds page fresh }

/-- The answer from a page's record (R186). -/
def State.sectionAnswer (s : State) (page sec : Nat) : Answer :=
  let r := s.snapshots[page]?.getD {}
  { status := .done, detail := r.number, data := ((r.page.getD [])[sec]?).getD [] }

/-- STATUS_READ's rule (R186). -/
def statusReadRule (args : List Byte) (s : State) : State × Answer :=
  match args with
  | [page, sec] =>
    if 2 < page.toNat then (s, refuse .badValue 0)
    else if sections page.toNat ≤ sec.toNat then (s, refuse .badValue 1)
    else if sec = 0 then
      (takeSnapshot page.toNat s, (takeSnapshot page.toNat s).sectionAnswer page.toNat 0)
    else if (s.snapshots[page.toNat]?.getD {}).page = none then (s, refuse .badValue 2)
    else (s, s.sectionAnswer page.toNat sec.toNat)
  | _ => (s, badLength)

/-- STATUS_READ (R186). -/
def execStatusRead (q : NodeId) (t : Byte) (args : List Byte) (s : State) : Host.Outcome State Fault Refusal :=
  .next (serve ⟨0x40, t, q, args⟩ (statusReadRule args) s)

/-! ### Notices (R189) -/

/-- A row of sixteen bits from its two bytes. -/
def bitsOf (lo hi : Byte) : BitVec 16 := hi ++ lo

/-- An accepted NOTICE_ENABLE (R189): set bits whose enable goes from clear to set join the accumulator, and raise a
NOTICE when there is one. -/
def enableNotices (en : BitVec 16) (s : State) : State :=
  let fresh := s.notices.bits &&& en &&& ~~~s.notices.enables
  let s1 := { s with notices := { s.notices with
    enables := en, accumulator := s.notices.accumulator ||| fresh } }
  if fresh = 0 then s1 else originateNotice s1

/-- NOTICE_ENABLE's rule (R189). -/
def noticeEnableRule (args : List Byte) (s : State) : State × Answer :=
  match args with
  | [lo, hi] => (enableNotices (bitsOf lo hi) s, done (putBits (bitsOf lo hi)))
  | _ => (s, badLength)

/-- NOTICE_ENABLE (R189). -/
def execNoticeEnable (q : NodeId) (t : Byte) (args : List Byte) (s : State) : Host.Outcome State Fault Refusal :=
  .next (serve ⟨0x41, t, q, args⟩ (noticeEnableRule args) s)

/-- The notice set after a NOTICE_CLEAR of these bits (R189). -/
def clearNotices (named : BitVec 16) (x : Notices) : Notices :=
  { x with bits := x.bits &&& ~~~named, accumulator := x.accumulator &&& ~~~named }

/-- NOTICE_CLEAR's rule (R189). -/
def noticeClearRule (args : List Byte) (s : State) : State × Answer :=
  match args with
  | [lo, hi] =>
    ({ s with notices := clearNotices (bitsOf lo hi) s.notices },
      done (putBits (clearNotices (bitsOf lo hi) s.notices).bits))
  | _ => (s, badLength)

/-- NOTICE_CLEAR (R189). -/
def execNoticeClear (q : NodeId) (t : Byte) (args : List Byte) (s : State) : Host.Outcome State Fault Refusal :=
  .next (serve ⟨0x42, t, q, args⟩ (noticeClearRule args) s)

/-- NOTICE_READ's rule (R189). -/
def noticeReadRule (args : List Byte) (s : State) : State × Answer :=
  match args with
  | [] =>
    (s, done (putBits s.notices.bits ++ putBits s.notices.enables ++ putBits s.notices.accumulator))
  | _ => (s, badLength)

/-- NOTICE_READ (R189). -/
def execNoticeRead (q : NodeId) (t : Byte) (args : List Byte) (s : State) : Host.Outcome State Fault Refusal :=
  .next (serve ⟨0x43, t, q, args⟩ (noticeReadRule args) s)

/-! ### Counters (R192) -/

/-- The counters of a group from `first` on, up to `count` (R192). -/
def taken {k : Nat} (v : Vector Nat k) (first count : Nat) : List Nat := (v.toList.drop first).take count

/-- The counters of a group with the returned ones set to 0 (R192). -/
def zeroed {k : Nat} (v : Vector Nat k) (first count : Nat) : Vector Nat k :=
  Vector.ofFn (fun i : Fin k => if first ≤ i.val ∧ i.val < first + count then 0 else v[i])

/-- The answer of COUNTERS_READ: the number returned in the detail, and their values (R192). -/
def countersAnswer (vals : List Nat) : Answer :=
  { status := .done, detail := vals.length, data := vals.flatMap putU32 }

/-- COUNTERS_READ of a port group (R192). -/
def readPortCounters (p : Port) (first count : Nat) (clear : Bool) (s : State) : State × Answer :=
  let v := (s.port p).counters
  if 16 < first then (s, refuse .badValue 1)
  else if count = 0 ∨ 3 < count then (s, refuse .badValue 2)
  else (if clear then s.modPort p (fun q => { q with counters := zeroed q.counters first count }) else s,
    countersAnswer (taken v first count))

/-- COUNTERS_READ of a station group (R192). -/
def readStationCounters (n : StationId) (first count : Nat) (clear : Bool) (s : State) : State × Answer :=
  let v := (s.st n).counters
  if 4 < first then (s, refuse .badValue 1)
  else if count = 0 ∨ 3 < count then (s, refuse .badValue 2)
  else (if clear then s.modSt n (fun st => { st with counters := zeroed st.counters first count }) else s,
    countersAnswer (taken v first count))

/-- COUNTERS_READ's rule (R192, R199). -/
def countersReadRule (args : List Byte) (s : State) : State × Answer :=
  match args with
  | [g, first, count, c] =>
    if g = 0 then readPortCounters .control first.toNat count.toNat (c.getLsbD 0) s
    else if g = 1 then readPortCounters .appliance first.toNat count.toNat (c.getLsbD 0) s
    else if g = 2 then readStationCounters .zero first.toNat count.toNat (c.getLsbD 0) s
    else if g = 3 then readStationCounters .one first.toNat count.toNat (c.getLsbD 0) s
    else (s, refuse .badValue 0)
  | _ => (s, badLength)

/-- COUNTERS_READ (R192). -/
def execCountersRead (q : NodeId) (t : Byte) (args : List Byte) (s : State) : Host.Outcome State Fault Refusal :=
  .next (serve ⟨0x44, t, q, args⟩ (countersReadRule args) s)

/-! ### Report interval (R190) -/

/-- A WEIGHT_REPORT interval the write form accepts (R190). -/
def intervalOk (v : Nat) : Bool := v == 0 || (100 ≤ v && v ≤ 2000)

/-- The write form of REPORT_CONFIG (R190). -/
def reportConfigWriteRule (args : List Byte) (s : State) : State × Answer :=
  match args with
  | [n, lo, hi] =>
    withStation n (fun n s =>
      if intervalOk (u16 lo hi) then
        (s.modSt n (fun st => { st with
          reportInterval := u16 lo hi, reportTimer := reportTimerOf (u16 lo hi) }),
         done (putU16 (u16 lo hi)))
      else (s, refuse .badValue 1)) s
  | _ => (s, badLength)

/-- REPORT_CONFIG, write form (R190). -/
def execReportConfigWrite (q : NodeId) (t : Byte) (args : List Byte) (s : State) :
    Host.Outcome State Fault Refusal :=
  .next (serveForm 1 ⟨0x45, t, q, args⟩ (reportConfigWriteRule args) s)

/-- The read form of REPORT_CONFIG (R190). -/
def reportConfigReadRule (args : List Byte) (s : State) : State × Answer :=
  match args with
  | [n] =>
    withStation n (fun n s =>
      (s, done (putU16 (s.st n).reportInterval ++ putU16 ((s.st n).reportTimer.getD 0)))) s
  | _ => (s, badLength)

/-- REPORT_CONFIG, read form (R190). -/
def execReportConfigRead (q : NodeId) (t : Byte) (args : List Byte) (s : State) :
    Host.Outcome State Fault Refusal :=
  .next (serveForm 3 ⟨0x45, t, q, args⟩ (reportConfigReadRule args) s)

/-! ### Unknown request code (R183) -/

/-- UNKNOWN_REQUEST_CODE: a code the part does not know is refused BAD_REQUEST with detail 0. A code it knows is not this
command's and changes nothing (notes/assumptions/3.md). -/
def execUnknownRequestCode (c : Byte) (q : NodeId) (t : Byte) (args : List Byte) (s : State) :
    Host.Outcome State Fault Refusal :=
  .next (if knownCodes.contains c then s else serve ⟨c, t, q, args⟩ (fun s => (s, refuse .badRequest 0)) s)

end Sys2Proof.Machine
end

