-- ==== Sys2Proof/Machine/WeighRequests.lean ====
section
/-! DEFINITION. The meanings of the weighing requests (section 3.7): TARE (R75, R76), ZERO (R79, R83) and CALIBRATE
(R81, R83). -/

namespace Sys2Proof.Machine

open Sys2Proof

/-- A new operation: its field, deadline and reference mass, with count and sums 0 (R75, R79, R81). -/
def startOp (op : WeighOp) (ms : Nat) (mass : Option Int) (w : WeighContext) : WeighContext :=
  { clearOp w with op := op, opDeadline := some ms, refMass := mass }

/-- The checks of the WEIGH role, steps 2 and 3 of R75 and steps 3 and 4 of R79. -/
def State.weighRefusal (s : State) (n : StationId) : Option Answer :=
  if (s.st n).binding.weigh.isNone then some (refuse .noBinding 2)
  else if s.silent n .weigh then some (refuse .wrongState 19)
  else none

/-- TARE for a station that exists: a running tare is superseded (R75, R76). -/
def tareRule (n : StationId) (s : State) : State × Answer :=
  match s.weighRefusal n with
  | some a => (s, a)
  | none =>
    match (s.st n).weigh.op with
    | .zeroing => (s, refuse .busy 5)
    | .calibrating => (s, refuse .busy 6)
    | .taring => ((endOp n .superseded s).modWeigh n (startOp .taring Config.tareMs none), done [])
    | .none => (s.modWeigh n (startOp .taring Config.tareMs none), done [])

/-- TARE (R75). -/
def execTare (q : NodeId) (t : Byte) (args : List Byte) (s : State) : Host.Outcome State Fault Refusal :=
  .next (serve ⟨0x38, t, q, args⟩ (oneStation args tareRule) s)

/-- Steps 2 to 5 of R79, shared by ZERO and CALIBRATE (R81). -/
def State.captureRefusal (s : State) (n : StationId) : Option Answer :=
  if (s.st n).run.state ≠ .idle then some (s.wrongState n)
  else match s.weighRefusal n with
    | some a => some a
    | none => if (s.st n).weigh.op = .taring then some (refuse .busy 7) else none

/-- A running zero capture or calibration first ends INTERRUPTED (R83); then the new operation starts. -/
def startCapture (n : StationId) (op : WeighOp) (mass : Option Int) (s : State) : State :=
  (if (s.st n).weigh.op = .none then s else endOp n .interrupted s).modWeigh n (startOp op Config.captureMs mass)

/-- ZERO for a station that exists (R79). -/
def zeroRule (n : StationId) (s : State) : State × Answer :=
  match s.captureRefusal n with
  | some a => (s, a)
  | none => (startCapture n .zeroing none s, done [])

/-- ZERO (R79). -/
def execZero (q : NodeId) (t : Byte) (args : List Byte) (s : State) : Host.Outcome State Fault Refusal :=
  .next (serve ⟨0x39, t, q, args⟩ (oneStation args zeroRule) s)

/-- CALIBRATE for a station that exists, with reference mass `m` (R81). -/
def calibrateRule (n : StationId) (m : Nat) (s : State) : State × Answer :=
  match s.captureRefusal n with
  | some a => (s, a)
  | none =>
    if m < 100 ∨ (s.st n).weighCfg.cap < (m : Int) then (s, refuse .badValue 0)
    else (startCapture n .calibrating (some (m : Int)) s, done [])

/-- CALIBRATE (R81). -/
def execCalibrate (q : NodeId) (t : Byte) (args : List Byte) (s : State) : Host.Outcome State Fault Refusal :=
  .next (serve ⟨0x3A, t, q, args⟩ (fun s =>
    match args with
    | [n, m0, m1, m2] => withStation n (fun n => calibrateRule n (u24 m0 m1 m2)) s
    | _ => (s, badLength)) s)

end Sys2Proof.Machine
end

