-- ==== Sys2Proof/Machine/Dispatch.lean ====
section
/-! DEFINITION. The dispatch: one arm for each command, each one call of the command's meaning. -/

namespace Sys2Proof.Machine

open Sys2Proof

/-- The effect of a command on everything but the queue. -/
def exec (i : Instr) (s : State) : Host.Outcome State Fault Refusal :=
  match i with
  | .powerOnReset straps => Sys2Proof.Machine.execPowerOnReset straps s
  | .frameArrival p f => Sys2Proof.Machine.execFrameArrival p f s
  | .receiveError p e => Sys2Proof.Machine.execReceiveError p e s
  | .transmissionStart p gap => Sys2Proof.Machine.execTransmissionStart p gap s
  | .lostArbitration p w => Sys2Proof.Machine.execLostArbitration p w s
  | .wonArbitration p => Sys2Proof.Machine.execWonArbitration p s
  | .transmissionCompleted p => Sys2Proof.Machine.execTransmissionCompleted p s
  | .transmitError p e => Sys2Proof.Machine.execTransmitError p e s
  | .joinWaitEnd p => Sys2Proof.Machine.execJoinWaitEnd p s
  | .portRecovery p => Sys2Proof.Machine.execPortRecovery p s
  | .stepTimerExpiry n => Sys2Proof.Machine.execStepTimerExpiry n s
  | .reversal n => Sys2Proof.Machine.execReversal n s
  | .lockingDeadlineExpiry n => Sys2Proof.Machine.execLockingDeadlineExpiry n s
  | .basingDeadlineExpiry n => Sys2Proof.Machine.execBasingDeadlineExpiry n s
  | .warmingLimitExpiry n => Sys2Proof.Machine.execWarmingLimitExpiry n s
  | .tareDeadlineExpiry n => Sys2Proof.Machine.execTareDeadlineExpiry n s
  | .zeroCalibrateDeadlineExpiry n => Sys2Proof.Machine.execZeroCalibrateDeadlineExpiry n s
  | .speedHoldExpiry n => Sys2Proof.Machine.execSpeedHoldExpiry n s
  | .heatHoldExpiry n => Sys2Proof.Machine.execHeatHoldExpiry n s
  | .spinDownExpiry n => Sys2Proof.Machine.execSpinDownExpiry n s
  | .refreshExpiry n => Sys2Proof.Machine.execRefreshExpiry n s
  | .reportTimerExpiry n => Sys2Proof.Machine.execReportTimerExpiry n s
  | .agingRemoval index => Sys2Proof.Machine.execAgingRemoval index s
  | .nodeBecomesSilent index => Sys2Proof.Machine.execNodeBecomesSilent index s
  | .identify q t a => Sys2Proof.Machine.execIdentify q t a s
  | .restart q t a => Sys2Proof.Machine.execRestart q t a s
  | .routeWrite q t a => Sys2Proof.Machine.execRouteWrite q t a s
  | .routeRead q t a => Sys2Proof.Machine.execRouteRead q t a s
  | .routeDefaultWrite q t a => Sys2Proof.Machine.execRouteDefaultWrite q t a s
  | .routeDefaultRead q t a => Sys2Proof.Machine.execRouteDefaultRead q t a s
  | .portConfigWrite q t a => Sys2Proof.Machine.execPortConfigWrite q t a s
  | .portConfigRead q t a => Sys2Proof.Machine.execPortConfigRead q t a s
  | .portStatus q t a => Sys2Proof.Machine.execPortStatus q t a s
  | .portRestart q t a => Sys2Proof.Machine.execPortRestart q t a s
  | .nodeWrite q t a => Sys2Proof.Machine.execNodeWrite q t a s
  | .nodeDelete q t a => Sys2Proof.Machine.execNodeDelete q t a s
  | .nodeRead q t a => Sys2Proof.Machine.execNodeRead q t a s
  | .nodeFlush q t a => Sys2Proof.Machine.execNodeFlush q t a s
  | .stationBind q t a => Sys2Proof.Machine.execStationBind q t a s
  | .stationLimitsWrite q t a => Sys2Proof.Machine.execStationLimitsWrite q t a s
  | .stationLimitsRead q t a => Sys2Proof.Machine.execStationLimitsRead q t a s
  | .weighConfigWrite q t a => Sys2Proof.Machine.execWeighConfigWrite q t a s
  | .weighConfigRead q t a => Sys2Proof.Machine.execWeighConfigRead q t a s
  | .heatConfigWrite q t a => Sys2Proof.Machine.execHeatConfigWrite q t a s
  | .heatConfigRead q t a => Sys2Proof.Machine.execHeatConfigRead q t a s
  | .budgetSetWrite q t a => Sys2Proof.Machine.execBudgetSetWrite q t a s
  | .budgetSetRead q t a => Sys2Proof.Machine.execBudgetSetRead q t a s
  | .lock q t a => Sys2Proof.Machine.execLock q t a s
  | .unlock q t a => Sys2Proof.Machine.execUnlock q t a s
  | .stepWrite q t a => Sys2Proof.Machine.execStepWrite q t a s
  | .stepRead q t a => Sys2Proof.Machine.execStepRead q t a s
  | .recipeLength q t a => Sys2Proof.Machine.execRecipeLength q t a s
  | .recipeClear q t a => Sys2Proof.Machine.execRecipeClear q t a s
  | .start q t a => Sys2Proof.Machine.execStart q t a s
  | .pause q t a => Sys2Proof.Machine.execPause q t a s
  | .resume q t a => Sys2Proof.Machine.execResume q t a s
  | .stop q t a => Sys2Proof.Machine.execStop q t a s
  | .skip q t a => Sys2Proof.Machine.execSkip q t a s
  | .confirm q t a => Sys2Proof.Machine.execConfirm q t a s
  | .adjust q t a => Sys2Proof.Machine.execAdjust q t a s
  | .clearFault q t a => Sys2Proof.Machine.execClearFault q t a s
  | .tare q t a => Sys2Proof.Machine.execTare q t a s
  | .zero q t a => Sys2Proof.Machine.execZero q t a s
  | .calibrate q t a => Sys2Proof.Machine.execCalibrate q t a s
  | .statusRead q t a => Sys2Proof.Machine.execStatusRead q t a s
  | .noticeEnable q t a => Sys2Proof.Machine.execNoticeEnable q t a s
  | .noticeClear q t a => Sys2Proof.Machine.execNoticeClear q t a s
  | .noticeRead q t a => Sys2Proof.Machine.execNoticeRead q t a s
  | .countersRead q t a => Sys2Proof.Machine.execCountersRead q t a s
  | .reportConfigWrite q t a => Sys2Proof.Machine.execReportConfigWrite q t a s
  | .reportConfigRead q t a => Sys2Proof.Machine.execReportConfigRead q t a s
  | .unknownRequestCode c q t a => Sys2Proof.Machine.execUnknownRequestCode c q t a s
  | .resetAsserted => Sys2Proof.Machine.execResetAsserted s
  | .startMarkReceived p => Sys2Proof.Machine.execStartMarkReceived p s

end Sys2Proof.Machine
end

