-- ==== Sys2Proof/Machine/Time.lean ====
section
/-! DEFINITION. What happens when no command waits. The table has no row for the passing of time, so a step on an empty
queue either takes up the head of the request queue (R183) or lets one millisecond pass on quiet links: every
running timer counts, and the expiry commands that fall due join the queue (notes/assumptions/1.md and 4.md). -/

namespace Sys2Proof.Machine

open Sys2Proof

/-! ### The head request (R183) -/

/-- The command that stands for a request in the queue (section 11.4). A code with two forms is told apart by its
argument length; a length of neither form goes to the write form, which refuses it. -/
def ofRequest (r : Request) : Instr :=
  let q := r.requester
  let t := r.tag
  let a := r.args
  match r.code.toNat with
  | 0x01 => .identify q t a
  | 0x02 => .restart q t a
  | 0x10 => .routeWrite q t a
  | 0x11 => .routeRead q t a
  | 0x12 => if a.length = 0 then .routeDefaultRead q t a else .routeDefaultWrite q t a
  | 0x13 => if a.length = 2 then .portConfigRead q t a else .portConfigWrite q t a
  | 0x14 => .portStatus q t a
  | 0x15 => .portRestart q t a
  | 0x18 => if a.length = 1 then .nodeDelete q t a else .nodeWrite q t a
  | 0x19 => .nodeRead q t a
  | 0x1A => .nodeFlush q t a
  | 0x20 => .stationBind q t a
  | 0x21 => if a.length = 2 then .stationLimitsRead q t a else .stationLimitsWrite q t a
  | 0x22 => if a.length = 2 then .weighConfigRead q t a else .weighConfigWrite q t a
  | 0x23 => if a.length = 2 then .heatConfigRead q t a else .heatConfigWrite q t a
  | 0x24 => if a.length = 0 then .budgetSetRead q t a else .budgetSetWrite q t a
  | 0x28 => .lock q t a
  | 0x29 => .unlock q t a
  | 0x2A => .stepWrite q t a
  | 0x2B => .stepRead q t a
  | 0x2C => .recipeLength q t a
  | 0x2D => .recipeClear q t a
  | 0x30 => .start q t a
  | 0x31 => .pause q t a
  | 0x32 => .resume q t a
  | 0x33 => .stop q t a
  | 0x34 => .skip q t a
  | 0x35 => .confirm q t a
  | 0x36 => .adjust q t a
  | 0x37 => .clearFault q t a
  | 0x38 => .tare q t a
  | 0x39 => .zero q t a
  | 0x3A => .calibrate q t a
  | 0x40 => .statusRead q t a
  | 0x41 => .noticeEnable q t a
  | 0x42 => .noticeClear q t a
  | 0x43 => .noticeRead q t a
  | 0x44 => .countersRead q t a
  | 0x45 => if a.length = 1 then .reportConfigRead q t a else .reportConfigWrite q t a
  | _ => .unknownRequestCode r.code q t a

/-- The head request, when a reply buffer is free (R183). -/
def State.dueRequest (s : State) : Option Instr := if s.replyFree then s.requests.head?.map ofRequest else none

/-! ### One millisecond -/

/-- A running countdown after one millisecond. -/
def countMs (t : Option Nat) : Option Nat := t.map (· - 1)

/-- The step timer after one millisecond (R31): it counts in RUNNING, ACTIVE, up to the effective limit. -/
def elapseMs (r : RunContext) : RunContext :=
  if r.state = .running ∧ r.phase = some .active then
    if r.tenthMs + 1 < 100 then { r with tenthMs := r.tenthMs + 1 }
    else { r with tenthMs := 0, elapsed := satInc (r.effLimit.getD 0) r.elapsed }
  else r

/-- The warming time after one millisecond (R39): it counts seconds in WARMING, up to a nonzero limit or 14400. -/
def warmOneMs (r : RunContext) : RunContext :=
  if r.state = .warming then
    if r.warmMs + 1 < 1000 then { r with warmMs := r.warmMs + 1 }
    else { r with
      warmMs := 0
      warmingElapsed := satInc (if r.warmingLimit.getD 0 = 0 then Config.warmingMax else r.warmingLimit.getD 0)
        r.warmingElapsed }
  else r

/-- The phase deadline after one millisecond: it counts in RUNNING and is frozen in PAUSED (R28, R29, R43). -/
def deadlineMs (r : RunContext) : RunContext :=
  if r.state = .running then { r with deadline := countMs r.deadline } else r

/-- A station after one millisecond. -/
def stationMs (st : Station) : Station :=
  { st with
    run := deadlineMs (warmOneMs (elapseMs st.run))
    drive := { st.drive with
      speedHold := countMs st.drive.speedHold
      heatHold := countMs st.drive.heatHold
      spinDown := countMs st.drive.spinDown
      refreshTimer := st.drive.refreshTimer - 1 }
    weigh := { st.weigh with opDeadline := countMs st.weigh.opDeadline }
    reportTimer := countMs st.reportTimer }

/-- An entry 10 ms older (R138). -/
def olderEntry (o : Option NodeEntry) : Option NodeEntry :=
  o.map (fun e => { e with age := satInc Config.ageMax e.age })

/-- A port after one quiet millisecond: while ISOLATED and not receiving, the idle time gathers (R179). -/
def portMs (q : PortState) : PortState :=
  if q.health = .isolated ∧ q.activity = .idle then { q with idleBits := q.idleBits + Config.bitsPerMs } else q

/-- The part after one millisecond, before anything expires. -/
def passMs (s : State) : State :=
  { s with
    station0 := stationMs s.station0
    station1 := stationMs s.station1
    control := portMs s.control
    appliance := portMs s.appliance
    nodes := if s.ageMs + 1 < 10 then s.nodes else s.nodes.map olderEntry
    ageMs := if s.ageMs + 1 < 10 then s.ageMs + 1 else 0 }

/-! ### What falls due -/

/-- A command that falls due when a condition holds. -/
def dueIf (b : Bool) (c : Instr) : List Instr := if b then [c] else []

/-- An ALT step in ACTIVE stands at a whole multiple of its reversal interval whose reversal is not made yet (R31). -/
def Station.reversalDue (st : Station) (rec1 : StepRecord) : Bool :=
  st.inPhase .active && rec1.mode == .alt && 0 < rec1.reversal &&
  reversalTime (rec1.reversal * 10) st.run.elapsed (st.run.reversal.getD .fwd) == st.run.elapsed

/-- A step with a limit in ACTIVE stands at its effective limit (R32), whichever event brought it there. -/
def Station.stepDue (st : Station) (rec1 : StepRecord) : Bool :=
  st.inPhase .active && rec1.hasLimit && st.run.effLimit == some st.run.elapsed

/-- A WARMING station stands at its nonzero warming limit (R39). -/
def Station.warmingDue (st : Station) : Bool :=
  st.run.state == .warming && 0 < st.run.warmingElapsed && st.run.warmingLimit == some st.run.warmingElapsed

/-- The commands due for one station after a millisecond, a reversal before an expiry (R31, R32). -/
def dueStation (n : StationId) (rec1 : StepRecord) (st : Station) : List Instr :=
  dueIf (st.reversalDue rec1) (.reversal n) ++
  dueIf (st.stepDue rec1) (.stepTimerExpiry n) ++
  dueIf (st.inPhase .locking && st.run.deadline == some 0) (.lockingDeadlineExpiry n) ++
  dueIf (st.inPhase .basing && st.run.deadline == some 0) (.basingDeadlineExpiry n) ++
  dueIf st.warmingDue (.warmingLimitExpiry n) ++
  dueIf (st.weigh.opDeadline == some 0 && st.weigh.op == .taring) (.tareDeadlineExpiry n) ++
  dueIf (st.weigh.opDeadline == some 0 && st.weigh.op != .taring) (.zeroCalibrateDeadlineExpiry n) ++
  dueIf (st.drive.speedHold == some 0) (.speedHoldExpiry n) ++
  dueIf (st.drive.heatHold == some 0) (.heatHoldExpiry n) ++
  dueIf (st.drive.spinDown == some 0) (.spinDownExpiry n) ++
  dueIf (st.drive.refreshTimer == 0) (.refreshExpiry n) ++
  dueIf (st.reportTimer == some 0) (.reportTimerExpiry n)

/-- The command due for a node table entry once the ages have moved (R138, R139). -/
def dueEntry (limit i : Nat) (o : Option NodeEntry) : List Instr :=
  match o with
  | none => []
  | some e => dueIf (e.tooOld limit) (.agingRemoval i) ++ dueIf e.silenceDue (.nodeBecomesSilent i)

/-- The commands due for the node table. -/
def dueNodes (s : State) : List Instr :=
  if s.ageMs ≠ 0 then []
  else (List.range Config.nodeEntries).flatMap (fun i => dueEntry s.ageLimit i (s.entryAt i))

/-- The commands due for a port after a quiet millisecond: the join wait of 16 bit times is over (R177), or the measure
of recovery is met (R179). -/
def duePort (p : Port) (q : PortState) : List Instr :=
  dueIf (q.health == .joining) (.joinWaitEnd p) ++
  dueIf (q.health == .isolated && q.measureMet) (.portRecovery p)

/-- Every command that falls due in one millisecond, in the order of notes/assumptions/1.md. -/
def dueCommands (s : State) : List Instr :=
  let s1 := passMs s
  dueStation .zero (s1.curStep .zero) s1.station0 ++
  dueStation .one (s1.curStep .one) s1.station1 ++
  dueNodes s1 ++ duePort .control s1.control ++ duePort .appliance s1.appliance

/-- A step on an empty queue: nothing while held in reset (R194), else the head request, else one millisecond. -/
def tick (s : State) : State :=
  if s.inReset then s
  else match s.dueRequest with
    | some c => { s with pending := s.pending ++ [c] }
    | none => { passMs s with pending := s.pending ++ dueCommands s }

end Sys2Proof.Machine
end

