-- ==== Sys2Proof/Machine/Step.lean ====
section
/-! DEFINITION. The step: the command at the front of the queue is taken, and on an empty queue time passes. -/

namespace Sys2Proof.Machine

open Sys2Proof

/-- One step of the block: the front command acts on the state with the queue's rest. An empty queue lets one
millisecond pass or takes up a waiting request (DESIGN CHOICE, notes/assumptions/1.md and 4.md). -/
def step (s : State) : Host.Outcome State Fault Refusal :=
  match s.pending with
  | c :: rest => exec c { s with pending := rest }
  | [] => .next (tick s)

/-- The state with the command a table word spells at the front of its queue. The table gives no row any bits, so every
word leaves the state as it is. -/
def State.withFetchWord (s : State) (nbits w : Nat) : State :=
  match decodeTableWord nbits w with
  | some c => { s with pending := c :: s.pending }
  | none => s

end Sys2Proof.Machine
end

