-- ==== Sys2Proof/Safety.lean ====
section
/-! DEFINITION. What the statements about the HM362 are written in: when a request is at its turn and what answering it
means, the outline of the state that station work keeps, and the invariants of chapters 2 to 10. -/

namespace Sys2Proof.Machine

open Sys2Proof

/-! ### Requests at their turn (R182 to R184) -/

/-- The request a management command carries; an empty one for the events. -/
def commandRequest (c : Instr) : Request :=
  match c.shape with
  | some x => x.request
  | none => ⟨0, 0, 0, []⟩

/-- The command's request is at the head of the queue and may be processed: the part is not in reset and a reply buffer
is free, or the control port is ISOLATED and no reply takes one (R182, R183). -/
abbrev AtHead (c : Instr) (s : State) : Prop :=
  s.inReset = false ∧ s.replyFree = true ∧ s.requests.head? = some (commandRequest c)

/-- The command runs to a next state in which its rule has left `t`, the reply `a` has been originated to the requester
and the request has left the queue (R183). -/
abbrev Answers (c : Instr) (s : State) (a : Answer) (t : State) : Prop :=
  exec c s = .next (leaveQueue (sendReply (commandRequest c) a t))

/-- The argument lengths section 11.4 gives a request code: the write and the read form where there are two. -/
def allowedLengths (code : Byte) : List Nat :=
  match code.toNat with
  | 0x01 => [0]
  | 0x02 => [1]
  | 0x10 => [11]
  | 0x11 => [1]
  | 0x12 => [1, 0]
  | 0x13 => [4, 2]
  | 0x14 => [1]
  | 0x15 => [1]
  | 0x18 => [4, 1]
  | 0x19 => [1]
  | 0x1A => [0]
  | 0x20 => [6]
  | 0x21 => [4, 2]
  | 0x22 => [6, 2]
  | 0x23 => [3, 2]
  | 0x24 => [2, 0]
  | 0x28 => [1]
  | 0x29 => [1]
  | 0x2A => [14]
  | 0x2B => [2]
  | 0x2C => [2]
  | 0x2D => [1]
  | 0x30 => [2]
  | 0x31 => [1]
  | 0x32 => [1]
  | 0x33 => [1]
  | 0x34 => [1]
  | 0x35 => [2]
  | 0x36 => [8]
  | 0x37 => [1]
  | 0x38 => [1]
  | 0x39 => [1]
  | 0x3A => [4]
  | 0x40 => [2]
  | 0x41 => [2]
  | 0x42 => [2]
  | 0x43 => [0]
  | 0x44 => [4]
  | 0x45 => [3, 1]
  | _ => []

/-! ### Recipes (chapter 1) -/

/-- The ranges of Table 1-1 (R1). -/
def StepRecord.inRange (r : StepRecord) : Prop :=
  r.speed ≤ 12000 ∧ r.reversal ≤ 60 ∧ (r.heat = 0 ∨ 300 ≤ r.heat ∧ r.heat ≤ 2000) ∧ r.dose ≤ 65535 ∧
  r.duration ≤ 65535 ∧ r.loopCount ≤ 15 ∧ r.loopTarget ≤ 47

/-- Criterion `c` of R22 holds of slot `i`, with the reason codes of section 11.4: EMPTY 0, NO_END 1, TIME_ZERO 2,
WEIGHT_ZERO 3, TEMP_ZERO 4, HEAT_HIGH 5, ALT_ZERO 6, LOOP_TARGET 7, LOOP_NESTED 8. -/
def Station.offends (st : Station) (i c : Nat) : Prop :=
  match (st.steps[i]?).join with
  | none => c = 0
  | some r =>
    match c with
    | 1 => r.endTime = false ∧ r.endWeight = false ∧ r.endTemp = false ∧ r.endConfirm = false
    | 2 => r.endTime = true ∧ r.duration = 0
    | 3 => r.endWeight = true ∧ r.dose = 0
    | 4 => r.endTemp = true ∧ r.heat = 0
    | 5 => r.heat ≠ 0 ∧ ¬ r.heat + 50 < st.limits.overtemp
    | 6 => r.mode = .alt ∧ r.reversal = 0
    | 7 => 0 < r.loopCount ∧ i < r.loopTarget
    | 8 => 0 < r.loopCount ∧ ∃ j rj, r.loopTarget ≤ j ∧ j < i ∧ st.steps[j]? = some (some rj) ∧ 0 < rj.loopCount
    | _ => False

/-- Slot `i` is offending, with first reason `c` (R22). -/
def Station.firstReason (st : Station) (i c : Nat) : Prop := st.offends i c ∧ ∀ d, d < c → ¬ st.offends i d

/-- The checks 1 to 4 of START that come before the recipe's own (R21). -/
def State.startReady (s : State) (q : NodeId) (n : StationId) : Prop :=
  (s.st n).run.state = .idle ∧ (s.st n).weigh.op ≠ .zeroing ∧ (s.st n).weigh.op ≠ .calibrating ∧
  ((s.st n).lockHolder = none ∨ (s.st n).lockHolder = some q) ∧
  (∀ r, (s.st n).binding.get r ≠ none ∧ s.silent n r = false) ∧ s.appliance.health ≠ .isolated

/-- The number that a NOT_HOLDER or LOCKED refusal names: the holder, or 255 for a free lock (R8, R15, R21). -/
def holderNumber (h : Option NodeId) : Nat :=
  match h with
  | some k => k.toNat
  | none => 255

/-- The node a role value names; 255 is "none" (R17, section 11.4). -/
def roleValue (b : Byte) : Option NodeId := if b = 255 then none else some (b.setWidth 5)

/-- A role value fails the third check of STATION_BIND (R17): it is not "none", and it is no node number, has no STATIC
entry on the appliance port, stands under an earlier role of the request, or is bound in the other station. -/
def State.roleRejected (s : State) (n : StationId) (earlier : List Byte) (b : Byte) : Prop :=
  b ≠ 255 ∧
  (30 < b.toNat ∨
   (∀ e, s.nodeEntry (b.setWidth 5) = some e → ¬ (e.origin = .static ∧ e.port = .appliance)) ∨
   b ∈ earlier ∨
   ∃ r, (s.st (otherStation n)).binding.get r = some (b.setWidth 5))

/-! ### The outline of the state -/

/-- A station without its working contexts and counters: tables, length, lock, binding, limits, heat configuration and
the report interval and timer. -/
def Station.outline (st : Station) : Station :=
  { st with run := {}, drive := {}, weighCfg := {}, weigh := {}, heat := {}, counters := Vector.replicate 5 0 }

/-- A port without its queues, drop mode and counters. -/
def PortState.outline (q : PortState) : PortState :=
  { q with urgent := [], control := [], bulk := [], counters := Vector.replicate 17 0, dropMode := false }

/-- The state without what station work may change: the working contexts of both stations, the arbiter, the notice set,
and the queues, drop modes and counters of the ports. -/
def State.outline (s : State) : State :=
  { s with
    station0 := s.station0.outline, station1 := s.station1.outline, arbiter := {}, notices := {}
    control := s.control.outline, appliance := s.appliance.outline }

/-! ### Runs (chapter 2) -/

/-- The step report of a step that ends now with this outcome at this elapsed time (R56). -/
def Station.endReport (st : Station) (o : StepOutcome) (elapsed : Nat) : StepReport :=
  { step := st.run.step.getD 0
    outcome := o
    elapsed := elapsed
    net := st.weigh.net
    added := st.run.doseBase.map (fun b => st.weigh.net - b)
    bowl := st.heat.bowl
    flags := st.run.flags
    stale := st.weigh.stale }

/-- The elapsed time of a step that is skipped or faulted: 0 in LOCKING and BASING (R46, R53), and else its own (R56). That the
0 holds also in a LOCKING that a RESUME of an ACTIVE step entered is the model's choice (DESIGN CHOICE, notes/assumptions/36.md). -/
def Station.cutElapsed (st : Station) : Nat :=
  match st.run.phase with
  | some .locking => 0
  | some .basing => 0
  | some .active => st.run.elapsed
  | none => st.run.elapsed

/-- The run fields that R24, R38, R45 and R53 empty when a station enters IDLE, WARMING or FAULT; the fault fields and the
last step report are kept. -/
def RunContext.emptied (r : RunContext) (state : RunState) : RunContext :=
  { state := state
    faultCause := r.faultCause
    furtherFaults := r.furtherFaults
    more := r.more
    lastReport := r.lastReport }

/-- The pending unlock was set: it still waits, or the interlock let it go and LID_SET UNLOCK is the lid command, with the
commanded speed 0 (R128, R129). -/
def UnlockAsked (u : State) (n : StationId) : Prop :=
  (u.st n).drive.pendingUnlock = true ∨
  (u.st n).drive.lidCommand = some .unlock ∧ (u.st n).drive.commanded = 0

/-- The speed and heat of a station that asks for neither (R25, R93 to R95). -/
def AtRest (u : State) (n : StationId) : Prop :=
  (u.st n).drive.requested = 0 ∧ (u.st n).drive.commanded = 0 ∧ (u.st n).drive.clamped = false ∧
  (u.st n).heat.integral = 0 ∧ (u.st n).heat.demand = 0 ∧ (u.st n).heat.reached = false

/-- Only station `n` and what it shares moved: every table, binding, limit, lock, configuration item, port setting and
health, the weigh context of station `n` and the whole other station are as before. -/
def OnlyRuns (s u : State) (n : StationId) : Prop :=
  u.outline = s.outline ∧ u.st (otherStation n) = s.st (otherStation n) ∧
  (u.st n).weigh = (s.st n).weigh ∧ (u.st n).weighCfg = (s.st n).weighCfg

/-- Fault entry with a cause and a number of further standing causes, from a station whose last step report is `last` by
then; `bits` are the notice bits set before FAULT_n (R53). -/
def EnteredFault (u : State) (n : StationId) (c : FaultCause) (further : Nat) (last : Option StepReport)
    (bits : BitVec 16) : Prop :=
  (u.st n).run =
    { state := .fault
      faultCause := some c
      furtherFaults := min 255 further
      more := decide (0 < further)
      lastReport := last } ∧
  AtRest u n ∧ (u.st n).drive.manualSpeed = 0 ∧ (u.st n).drive.speedHold = none ∧ (u.st n).drive.manualHeat = 0 ∧
  (u.st n).drive.heatHold = none ∧ (u.st n).drive.manualLid = none ∧ UnlockAsked u n ∧
  u.notices.bits = bits ||| noticeMask (.fault n)

/-- Fault entry as an event raises it (R53): a RUNNING or PAUSED step ends FAULTED first (R36), with elapsed 0 in LOCKING and
BASING. -/
def FaultsFrom (s u : State) (n : StationId) (c : FaultCause) (further : Nat) : Prop :=
  (((s.st n).run.state = .running ∨ (s.st n).run.state = .paused) →
    EnteredFault u n c further (some ((s.st n).endReport .faulted (s.st n).cutElapsed))
      (s.notices.bits ||| noticeMask (.stepEnd n))) ∧
  ((s.st n).run.state ≠ .running → (s.st n).run.state ≠ .paused →
    EnteredFault u n c further (s.st n).run.lastReport s.notices.bits) ∧
  OnlyRuns s u n

/-- The phase a step is entered in (R27): LOCKING for a LOCK step without a locked lid, else BASING for a dose step, else
ACTIVE. -/
def entryPhase (r : StepRecord) (locked : Bool) : Phase :=
  if r.lock = true ∧ locked = false then .locking else if r.dose = 0 then .active else .basing

/-- Step `i` with this record has just been entered and runs (R27). -/
def EnteredStep (s u : State) (n : StationId) (i : Nat) (r : StepRecord) : Prop :=
  (u.st n).run.state = .running ∧ (u.st n).run.step = some i ∧
  (u.st n).run.phase = some (entryPhase r (s.lidLocked n)) ∧
  ((u.st n).run.phase = some .locking →
    (u.st n).run.phaseAfterLock = some (if r.dose = 0 then .active else .basing)) ∧
  ((u.st n).run.phase = some .basing → (u.st n).run.deadline = some 5000) ∧
  ((u.st n).run.phase = some .active → (u.st n).run.deadline = none) ∧
  (u.st n).run.elapsed = 0 ∧ (u.st n).run.extension = 0 ∧ (u.st n).run.effLimit = some (effectiveLimit r 0) ∧
  (u.st n).run.reversal = some .fwd ∧ (u.st n).run.doseBase = none ∧ (u.st n).run.speedOverride = none ∧
  (u.st n).run.tempOverride = none ∧ (u.st n).run.flags = {}

/-- What follows a step that ended with outcome `o` at this elapsed time, when the outcome goes on (R36 to R38): the step
report and STEP_END_n; then the next step with its loop counter, or the recipe end with RECIPE_END_n and IDLE or WARMING; or
FAULT, where a standing cause meets the next step or WARMING (R52). -/
def EndsStep (s u : State) (n : StationId) (o : StepOutcome) (elapsed : Nat) : Prop :=
  let rec1 := s.curStep n
  let i := (s.st n).run.step.getD 0
  let loop := (s.st n).run.loopCounter
  let rep := (s.st n).endReport o elapsed
  let next := if rec1.loopCount = 0 ∨ rec1.loopCount ≤ loop then i + 1 else rec1.loopTarget
  let loop' := if rec1.loopCount = 0 then loop else if loop < rec1.loopCount then loop + 1 else 0
  let rec2 := ((s.st n).steps[next]?).join.getD {}
  let bits := s.notices.bits ||| noticeMask (.stepEnd n)
  (next < (s.st n).recipeLength →
    (s.standing n (some rec2) (some rec2.heat) = [] →
      EnteredStep s u n next rec2 ∧ (u.st n).run.loopCounter = loop' ∧ (u.st n).run.lastReport = some rep) ∧
    (∀ c further, s.standing n (some rec2) (some rec2.heat) = c :: further →
      (u.st n).run.state = .fault ∧ (u.st n).run.faultCause = some c ∧
      (u.st n).run.furtherFaults = min 255 further.length)) ∧
  ((s.st n).recipeLength ≤ next →
    (rec1.keepWarm = false →
      (u.st n).run = { (s.st n).run.emptied .idle with lastReport := some rep } ∧ UnlockAsked u n ∧
      u.notices.bits = bits ||| noticeMask (.recipeEnd n)) ∧
    (rec1.keepWarm = true → s.standing n none (some (s.st n).limits.keepWarmTemp) = [] →
      (u.st n).run =
        { (s.st n).run.emptied .warming with
          lastReport := some rep, warmingLimit := some (s.st n).limits.keepWarmLimit } ∧
      UnlockAsked u n ∧ u.notices.bits = bits ||| noticeMask (.recipeEnd n)) ∧
    (rec1.keepWarm = true → ∀ c further, s.standing n none (some (s.st n).limits.keepWarmTemp) = c :: further →
      EnteredFault u n c further.length (some rep) (bits ||| noticeMask (.recipeEnd n)))) ∧
  OnlyRuns s u n

/-- The first cause of a FAULT still holds (R55). -/
def State.holds (s : State) (n : StationId) (c : FaultCause) : Prop :=
  match c with
  | .link => s.appliance.health = .isolated
  | .driveSilent => s.silent n .drive = true
  | .heaterSilent => s.silent n .heater = true
  | .weighSilent => s.silent n .weigh = true
  | .thermoSilent => s.silent n .thermo = true
  | .driveFault => ∃ r, (s.st n).drive.report = some r ∧ r.fault = true
  | .heaterFault => ∃ r, (s.st n).heat.report = some r ∧ r.fault = true
  | .thermoSensor => (s.st n).heat.sensorFault = some true
  | .overtemp => ∃ t, (s.st n).heat.bowl = some t ∧ (s.st n).limits.overtemp - 100 < t
  | .lidLock => False

/-! ### Weighing and heating (chapters 3 and 4) -/

/-- The weigh context with an operation just started or, for NONE, just ended: count and sums 0 (R74, R75, R79, R81). -/
def WeighContext.withOp (w : WeighContext) (op : WeighOp) (deadline : Option Nat) (mass : Option Int) : WeighContext :=
  { w with
    op := op, opDeadline := deadline, refMass := mass, accCount := 0
    sum0 := 0, sum1 := 0, sum2 := 0, sum3 := 0, sumS := 0 }

/-- The operation field of station `n` goes to `op` with this deadline and mass; an operation that was in progress ends with
outcome `o`, which becomes the last outcome of its kind alone and sets WEIGH_OP_n (R74). Nothing else moves but the NOTICE
that this may raise. -/
def OperationMoves (s u : State) (n : StationId) (op : WeighOp) (deadline : Option Nat) (mass : Option Int)
    (o : OpOutcome) : Prop :=
  (u.st n).weigh = { (s.st n).weigh.withOp op deadline mass with
    lastTare := if (s.st n).weigh.op = .taring then some o else (s.st n).weigh.lastTare
    lastZero := if (s.st n).weigh.op = .zeroing then some o else (s.st n).weigh.lastZero
    lastCal := if (s.st n).weigh.op = .calibrating then some o else (s.st n).weigh.lastCal } ∧
  u.notices.bits =
    (if (s.st n).weigh.op = .none then s.notices.bits else s.notices.bits ||| noticeMask (.weighOp n)) ∧
  u.outline = s.outline ∧ u.arbiter = s.arbiter ∧ (u.st n).run = (s.st n).run ∧ (u.st n).drive = (s.st n).drive ∧
  (u.st n).heat = (s.st n).heat ∧ (u.st n).weighCfg = (s.st n).weighCfg ∧
  u.st (otherStation n) = s.st (otherStation n)

/-- The weigh context after parts 1 to 6 of the filter update of an accepted sample (R60 to R68). -/
def Station.afterUpdate (st : Station) (x : WeighSample) : WeighContext :=
  let c := st.weighCfg
  let sum := (x.c0 - c.zero0) + (x.c1 - c.zero1) + (x.c2 - c.zero2) + (x.c3 - c.zero3)
  let gross := clampInt (-400000) 400000 (roundDiv (sum * c.gain) 65536)
  let ring := (st.weigh.ring ++ [gross]).drop (st.weigh.ring.length + 1 - 32)
  let window := if 0 < st.drive.commanded then c.stir else c.still
  let k := min window ring.length
  let filtered := roundDiv (ring.drop (ring.length - k)).sum k
  let last := ring.drop (ring.length - 8)
  { st.weigh with
    lastSeq := some x.seq
    stale := false
    ring := ring
    filtered := filtered
    settled := decide (8 ≤ ring.length) && last.all (fun a => last.all (fun b => a - b ≤ c.band))
    overload := decide (c.cap < filtered)
    net := clampInt (-c.cap) c.cap (filtered - st.weigh.tare) }

/-- The integral after the PI computation of a good sample with error `e` (R95, R96). -/
def nextIntegral (pmax ki : Nat) (e : Int) (grant demand integral : Nat) : Int :=
  if 0 < e ∧ grant < demand then clampInt 0 pmax integral
  else clampInt 0 pmax (integral + Int.tdiv (ki * e) 256)

/-! ### Frames and setpoints (chapters 5, 6 and 8) -/

/-- An unsent frame of kind `k` stands in its class queue with this destination and these contents (R158, R160). -/
def Unsent (u : State) (k : OwnKind) (dest : NodeId) (payload : List Byte) : Prop :=
  ∃ e ∈ (u.port k.port).queue k.cls, e.origin = .own k ∧ e.frame = ownFrame u.ownNode k dest payload

/-- The blade of station `n` is known to be still: commanded speed 0, and a last drive report of actual speed 0 or spin-down
elapsed (the first two conditions of R129). -/
def BladeStill (s : State) (n : StationId) : Prop :=
  (s.st n).drive.commanded = 0 ∧
  ((∃ r, (s.st n).drive.report = some r ∧ r.speed = 0) ∨ (s.st n).drive.spinDownElapsed = true)

/-- Entry into LOCKING acts on the last lid report (R28). Over a closed and unlocked lid whose node is heard, the lid command
becomes LOCK, LID_SET LOCK is unsent unless the port is ISOLATED, and 3000 ms start; over any other there is no deadline. -/
def ActsOnLid (s u : State) (n : StationId) : Prop :=
  (∀ k r, s.silent n .lid = false → (s.st n).binding.lid = some k → (s.st n).drive.lidReport = some r →
    r.closed = true → r.locked = false →
    (u.st n).run.deadline = some 3000 ∧ (u.st n).drive.lidCommand = some .lock ∧
    (u.st n).drive.pendingUnlock = false ∧ (s.appliance.health ≠ .isolated → Unsent u (.lidSet n) k [0])) ∧
  (s.silent n .lid = true ∨ (∀ r, (s.st n).drive.lidReport = some r → r.closed = false) →
    (u.st n).run.deadline = none)

/-- What R128 and R129 make of a pending unlock: a RUNNING or PAUSED station holds none, since START clears it and only an event
that leaves the run sets it, and one that still waits waits for a blade that is not known to be still, for a LID node, or for the
end of ISOLATED. -/
def UnlocksSound (s : State) : Prop :=
  ∀ n, (s.st n).drive.pendingUnlock = true →
    (s.st n).run.state ≠ .running ∧ (s.st n).run.state ≠ .paused ∧
    (¬ BladeStill s n ∨ (s.st n).binding.lid = none ∨ s.appliance.health = .isolated)

/-- The drive fields of station `n` agree with R115 to R117: the envelope with its inputs, the requested speed and direction
with the state and phase, the commanded speed with both, and the clamped flag with the comparison. -/
def DriveSound (s : State) : Prop :=
  ∀ n, (s.st n).drive.envelope = s.envelopeOf n ∧
    (s.st n).drive.requested = (s.requestOf n).1 ∧ (s.st n).drive.requestedDir = (s.requestOf n).2 ∧
    (s.st n).drive.commanded = min (s.st n).drive.requested (s.st n).drive.envelope ∧
    (s.st n).drive.commandedDir = (s.st n).drive.requestedDir ∧
    ((s.st n).drive.clamped = true ↔ (s.st n).drive.commanded < (s.st n).drive.requested)

/-- The arbiter's grants are the division of what its inputs leave (R109). -/
def ArbiterSound (s : State) : Prop :=
  s.arbiter.available = s.arbiter.budget - (s.arbiter.side0.draw + s.arbiter.side1.draw) ∧
  (s.arbiter.side0.grant, s.arbiter.side1.grant) =
    divideGrants s.arbiter.available s.arbiter.side0.counted s.arbiter.side1.counted

/-- The arbiter has recomputed (R108): the grants are the division, and the last value sent to a bound HEATER node is within the
grant step of the grant (R110). -/
def ArbiterFollows (s : State) : Prop :=
  ArbiterSound s ∧ ∀ n, (s.st n).binding.heater ≠ none →
    ∃ v, (s.side n).lastSent = some v ∧ (s.side n).grant < v + 10 ∧ v < (s.side n).grant + 10 ∧
      ((s.side n).grant = 0 ↔ v = 0)

/-! ### Nodes (chapters 1 and 7) -/

/-- The node table and what refers to it: one entry for each number, none for the part's own or for 31, no silence for a
LEARNED entry (R131, R139); every bound node STATIC on the appliance port and bound once (R17); every lock holder with an
entry (R13). -/
def NodesSound (s : State) : Prop :=
  (∀ i j e f, s.entryAt i = some e → s.entryAt j = some f → e.number = f.number → i = j) ∧
  (∀ i e, s.entryAt i = some e →
    e.number ≠ s.ownNode ∧ e.number ≠ 31 ∧ (e.origin = .learned → e.limit = 0 ∧ e.silent = false)) ∧
  (∀ n r k, (s.st n).binding.get r = some k →
    ∃ e, s.nodeEntry k = some e ∧ e.origin = .static ∧ e.port = .appliance) ∧
  (∀ n m r q k, (s.st n).binding.get r = some k → (s.st m).binding.get q = some k → n = m ∧ r = q) ∧
  (∀ n k, (s.st n).lockHolder = some k → s.nodeEntry k ≠ none)

/-- Index `i` is the free entry of lowest index (R131). -/
def State.firstFree (s : State) (i : Nat) : Prop :=
  i < 16 ∧ s.entryAt i = none ∧ ∀ j, j < i → s.entryAt j ≠ none

/-- The learn limit of a port leaves room (R135). -/
def State.room (s : State) (p : Port) : Prop :=
  (s.port p).cfg.learnLimit = 0 ∨ s.learnedCount p < (s.port p).cfg.learnLimit

/-- A lock that node `k` holds is free afterwards (R16). -/
def freeLock (k : NodeId) (st : Station) : Station :=
  if st.lockHolder = some k then { st with lockHolder := none } else st

/-- The entry NODE_WRITE leaves for a number that had one (the table of R142). -/
def NodeEntry.rewritten (e : NodeEntry) (p : Port) (limit : Nat) : NodeEntry :=
  { number := e.number
    port := p
    origin := .static
    age := if e.port = p then e.age else 0
    limit := limit
    silent := if e.port = p ∧ e.origin = .static then e.silent else false }

/-- An entry is silent after NODE_WRITE: its limit is nonzero and its age has reached it (R139, R142). -/
def NodeEntry.due (e : NodeEntry) : Prop := e.silent = false ∧ e.limit ≠ 0 ∧ e.limit / 10 ≤ e.age

/-! ### Ports (chapters 8 and 9) -/

/-- Fault confinement (R174 to R178): the counts within their bounds, the health state with the counts, nothing sent by a
port that is joining or isolated, and no frame decoded by one that is joining. -/
def PortsSound (s : State) : Prop :=
  ∀ p, (s.port p).rx ≤ 127 ∧ (s.port p).tx ≤ 255 ∧
    ((s.port p).health = .isolated ↔ 200 < (s.port p).tx) ∧
    ((s.port p).health = .joining → (s.port p).tx = 0 ∧ (s.port p).rx = 0 ∧ (s.port p).activity = .idle) ∧
    ((s.port p).health = .active → (s.port p).tx < 96 ∧ (s.port p).rx < 96) ∧
    ((s.port p).health = .passive → 96 ≤ (s.port p).tx ∨ 96 ≤ (s.port p).rx) ∧
    ((s.port p).health = .joining ∨ (s.port p).health = .isolated → (s.port p).engine = [])

/-- The buffers and queues (R155, R158 to R162, R165): at most 48 transit buffers held, every frame in the queue of its class,
the part's own frames on the port and in the class of their kind, at most one unsent frame of each coalesced kind, at most
three replies and four step reports, and nothing held by an ISOLATED port. -/
def QueuesSound (s : State) : Prop :=
  s.held .control + s.held .appliance ≤ 48 ∧
  (∀ p, (s.port p).health = .isolated → (s.port p).entries = []) ∧
  (∀ p c e, e ∈ (s.port p).queue c → e.cls = c) ∧
  (∀ p e k, e ∈ (s.port p).entries → e.origin = .own k → k.port = p ∧ k.cls = e.cls) ∧
  (∀ k, k.coalesced = true → ((s.port k.port).queue k.cls).countP (Queued.isKind k) ≤ 1) ∧
  s.repliesHeld ≤ 3 ∧ s.stepReportsHeld ≤ 4

/-- A capture in progress will leave its item in range: before the sixteenth sample of a zero capture each cell sum is one of so
many 24-bit readings (R80), and a calibration holds a mass of at least 100 dg (R81, R82). -/
def WeighContext.captureSound (w : WeighContext) : Prop :=
  (w.op = .zeroing → w.accCount < 16 ∧
    ∀ x ∈ [w.sum0, w.sum1, w.sum2, w.sum3], -8388608 * (w.accCount : Int) ≤ x ∧ x ≤ 8388607 * (w.accCount : Int)) ∧
  (w.op = .calibrating → ∃ m, w.refMass = some m ∧ 100 ≤ m)

/-- The station limits, the weigh and heat configurations, the budget, the age limit, the report intervals, the port settings and
the silence limits in their ranges (R19, R58, R88, R105, R137, R138, R142, R157, R190), with the captures that write the gain and
the zero offsets (R80, R82), and no port above its learn limit (R135). -/
def SettingsSound (s : State) : Prop :=
  500 ≤ s.arbiter.budget ∧ s.arbiter.budget ≤ 3600 ∧ 1 ≤ s.ageLimit ∧ s.ageLimit ≤ 600 ∧
  (∀ n i v, limitValue (s.st n).limits i = some v → limitInRange i v = true) ∧
  (∀ n i v, heatValue (s.st n).heatCfg i = some v → heatInRange i v = true) ∧
  (∀ n i v, weighValue (s.st n).weighCfg i = some v → weighInRange i v = true) ∧
  (∀ n, (s.st n).weigh.captureSound) ∧
  (∀ n, (s.st n).reportInterval = 0 ∨ 100 ≤ (s.st n).reportInterval ∧ (s.st n).reportInterval ≤ 2000) ∧
  (∀ p, 1 ≤ (s.port p).cfg.low ∧ (s.port p).cfg.low < (s.port p).cfg.high ∧ (s.port p).cfg.high ≤ 40 ∧
    1 ≤ (s.port p).cfg.wc ∧ (s.port p).cfg.wc ≤ 8 ∧ 1 ≤ (s.port p).cfg.wb ∧ (s.port p).cfg.wb ≤ 8 ∧
    (s.port p).cfg.learnLimit ≤ 16 ∧
    ((s.port p).cfg.learnLimit ≠ 0 → s.learnedCount p ≤ (s.port p).cfg.learnLimit)) ∧
  (∀ i e, s.entryAt i = some e → e.limit = 0 ∨ 20 ≤ e.limit ∧ e.limit ≤ 2000 ∧ e.limit % 10 = 0)

/-! ### Runs and weights -/

/-- Which run fields are present in which state (R24): in IDLE, WARMING and FAULT no step field, no phase and no time; RUNNING
with a phase, PAUSED with a saved phase and a reason; the phase after lock exactly in LOCKING; a deadline in BASING and none in
ACTIVE. -/
def RunContext.sound (r : RunContext) : Prop :=
  (r.state ≠ .running → r.state ≠ .paused →
    r.phase = none ∧ r.savedPhase = none ∧ r.phaseAfterLock = none ∧ r.pauseReason = none ∧ r.step = none ∧
    r.loopCounter = 0 ∧ r.elapsed = 0 ∧ r.effLimit = none ∧ r.extension = 0 ∧ r.reversal = none ∧
    r.doseBase = none ∧ r.speedOverride = none ∧ r.tempOverride = none ∧ r.deadline = none ∧ r.flags = {}) ∧
  (r.state = .running ∨ r.state = .paused →
    r.step ≠ none ∧ r.effLimit ≠ none ∧ r.reversal ≠ none) ∧
  (r.state ≠ .warming → r.warmingElapsed = 0) ∧ (r.warmingLimit ≠ none ↔ r.state = .warming) ∧
  (r.state = .fault → r.faultCause ≠ none) ∧
  (r.state = .running → r.phase ≠ none ∧ r.savedPhase = none ∧ r.pauseReason = none) ∧
  (r.state = .paused → r.phase = none ∧ r.savedPhase ≠ none ∧ r.pauseReason ≠ none) ∧
  ((r.phase = some .locking ∨ r.savedPhase = some .locking) ↔ r.phaseAfterLock ≠ none) ∧
  r.phaseAfterLock ≠ some .locking ∧
  (r.phase = some .basing → r.deadline ≠ none) ∧
  (r.phase = some .active ∨ r.savedPhase = some .active → r.deadline = none)

/-- The run contexts of both stations hold what their states call for. -/
def RunsSound (s : State) : Prop := ∀ n, (s.st n).run.sound

/-- The weigh contexts (R58, R63, R64, R68): the ring of at most 32 weights within the gross bounds, and the net weight as F
minus the tare, clamped to a capacity in its range; the tare is within it too. -/
def WeightsSound (s : State) : Prop :=
  ∀ n, 10000 ≤ (s.st n).weighCfg.cap ∧ (s.st n).weighCfg.cap ≤ 200000 ∧
    (s.st n).weigh.ring.length ≤ 32 ∧ (∀ x ∈ (s.st n).weigh.ring, -400000 ≤ x ∧ x ≤ 400000) ∧
    -(s.st n).weighCfg.cap ≤ (s.st n).weigh.tare ∧ (s.st n).weigh.tare ≤ (s.st n).weighCfg.cap ∧
    (s.st n).weigh.net =
      clampInt (-(s.st n).weighCfg.cap) (s.st n).weighCfg.cap ((s.st n).weigh.filtered - (s.st n).weigh.tare)

end Sys2Proof.Machine
end

