-- ==== Sys2Proof/Certificates/Slice0/Obligations.lean ====
section
/-! DEFINITION. The statements for the provers, chapter by chapter of the spec. Each names the rules it follows; OBLIGATIONS.json
gives their tiers and citations. -/

open Sys2Proof Sys2Proof.Machine

/-! ### Recipe tables (chapter 1) -/

/-- LOCK is a set-and-test (R14), and UNLOCK frees the lock of its holder alone (R15). -/
def Obligations.LockAndUnlock : Prop :=
  ∀ (s : State) (q : NodeId) (tag b : Byte),
    (AtHead (.lock q tag [b]) s →
      (stationOf b = none → Answers (.lock q tag [b]) s (refuse .badValue 255) s) ∧
      ∀ n, stationOf b = some n →
        (s.nodeIndex q = none → Answers (.lock q tag [b]) s (refuse .notKnown 0) s) ∧
        (s.nodeIndex q ≠ none →
          ((s.st n).lockHolder = none →
            Answers (.lock q tag [b]) s ⟨.granted, q.toNat, []⟩
              (s.modSt n (fun st => { st with lockHolder := some q }))) ∧
          ((s.st n).lockHolder = some q → Answers (.lock q tag [b]) s ⟨.granted, q.toNat, []⟩ s) ∧
          (∀ h, (s.st n).lockHolder = some h → h ≠ q →
            Answers (.lock q tag [b]) s ⟨.held, h.toNat, []⟩ s))) ∧
    (AtHead (.unlock q tag [b]) s →
      (stationOf b = none → Answers (.unlock q tag [b]) s (refuse .badValue 255) s) ∧
      ∀ n, stationOf b = some n →
        ((s.st n).lockHolder = some q →
          Answers (.unlock q tag [b]) s (done []) (s.modSt n (fun st => { st with lockHolder := none }))) ∧
        ((s.st n).lockHolder ≠ some q →
          Answers (.unlock q tag [b]) s (refuse .notHolder (holderNumber (s.st n).lockHolder)) s))

/-- The editing requests check station, IDLE and lock in this order (R8), and an accepted one stores a record (R9), sets
the length (R10) or empties the table (R11) and changes nothing else; STEP_READ returns a slot as stored, in every station state
and to any node, and changes nothing (R12). -/
def Obligations.EditingRequests : Prop :=
  (∀ (s : State) (q : NodeId) (tag b i len : Byte) (record : List Byte) (c : Instr), record.length = 12 →
     c ∈ [Instr.stepWrite q tag (b :: i :: record), .recipeLength q tag [b, len], .recipeClear q tag [b]] →
     AtHead c s →
     (stationOf b = none → Answers c s (refuse .badValue 255) s) ∧
     ∀ n, stationOf b = some n →
       ((s.st n).run.state ≠ .idle → Answers c s (refuse .wrongState (stateCode (s.st n).run.state)) s) ∧
       ((s.st n).run.state = .idle → (s.st n).lockHolder ≠ some q →
         Answers c s (refuse .notHolder (holderNumber (s.st n).lockHolder)) s) ∧
       ((s.st n).run.state = .idle → (s.st n).lockHolder = some q →
         (c = .stepWrite q tag (b :: i :: record) →
           (47 < i.toNat → Answers c s (refuse .badValue 0) s) ∧
           (i.toNat ≤ 47 → ∀ f, decodeStep record = .error f → Answers c s (refuse .badValue f) s) ∧
           (i.toNat ≤ 47 → ∀ r, decodeStep record = .ok r →
             Answers c s (done []) (s.modSt n (fun st => { st with steps := st.steps.setIfInBounds i.toNat (some r) })))) ∧
         (c = .recipeLength q tag [b, len] →
           (48 < len.toNat → Answers c s (refuse .badValue 0) s) ∧
           (len.toNat ≤ 48 →
             Answers c s (done []) (s.modSt n (fun st => { st with recipeLength := len.toNat })))) ∧
         (c = .recipeClear q tag [b] →
           Answers c s (done [])
             (s.modSt n (fun st => { st with steps := Vector.replicate 48 none, recipeLength := 0 }))))) ∧
  (∀ (s : State) (q : NodeId) (tag b i : Byte), AtHead (.stepRead q tag [b, i]) s →
     (stationOf b = none → Answers (.stepRead q tag [b, i]) s (refuse .badValue 255) s) ∧
     ∀ n, stationOf b = some n →
       (47 < i.toNat → Answers (.stepRead q tag [b, i]) s (refuse .badValue 0) s) ∧
       (∀ h : i.toNat < 48,
         ((s.st n).steps[i.toNat] = none → Answers (.stepRead q tag [b, i]) s (done []) s) ∧
         (∀ r, (s.st n).steps[i.toNat] = some r →
           Answers (.stepRead q tag [b, i]) s ⟨.done, 1, StepRecord.encode r⟩ s)))

/-- A record whose fields are in range is read back from its twelve bytes, and twelve bytes that are accepted hold a record
in range and are the bytes it is stored as; twelve bytes that are refused name the first field out of range, in the order of
Table 1-1 (R1, R198, section 11.3). -/
def Obligations.StepRecordRoundTrip : Prop :=
  (∀ r : StepRecord, r.inRange → decodeStep (StepRecord.encode r) = .ok r) ∧
  (∀ (bytes : List Byte) (r : StepRecord), decodeStep bytes = .ok r → r.inRange ∧ StepRecord.encode r = bytes) ∧
  ∀ (b0 b1 b2 b3 b4 b5 b6 b7 b8 b9 b10 b11 : Byte) (refused : Nat → Prop),
    (∀ f, refused f ↔ decodeStep [b0, b1, b2, b3, b4, b5, b6, b7, b8, b9, b10, b11] = .error f) →
    (12000 < u16 b0 b1 → refused 1) ∧
    (u16 b0 b1 ≤ 12000 →
      (b2.toNat % 4 = 3 → refused 2) ∧
      (b2.toNat % 4 < 3 →
        (15 < b2.toNat → refused 3) ∧
        (b2.toNat ≤ 15 →
          (60 < b3.toNat → refused 4) ∧
          (b3.toNat ≤ 60 →
            (0 < u16 b4 b5 → u16 b4 b5 < 300 ∨ 2000 < u16 b4 b5 → refused 5) ∧
            (u16 b4 b5 = 0 ∨ 300 ≤ u16 b4 b5 ∧ u16 b4 b5 ≤ 2000 →
              (47 < b11.toNat → refused 10) ∧ (b11.toNat ≤ 47 → ∀ f, ¬ refused f))))))

/-- START's checks in their order: the first that fails gives the reply, and a refused START changes nothing (R21, R22). -/
def Obligations.StartRefusals : Prop :=
  ∀ (s : State) (q : NodeId) (tag b f : Byte), AtHead (.start q tag [b, f]) s →
    (stationOf b = none → Answers (.start q tag [b, f]) s (refuse .badValue 255) s) ∧
    ∀ n, stationOf b = some n →
      ((s.st n).run.state ≠ .idle →
        Answers (.start q tag [b, f]) s (refuse .wrongState (stateCode (s.st n).run.state)) s) ∧
      ((s.st n).run.state = .idle → (s.st n).weigh.op = .zeroing →
        Answers (.start q tag [b, f]) s (refuse .wrongState 5) s) ∧
      ((s.st n).run.state = .idle → (s.st n).weigh.op = .calibrating →
        Answers (.start q tag [b, f]) s (refuse .wrongState 6) s) ∧
      ((s.st n).run.state = .idle → (s.st n).weigh.op ≠ .zeroing → (s.st n).weigh.op ≠ .calibrating →
        (∀ k, (s.st n).lockHolder = some k → k ≠ q →
          Answers (.start q tag [b, f]) s (refuse .locked k.toNat) s) ∧
        ((s.st n).lockHolder = none ∨ (s.st n).lockHolder = some q →
          (∀ r, (s.st n).binding.get r = none →
            (∀ r', roleNo r' < roleNo r → (s.st n).binding.get r' ≠ none) →
            Answers (.start q tag [b, f]) s (refuse .noBinding (roleNo r)) s) ∧
          ((∀ r, (s.st n).binding.get r ≠ none) →
            (∀ r, s.silent n r = true → (∀ r', roleNo r' < roleNo r → s.silent n r' = false) →
              Answers (.start q tag [b, f]) s (refuse .notReady (roleNo r)) s) ∧
            ((∀ r, s.silent n r = false) → s.appliance.health = .isolated →
              Answers (.start q tag [b, f]) s (refuse .notReady 5) s)))) ∧
      (s.startReady q n →
        ((s.st n).recipeLength ≤ f.toNat → Answers (.start q tag [b, f]) s (refuse .badValue 0) s) ∧
        (f.toNat < (s.st n).recipeLength →
          ∀ i c, i < (s.st n).recipeLength → (s.st n).firstReason i c →
            (∀ j, j < i → ∀ d, ¬ (s.st n).offends j d) →
            Answers (.start q tag [b, f]) s ⟨.badRecipe, i, [byteOf c]⟩ s))

/-- A START that passes every check enters the first step with loop counter 0, no manual demand and no pending unlock, in
the phase its lid and its dose call for, with LOCK sent to a lid that is closed and not locked (R28); tables, bindings, limits, locks, nodes and routes, the weigh context and the other
station stay (R21, R23, R27). -/
def Obligations.StartEntersFirstStep : Prop :=
  ∀ (s : State) (q : NodeId) (tag b f : Byte) (n : StationId) (rec1 : StepRecord),
    AtHead (.start q tag [b, f]) s → stationOf b = some n → s.startReady q n →
    f.toNat < (s.st n).recipeLength → (∀ i, i < (s.st n).recipeLength → ∀ d, ¬ (s.st n).offends i d) →
    (s.st n).steps[f.toNat]? = some (some rec1) →
    ∃ u, Answers (.start q tag [b, f]) s (done []) u ∧
      (u.st n).run.state = .running ∧ (u.st n).run.step = some f.toNat ∧ (u.st n).run.loopCounter = 0 ∧
      (u.st n).run.elapsed = 0 ∧ (u.st n).run.extension = 0 ∧ (u.st n).run.speedOverride = none ∧
      (u.st n).run.tempOverride = none ∧ (u.st n).run.doseBase = none ∧ (u.st n).run.flags = {} ∧
      (u.st n).run.reversal = some .fwd ∧ (u.st n).run.effLimit = some (effectiveLimit rec1 0) ∧
      (u.st n).run.lastReport = (s.st n).run.lastReport ∧
      (rec1.lock = true → s.lidLocked n = false →
        (u.st n).run.phase = some .locking ∧
        (u.st n).run.phaseAfterLock = some (if rec1.dose = 0 then .active else .basing) ∧ ActsOnLid s u n) ∧
      (rec1.lock = false ∨ s.lidLocked n = true →
        (rec1.dose ≠ 0 → (u.st n).run.phase = some .basing ∧ (u.st n).run.deadline = some 5000) ∧
        (rec1.dose = 0 → (u.st n).run.phase = some .active ∧ (u.st n).run.deadline = none)) ∧
      (u.st n).drive.manualSpeed = 0 ∧ (u.st n).drive.speedHold = none ∧ (u.st n).drive.manualHeat = 0 ∧
      (u.st n).drive.heatHold = none ∧ (u.st n).drive.manualLid = none ∧ (u.st n).drive.pendingUnlock = false ∧
      (u.st n).weigh = (s.st n).weigh ∧ u.st (otherStation n) = s.st (otherStation n) ∧ u.outline = s.outline

/-- STATION_BIND: its checks in their order (R17). An accepted one sets the five roles together; a changed role forgets what its
old node told and discards its unsent setpoint, an unchanged role keeps its state, and the other station, the tables, the limits and the locks stay (R17, R18).
The order of its parts is the model's reading (DEDUCED, notes/assumptions/25.md). -/
def Obligations.StationBindSetsRoles : Prop :=
  (∀ (s : State) (q : NodeId) (tag b d h w t l : Byte) (c : Instr), c = .stationBind q tag [b, d, h, w, t, l] →
     AtHead c s →
     (stationOf b = none → Answers c s (refuse .badValue 255) s) ∧
     ∀ n, stationOf b = some n →
       ((s.st n).run.state ≠ .idle → Answers c s (refuse .wrongState (stateCode (s.st n).run.state)) s) ∧
       ((s.st n).run.state = .idle →
         (∀ (i : Nat) (v : Byte), [d, h, w, t, l][i]? = some v → s.roleRejected n ([d, h, w, t, l].take i) v →
           (∀ (j : Nat) (u : Byte), j < i → [d, h, w, t, l][j]? = some u →
             ¬ s.roleRejected n ([d, h, w, t, l].take j) u) →
           Answers c s (refuse .badValue i) s) ∧
         ((∀ (i : Nat) (v : Byte), [d, h, w, t, l][i]? = some v →
             ¬ s.roleRejected n ([d, h, w, t, l].take i) v) →
           roleValue w ≠ (s.st n).binding.weigh → (s.st n).weigh.op ≠ .none → Answers c s (refuse .busy 0) s))) ∧
  (∀ (s : State) (q : NodeId) (tag b d h w t l : Byte) (n : StationId),
     AtHead (.stationBind q tag [b, d, h, w, t, l]) s → stationOf b = some n → (s.st n).run.state = .idle →
     (∀ (i : Nat) (v : Byte), [d, h, w, t, l][i]? = some v → ¬ s.roleRejected n ([d, h, w, t, l].take i) v) →
     (roleValue w = (s.st n).binding.weigh ∨ (s.st n).weigh.op = .none) →
     ∃ u, Answers (.stationBind q tag [b, d, h, w, t, l]) s (done []) u ∧
       (u.st n).binding = ⟨roleValue d, roleValue h, roleValue w, roleValue t, roleValue l⟩ ∧
       (roleValue d ≠ (s.st n).binding.drive →
         (u.st n).drive.manualSpeed = 0 ∧ (u.st n).drive.speedHold = none ∧ (u.st n).drive.report = none ∧
         (u.st n).drive.spinDownElapsed = false ∧ (u.side n).draw = 0 ∧
         (∀ x ∈ u.appliance.urgent, x.origin = .own (.speedSet n) → roleValue d = some x.frame.dest) ∧
         (∀ k, roleValue d = some k → s.appliance.health ≠ .isolated → Unsent u (.speedSet n) k
           (putU16 (u.st n).drive.commanded ++ [byteOf (dirCode (u.st n).drive.commandedDir)]))) ∧
       (roleValue d = (s.st n).binding.drive →
         (u.st n).drive.manualSpeed = (s.st n).drive.manualSpeed ∧
         (u.st n).drive.speedHold = (s.st n).drive.speedHold ∧ (u.st n).drive.report = (s.st n).drive.report ∧
         (u.side n).draw = (s.side n).draw) ∧
       (roleValue h ≠ (s.st n).binding.heater →
         (u.st n).drive.manualHeat = 0 ∧ (u.st n).drive.heatHold = none ∧ (u.st n).heat.report = none ∧
         ((u.side n).lastSent = none ∨ (u.side n).lastSent = some (u.side n).grant) ∧
         (∀ x ∈ u.appliance.urgent, x.origin = .own (.heatSet n) → roleValue h = some x.frame.dest)) ∧
       (roleValue h = (s.st n).binding.heater →
         (u.st n).drive.manualHeat = (s.st n).drive.manualHeat ∧
         (u.st n).drive.heatHold = (s.st n).drive.heatHold ∧ (u.st n).heat.report = (s.st n).heat.report) ∧
       (roleValue w ≠ (s.st n).binding.weigh →
         (u.st n).weigh = { (s.st n).weigh with ring := [], lastSeq := none, settled := false, overload := false }) ∧
       (roleValue w = (s.st n).binding.weigh → (u.st n).weigh = (s.st n).weigh) ∧
       (roleValue t ≠ (s.st n).binding.thermo → (u.st n).heat.bowl = none ∧ (u.st n).heat.sensorFault = none) ∧
       (roleValue t = (s.st n).binding.thermo →
         (u.st n).heat.bowl = (s.st n).heat.bowl ∧ (u.st n).heat.sensorFault = (s.st n).heat.sensorFault) ∧
       (roleValue l ≠ (s.st n).binding.lid → (u.st n).drive.lidReport = none ∧
         (∀ x ∈ u.appliance.urgent, x.origin = .own (.lidSet n) →
           roleValue l = some x.frame.dest ∧ (u.st n).drive.lidCommand = some .unlock) ∧
         ((u.st n).drive.lidCommand = none ∨
           (u.st n).drive.lidCommand = some .unlock ∧ (s.st n).drive.pendingUnlock = true ∧ BladeStill u n)) ∧
       (roleValue l = (s.st n).binding.lid → (u.st n).drive.lidReport = (s.st n).drive.lidReport) ∧
       (u.st n).run = (s.st n).run ∧ (u.st n).weighCfg = (s.st n).weighCfg ∧
       u.st (otherStation n) = s.st (otherStation n) ∧
       u.outline = (s.modSt n (fun st => { st with
         binding := ⟨roleValue d, roleValue h, roleValue w, roleValue t, roleValue l⟩ })).outline)

/-- STATION_LIMITS: the checks of its write form, the value an accepted write leaves with what R20 makes it act on at once, and the
read form (R19, R20): the speed limits recompute the envelope and the speed, count a clamp and send the SPEED_SET of a changed
speed; PMAX clamps the manual heat, and the arbiter recomputes (R99, R108, R110). -/
def Obligations.StationLimitsWriteAndRead : Prop :=
  (∀ (l : Limits) (j : Nat), limitValue l j = [l.maxSpeed, l.hotTemp, l.hotSpeed, l.openSpeed, l.pmax, l.overtemp,
    l.keepWarmTemp, l.keepWarmLimit, l.refresh, l.manualHold][j]?) ∧
  (∀ j v, limitInRange j v = true ↔
    (∃ x y, [(0, 12000), (300, 1500), (0, 12000), (0, 300), (0, 2000), (1000, 2400), (300, 900), (60, 14400),
      (50, 500), (500, 10000)][j]? = some (x, y) ∧ x ≤ v ∧ v ≤ y) ∨ j = 7 ∧ v = 0) ∧
  ∀ (s : State) (q : NodeId) (tag b i lo hi : Byte),
    (AtHead (.stationLimitsWrite q tag [b, i, lo, hi]) s →
      (stationOf b = none → Answers (.stationLimitsWrite q tag [b, i, lo, hi]) s (refuse .badValue 255) s) ∧
      ∀ n, stationOf b = some n →
        ((s.st n).run.state ≠ .idle →
          Answers (.stationLimitsWrite q tag [b, i, lo, hi]) s
            (refuse .wrongState (stateCode (s.st n).run.state)) s) ∧
        ((s.st n).run.state = .idle →
          (9 < i.toNat → Answers (.stationLimitsWrite q tag [b, i, lo, hi]) s (refuse .badValue 0) s) ∧
          (i.toNat ≤ 9 → limitInRange i.toNat (u16 lo hi) = false →
            Answers (.stationLimitsWrite q tag [b, i, lo, hi]) s (refuse .badValue 1) s) ∧
          (limitInRange i.toNat (u16 lo hi) = true →
            ∃ u, Answers (.stationLimitsWrite q tag [b, i, lo, hi]) s (done (putU16 (u16 lo hi))) u ∧
              limitValue (u.st n).limits i.toNat = some (u16 lo hi) ∧
              (∀ j, j ≠ i.toNat → limitValue (u.st n).limits j = limitValue (s.st n).limits j) ∧
              (i.toNat ≤ 3 → (u.st n).drive.envelope = u.envelopeOf n ∧
                (u.st n).drive.manualSpeed = (s.st n).drive.manualSpeed ∧
                (u.st n).drive.requested = (s.st n).drive.manualSpeed ∧
                (u.st n).drive.commanded = min (s.st n).drive.manualSpeed (u.st n).drive.envelope ∧
                (u.st n).counters[0] =
                  (if (u.st n).drive.commanded < (s.st n).drive.manualSpeed ∧
                      ((u.st n).drive.commanded < (s.st n).drive.commanded ∨
                        (s.st n).drive.requested ≠ (s.st n).drive.manualSpeed) then
                    satInc Config.counterMax (s.st n).counters[0] else (s.st n).counters[0]) ∧
                (∀ k, (s.st n).binding.drive = some k → s.appliance.health ≠ .isolated →
                  (u.st n).drive.commanded ≠ (s.st n).drive.commanded →
                  Unsent u (.speedSet n) k
                    (putU16 (u.st n).drive.commanded ++ [byteOf (dirCode (u.st n).drive.commandedDir)]))) ∧
              (i.toNat = 4 → (u.st n).drive.manualHeat = min (s.st n).drive.manualHeat (u16 lo hi) ∧
                (u.st n).heat.demand = u.idleDemand n ∧ ArbiterFollows u) ∧
              (5 ≤ i.toNat → u = s.modSt n (fun st => { st with limits := setLimit st.limits i.toNat (u16 lo hi) })) ∧
              (u.st n).run = (s.st n).run ∧ (u.st n).weigh = (s.st n).weigh ∧
              u.st (otherStation n) = s.st (otherStation n) ∧
              u.outline = (s.modSt n (fun st =>
                { st with limits := setLimit st.limits i.toNat (u16 lo hi) })).outline))) ∧
    (AtHead (.stationLimitsRead q tag [b, i]) s →
      (stationOf b = none → Answers (.stationLimitsRead q tag [b, i]) s (refuse .badValue 255) s) ∧
      ∀ n, stationOf b = some n →
        (limitValue (s.st n).limits i.toNat = none →
          Answers (.stationLimitsRead q tag [b, i]) s (refuse .badValue 0) s) ∧
        (∀ v, limitValue (s.st n).limits i.toNat = some v →
          Answers (.stationLimitsRead q tag [b, i]) s (done (putU16 v)) s))

/-- WEIGH_CONFIG: its checks, what an accepted write leaves, with CAP clamping the tare and the net weight and a new gain or
offset flushing the ring, and its read form (R58, R59). -/
def Obligations.WeighConfigWriteAndRead : Prop :=
  (∀ (g : WeighConfig) (j : Nat), weighValue g j =
    [g.cap, g.still, g.stir, g.band, g.doseTol, g.gain, g.zero0, g.zero1, g.zero2, g.zero3][j]?) ∧
  (∀ (g : WeighConfig) (i j : Nat) (v : Int), weighInRange i v = true →
    weighValue (setWeighItem g i v) j = if j = i then some v else weighValue g j) ∧
  (∀ (j : Nat) (v : Int), weighInRange j v = true ↔
    ∃ x y, [((10000 : Int), (200000 : Int)), (1, 32), (1, 32), (1, 255), (0, 255), (1, 4194303), (-8388608, 8388607),
      (-8388608, 8388607), (-8388608, 8388607), (-8388608, 8388607)][j]? = some (x, y) ∧ x ≤ v ∧ v ≤ y) ∧
  ∀ (s : State) (q : NodeId) (tag b i b0 b1 b2 b3 : Byte) (c : Instr),
    (c = .weighConfigWrite q tag [b, i, b0, b1, b2, b3] → AtHead c s →
      (stationOf b = none → Answers c s (refuse .badValue 255) s) ∧
      ∀ n, stationOf b = some n →
        ((s.st n).run.state ≠ .idle → Answers c s (refuse .wrongState (stateCode (s.st n).run.state)) s) ∧
        ((s.st n).run.state = .idle → (s.st n).weigh.op ≠ .none →
          Answers c s (refuse .busy (opCode (s.st n).weigh.op)) s) ∧
        ((s.st n).run.state = .idle → (s.st n).weigh.op = .none →
          (9 < i.toNat → Answers c s (refuse .badValue 0) s) ∧
          (i.toNat ≤ 9 → weighInRange i.toNat (s32 b0 b1 b2 b3) = false → Answers c s (refuse .badValue 1) s) ∧
          (weighInRange i.toNat (s32 b0 b1 b2 b3) = true →
            (i.toNat = 0 →
              Answers c s (done (putS32 (s32 b0 b1 b2 b3)))
                (s.modSt n (fun st => { st with
                  weighCfg := { st.weighCfg with cap := s32 b0 b1 b2 b3 }
                  weigh := { st.weigh with
                    tare := clampInt (-(s32 b0 b1 b2 b3)) (s32 b0 b1 b2 b3) st.weigh.tare
                    net := clampInt (-(s32 b0 b1 b2 b3)) (s32 b0 b1 b2 b3)
                      (st.weigh.filtered - clampInt (-(s32 b0 b1 b2 b3)) (s32 b0 b1 b2 b3) st.weigh.tare)
                    overload := decide (s32 b0 b1 b2 b3 < st.weigh.filtered) } }))) ∧
            (1 ≤ i.toNat → i.toNat ≤ 4 →
              Answers c s (done (putS32 (s32 b0 b1 b2 b3)))
                (s.modSt n (fun st => { st with
                  weighCfg := setWeighItem st.weighCfg i.toNat (s32 b0 b1 b2 b3) }))) ∧
            (5 ≤ i.toNat →
              Answers c s (done (putS32 (s32 b0 b1 b2 b3)))
                (s.modSt n (fun st => { st with
                  weighCfg := setWeighItem st.weighCfg i.toNat (s32 b0 b1 b2 b3)
                  weigh := { st.weigh with
                    ring := [], lastSeq := none, settled := false, overload := false } })))))) ∧
    (c = .weighConfigRead q tag [b, i] → AtHead c s →
      (stationOf b = none → Answers c s (refuse .badValue 255) s) ∧
      ∀ n, stationOf b = some n →
        (weighValue (s.st n).weighCfg i.toNat = none → Answers c s (refuse .badValue 0) s) ∧
        (∀ v, weighValue (s.st n).weighCfg i.toNat = some v → Answers c s (done (putS32 v)) s))

/-- HEAT_CONFIG: its checks, the item an accepted write replaces, and its read form (R88); BUDGET_SET: its range, the budget
and the division that an accepted write leaves, and its read form (R105, R108). -/
def Obligations.HeatConfigAndBudget : Prop :=
  (∀ (g : HeatConfig) (j : Nat), heatValue g j = [g.kp, g.ki, g.reachBand][j]?) ∧
  (∀ (g : HeatConfig) (i j v : Nat), i ≤ 2 →
    heatValue (setHeatItem g i v) j = if j = i then some v else heatValue g j) ∧
  (∀ j v, heatInRange j v = true ↔ ∃ y, [255, 255, 100][j]? = some y ∧ v ≤ y) ∧
  ∀ (s : State) (q : NodeId) (tag b i v lo hi : Byte) (c : Instr),
    (c = .heatConfigWrite q tag [b, i, v] → AtHead c s →
      (stationOf b = none → Answers c s (refuse .badValue 255) s) ∧
      ∀ n, stationOf b = some n →
        ((s.st n).run.state ≠ .idle → Answers c s (refuse .wrongState (stateCode (s.st n).run.state)) s) ∧
        ((s.st n).run.state = .idle →
          (2 < i.toNat → Answers c s (refuse .badValue 0) s) ∧
          (i.toNat ≤ 2 → heatInRange i.toNat v.toNat = false → Answers c s (refuse .badValue 1) s) ∧
          (heatInRange i.toNat v.toNat = true →
            Answers c s (done [v])
              (s.modSt n (fun st => { st with heatCfg := setHeatItem st.heatCfg i.toNat v.toNat }))))) ∧
    (c = .heatConfigRead q tag [b, i] → AtHead c s →
      (stationOf b = none → Answers c s (refuse .badValue 255) s) ∧
      ∀ n, stationOf b = some n →
        (heatValue (s.st n).heatCfg i.toNat = none → Answers c s (refuse .badValue 0) s) ∧
        (∀ x, heatValue (s.st n).heatCfg i.toNat = some x → Answers c s (done [byteOf x]) s)) ∧
    (c = .budgetSetWrite q tag [lo, hi] → AtHead c s →
      (u16 lo hi < 500 ∨ 3600 < u16 lo hi → Answers c s (refuse .badValue 1) s) ∧
      (500 ≤ u16 lo hi → u16 lo hi ≤ 3600 →
        ∃ u, Answers c s (done (putU16 (u16 lo hi) ++ putU16 (u.side .zero).grant ++ putU16 (u.side .one).grant)) u ∧
          u.arbiter.budget = u16 lo hi ∧
          u.arbiter.available = u16 lo hi - ((s.side .zero).draw + (s.side .one).draw) ∧
          ((u.side .zero).grant, (u.side .one).grant) =
            divideGrants u.arbiter.available (s.side .zero).counted (s.side .one).counted ∧
          (∀ n, (u.side n).draw = (s.side n).draw ∧ (u.side n).counted = (s.side n).counted) ∧
          (∀ n, u.st n = s.st n) ∧ u.notices = s.notices ∧ u.outline = s.outline)) ∧
    (c = .budgetSetRead q tag [] → AtHead c s →
      Answers c s (done (putU16 s.arbiter.budget ++ putU16 s.arbiter.side0.grant ++ putU16 s.arbiter.side1.grant)) s)

/-! ### Runs (chapter 2) -/

/-- PAUSE freezes a RUNNING station with its phase saved, at rest, and sets PAUSED_n (R41, R43). RESUME faults a PAUSED station
on a standing cause, and else returns it to its phase by way of LOCKING where the step needs a lid that is not locked; elapsed time,
reversal, base, overrides and flags are kept (R44, R52), a frozen LOCKING deadline resumes over a lid that is closed, and else R28
acts on the last report. That a fault at RESUME reports the frozen elapsed time, whatever phase is
saved, is the model's choice (DESIGN CHOICE, notes/assumptions/36.md). -/
def Obligations.PauseAndResume : Prop :=
  (∀ (s : State) (q : NodeId) (tag b : Byte), AtHead (.pause q tag [b]) s →
     (stationOf b = none → Answers (.pause q tag [b]) s (refuse .badValue 255) s) ∧
     ∀ n, stationOf b = some n →
       ((s.st n).run.state ≠ .running →
         Answers (.pause q tag [b]) s (refuse .wrongState (stateCode (s.st n).run.state)) s) ∧
       ((s.st n).run.state = .running →
         ∃ u, Answers (.pause q tag [b]) s (done []) u ∧
           (u.st n).run = { (s.st n).run with
             state := .paused, savedPhase := (s.st n).run.phase, phase := none, pauseReason := some .request
             flags := { (s.st n).run.flags with paused := true } } ∧
           AtRest u n ∧ u.notices.bits = s.notices.bits ||| noticeMask (.paused n) ∧ OnlyRuns s u n)) ∧
  (∀ (s : State) (q : NodeId) (tag b : Byte), AtHead (.resume q tag [b]) s →
     (stationOf b = none → Answers (.resume q tag [b]) s (refuse .badValue 255) s) ∧
     ∀ n, stationOf b = some n →
       ((s.st n).run.state ≠ .paused →
         Answers (.resume q tag [b]) s (refuse .wrongState (stateCode (s.st n).run.state)) s) ∧
       ((s.st n).run.state = .paused →
         ∃ u, Answers (.resume q tag [b]) s (done []) u ∧ OnlyRuns s u n ∧
           (∀ c further, s.standing n (some (s.curStep n))
               (some ((s.st n).run.tempOverride.getD (s.curStep n).heat)) = c :: further →
             FaultsFrom s u n c further.length) ∧
           (s.standing n (some (s.curStep n)) (some ((s.st n).run.tempOverride.getD (s.curStep n).heat)) = [] →
             (u.st n).run.state = .running ∧ (u.st n).run.savedPhase = none ∧ (u.st n).run.pauseReason = none ∧
             (u.st n).run.step = (s.st n).run.step ∧ (u.st n).run.elapsed = (s.st n).run.elapsed ∧
             (u.st n).run.reversal = (s.st n).run.reversal ∧ (u.st n).run.doseBase = (s.st n).run.doseBase ∧
             (u.st n).run.speedOverride = (s.st n).run.speedOverride ∧
             (u.st n).run.tempOverride = (s.st n).run.tempOverride ∧ (u.st n).run.flags = (s.st n).run.flags ∧
             ((s.curStep n).lock = true → s.lidLocked n = false →
               (u.st n).run.phase = some .locking ∧
               ((s.st n).run.savedPhase = some .locking →
                 (u.st n).run.phaseAfterLock = (s.st n).run.phaseAfterLock) ∧
               ((s.st n).run.savedPhase = some .basing → (u.st n).run.phaseAfterLock = some .basing) ∧
               ((s.st n).run.savedPhase = some .active → (u.st n).run.phaseAfterLock = some .active) ∧
               ((s.st n).run.savedPhase ≠ some .locking ∨ (s.st n).run.deadline = none → ActsOnLid s u n) ∧
               (∀ d, (s.st n).run.savedPhase = some .locking → (s.st n).run.deadline = some d →
                 (∀ r, s.silent n .lid = false → (s.st n).drive.lidReport = some r → r.closed = true →
                   (u.st n).run.deadline = some d) ∧
                 (s.silent n .lid = true ∨ (∀ r, (s.st n).drive.lidReport = some r → r.closed = false) →
                   (u.st n).run.deadline = none))) ∧
             ((s.curStep n).lock = false ∨ s.lidLocked n = true →
               ((s.st n).run.savedPhase = some .locking → (s.st n).run.phaseAfterLock = some .basing →
                 (u.st n).run.phase = some .basing ∧ (u.st n).run.deadline = some 5000) ∧
               ((s.st n).run.savedPhase = some .locking → (s.st n).run.phaseAfterLock = some .active →
                 (u.st n).run.phase = some .active ∧ (u.st n).run.deadline = none) ∧
               ((s.st n).run.savedPhase = some .basing →
                 (u.st n).run.phase = some .basing ∧ (u.st n).run.deadline = some 5000) ∧
               ((s.st n).run.savedPhase = some .active →
                 (u.st n).run.phase = some .active ∧ (u.st n).run.deadline = none)))))

/-- STOP ends a RUNNING or PAUSED step STOPPED and enters IDLE, ends WARMING, drops the manual demands of an IDLE station, sets
the pending unlock in each of these, and is refused in FAULT (R45). -/
def Obligations.StopEndsTheRun : Prop :=
  ∀ (s : State) (q : NodeId) (tag b : Byte), AtHead (.stop q tag [b]) s →
    (stationOf b = none → Answers (.stop q tag [b]) s (refuse .badValue 255) s) ∧
    ∀ n, stationOf b = some n →
      ((s.st n).run.state = .fault → Answers (.stop q tag [b]) s (refuse .wrongState 4) s) ∧
      ((s.st n).run.state ≠ .fault →
        ∃ u, Answers (.stop q tag [b]) s (done []) u ∧ UnlockAsked u n ∧ OnlyRuns s u n ∧
          ((s.st n).run.state = .running ∨ (s.st n).run.state = .paused →
            (u.st n).run = { (s.st n).run.emptied .idle with
              lastReport := some ((s.st n).endReport .stopped (s.st n).run.elapsed) } ∧
            u.notices.bits = s.notices.bits ||| noticeMask (.stepEnd n)) ∧
          ((s.st n).run.state = .warming →
            (u.st n).run = (s.st n).run.emptied .idle ∧ u.notices = s.notices) ∧
          ((s.st n).run.state = .idle →
            (u.st n).run = (s.st n).run ∧ (u.st n).drive.manualSpeed = 0 ∧ (u.st n).drive.speedHold = none ∧
            (u.st n).drive.manualHeat = 0 ∧ (u.st n).drive.heatHold = none ∧
            (u.st n).drive.manualLid = (s.st n).drive.manualLid ∧ u.notices = s.notices))

/-- SKIP ends the step of a RUNNING station in any phase, and CONFIRM one that is ACTIVE and waits for it, each refused in the
order its rule gives (R46, R47); what follows a step end is that of R36 to R38. That a SKIP in a LOCKING which a RESUME entered
reports elapsed 0, as in any LOCKING, is the model's choice (DESIGN CHOICE, notes/assumptions/36.md). -/
def Obligations.SkipAndConfirmEndSteps : Prop :=
  ∀ (s : State) (q : NodeId) (tag b e : Byte),
    (AtHead (.skip q tag [b]) s →
      (stationOf b = none → Answers (.skip q tag [b]) s (refuse .badValue 255) s) ∧
      ∀ n, stationOf b = some n →
        ((s.st n).run.state ≠ .running →
          Answers (.skip q tag [b]) s (refuse .wrongState (stateCode (s.st n).run.state)) s) ∧
        ((s.st n).run.state = .running →
          ∃ u, Answers (.skip q tag [b]) s (done []) u ∧ EndsStep s u n .skipped (s.st n).cutElapsed)) ∧
    (AtHead (.confirm q tag [b, e]) s →
      (stationOf b = none → Answers (.confirm q tag [b, e]) s (refuse .badValue 255) s) ∧
      ∀ n, stationOf b = some n →
        ((s.st n).run.state ≠ .running →
          Answers (.confirm q tag [b, e]) s (refuse .wrongState (stateCode (s.st n).run.state)) s) ∧
        ((s.st n).run.state = .running → (s.st n).run.phase = some .locking →
          Answers (.confirm q tag [b, e]) s (refuse .wrongState 8) s) ∧
        ((s.st n).run.state = .running → (s.st n).run.phase = some .basing →
          Answers (.confirm q tag [b, e]) s (refuse .wrongState 9) s) ∧
        ((s.st n).run.state = .running → (s.st n).run.phase = some .active →
          ((s.curStep n).endConfirm = false → Answers (.confirm q tag [b, e]) s (refuse .wrongState 10) s) ∧
          ((s.curStep n).endConfirm = true →
            (e ≠ 255 → (s.st n).run.step ≠ some e.toNat →
              Answers (.confirm q tag [b, e]) s (refuse .wrongState 11) s) ∧
            (e = 255 ∨ (s.st n).run.step = some e.toNat →
              ∃ u, Answers (.confirm q tag [b, e]) s (done []) u ∧
                EndsStep s u n .confirm (s.st n).run.elapsed))))

/-- ADJUST's checks, the overrides, extension and limit an accepted one leaves and its reply data; an override that raises the
heat target of a RUNNING step from 0 over a standing cause faults the station (R48 to R50, R52). That the reply carries the
values the ADJUST set also when it faults the station is the model's reading (DEDUCED, notes/assumptions/16.md), and the elapsed
time that such a fault reports in LOCKING its choice (DESIGN CHOICE, notes/assumptions/36.md). -/
def Obligations.AdjustChangesTheStep : Prop :=
  ∀ (s : State) (q : NodeId) (tag b p s0 s1 t0 t1 e0 e1 : Byte) (c : Instr) (r : RunContext),
    c = .adjust q tag [b, p, s0, s1, t0, t1, e0, e1] → AtHead c s →
    (stationOf b = none → Answers c s (refuse .badValue 255) s) ∧
    ∀ n, stationOf b = some n →
      ((s.st n).run.state ≠ .running → (s.st n).run.state ≠ .paused →
        Answers c s (refuse .wrongState (stateCode (s.st n).run.state)) s) ∧
      ((s.st n).run.state = .running ∨ (s.st n).run.state = .paused →
        (p.getLsbD 0 = true → 12000 < u16 s0 s1 → Answers c s (refuse .badValue 0) s) ∧
        ((p.getLsbD 0 = false ∨ u16 s0 s1 ≤ 12000) →
          (3600 < u16 e0 e1 → Answers c s (refuse .badValue 2) s) ∧
          (u16 e0 e1 ≤ 3600 →
            r = { (s.st n).run with
              speedOverride := if p.getLsbD 0 then some (u16 s0 s1) else (s.st n).run.speedOverride
              tempOverride := if p.getLsbD 1
                then some (clampInt 300 (min 2000 ((s.st n).limits.overtemp - 50)) (s16 t0 t1))
                else (s.st n).run.tempOverride
              extension := if u16 e0 e1 = 0 ∨ (s.curStep n).hasLimit = false then (s.st n).run.extension
                else min ((s.st n).run.extension + u16 e0 e1) (65535 - (s.curStep n).duration)
              effLimit := if u16 e0 e1 = 0 then (s.st n).run.effLimit
                else if (s.curStep n).hasLimit = false then some 655350
                else some (min 655350 (((s.curStep n).duration +
                  min ((s.st n).run.extension + u16 e0 e1) (65535 - (s.curStep n).duration)) * 10))
              flags := { (s.st n).run.flags with
                adjusted := (s.st n).run.flags.adjusted || p.getLsbD 0 || p.getLsbD 1 || (u16 e0 e1 != 0) } } →
            ∃ u, Answers c s
                (done ([flagByte [r.speedOverride.isSome, r.tempOverride.isSome]] ++
                  putU16 (r.speedOverride.getD 0) ++ putS16 (r.tempOverride.getD 0) ++
                  putU24 (r.effLimit.getD 0))) u ∧
              OnlyRuns s u n ∧
              ((s.st n).run.state = .paused ∨ p.getLsbD 1 = false ∨ heating (s.heatTarget n) = true ∨
                  s.standing n (some (s.curStep n)) r.tempOverride = [] →
                (u.st n).run = r ∧ u.notices = s.notices ∧
                ((s.st n).run.state = .running → (s.st n).run.phase = some .active → p.getLsbD 0 = true →
                  (u.st n).drive.requested = u16 s0 s1 ∧
                  (u.st n).drive.commanded = min (u16 s0 s1) (s.st n).drive.envelope)) ∧
              ((s.st n).run.state = .running → p.getLsbD 1 = true → heating (s.heatTarget n) = false →
                ∀ x further, s.standing n (some (s.curStep n)) r.tempOverride = x :: further →
                  (u.st n).run.state = .fault ∧ (u.st n).run.faultCause = some x ∧
                  (u.st n).run.furtherFaults = min 255 further.length))))

/-- CLEAR_FAULT returns a station in FAULT to IDLE when its first cause no longer holds, with the fault fields, the pending
unlock and the manual demands kept; else it is refused with the cause, or with the state (R55). -/
def Obligations.ClearFaultTestsFirstCause : Prop :=
  ∀ (s : State) (q : NodeId) (tag b : Byte), AtHead (.clearFault q tag [b]) s →
    (stationOf b = none → Answers (.clearFault q tag [b]) s (refuse .badValue 255) s) ∧
    ∀ n, stationOf b = some n →
      ((s.st n).run.state ≠ .fault →
        Answers (.clearFault q tag [b]) s (refuse .wrongState (stateCode (s.st n).run.state)) s) ∧
      ((s.st n).run.state = .fault → ∀ c, (s.st n).run.faultCause = some c →
        (s.holds n c → Answers (.clearFault q tag [b]) s (refuse .wrongState (causeCode c)) s) ∧
        (¬ s.holds n c →
          ∃ u, Answers (.clearFault q tag [b]) s (done []) u ∧
            (u.st n).run = (s.st n).run.emptied .idle ∧ (u.st n).drive.manualSpeed = (s.st n).drive.manualSpeed ∧
            (u.st n).drive.manualHeat = (s.st n).drive.manualHeat ∧
            (u.st n).drive.manualLid = (s.st n).drive.manualLid ∧ u.notices = s.notices ∧
            ((s.st n).drive.pendingUnlock = true → UnlockAsked u n) ∧ OnlyRuns s u n))

/-- The LOCKING deadline faults the station with LID_LOCK (R28), with everything a fault entry does (R53, R36). The end of the
BASING deadline takes the present net weight as dose base, marks it unsettled and goes on to LOCKING or ACTIVE (R29); the warming
limit returns the station to IDLE and asks for the unlock (R39). That an expiry acts whenever its timer runs, and changes nothing
where it does not, is the model's choice (DESIGN CHOICE, notes/assumptions/2.md), and so is elapsed 0 for a fault in any LOCKING
(notes/assumptions/36.md). -/
def Obligations.DeadlinesEndPhases : Prop :=
  (∀ (s : State) (n : StationId), s.inReset = false →
     ((s.st n).run.state = .running → (s.st n).run.phase = some .locking → (s.st n).run.deadline ≠ none →
       ∃ u, exec (.lockingDeadlineExpiry n) s = .next u ∧ FaultsFrom s u n .lidLock 0) ∧
     ((s.st n).run.state ≠ .running ∨ (s.st n).run.phase ≠ some .locking ∨ (s.st n).run.deadline = none →
       exec (.lockingDeadlineExpiry n) s = .next s)) ∧
  (∀ (s : State) (n : StationId), s.inReset = false →
     ((s.st n).run.state = .running → (s.st n).run.phase = some .basing → (s.st n).run.deadline ≠ none →
       ∃ u, exec (.basingDeadlineExpiry n) s = .next u ∧
         (u.st n).run.state = .running ∧ (u.st n).run.step = (s.st n).run.step ∧
         (u.st n).run.doseBase = some (s.st n).weigh.net ∧
         (u.st n).run.flags = { (s.st n).run.flags with baseUnsettled := true } ∧
         (u.st n).run.elapsed = (s.st n).run.elapsed ∧ (u.st n).run.lastReport = (s.st n).run.lastReport ∧
         ((s.curStep n).lock = true → s.lidLocked n = false →
           (u.st n).run.phase = some .locking ∧ (u.st n).run.phaseAfterLock = some .active) ∧
         ((s.curStep n).lock = false ∨ s.lidLocked n = true →
           (u.st n).run.phase = some .active ∧ (u.st n).run.deadline = none ∧
           ((s.curStep n).endConfirm = true → u.notices.bits = s.notices.bits ||| noticeMask (.confirm n)) ∧
           ((s.curStep n).endConfirm = false → u.notices = s.notices)) ∧
         OnlyRuns s u n) ∧
     (∀ limit, (s.st n).run.state = .warming → (s.st n).run.warmingLimit = some limit →
       (0 < limit →
         ∃ u, exec (.warmingLimitExpiry n) s = .next u ∧ (u.st n).run = (s.st n).run.emptied .idle ∧
           u.notices = s.notices ∧ UnlockAsked u n ∧ OnlyRuns s u n) ∧
       (limit = 0 → exec (.warmingLimitExpiry n) s = .next s)))

/-- The step timer's expiry ends an ACTIVE step that has a limit at its effective limit, with TIME or LIMIT (R32, R36 to R38);
a reversal of an ALT step flips its direction at a whole multiple of the interval, and the commanded direction follows (R31,
R119). That the command brings the elapsed time to that end, and that an expiry without a limit changes nothing, are the model's
choices (DESIGN CHOICE, notes/assumptions/2.md), and so are the milliseconds toward the next tenth (notes/assumptions/17.md). -/
def Obligations.StepTimerEndsAndReverses : Prop :=
  ∀ (s : State) (n : StationId) (limit : Nat), s.inReset = false → (s.st n).run.state = .running →
    (s.st n).run.phase = some .active → (s.st n).run.effLimit = some limit →
    ((s.curStep n).hasLimit = true →
      ∃ u, exec (.stepTimerExpiry n) s = .next u ∧
        EndsStep s u n (if (s.curStep n).endTime then .time else .limit) limit) ∧
    ((s.curStep n).hasLimit = false → exec (.stepTimerExpiry n) s = .next s) ∧
    (∀ (k : Nat) (d : Direction), (s.curStep n).mode = .alt → 0 < (s.curStep n).reversal →
      (s.st n).run.reversal = some d → k = (s.st n).run.elapsed / ((s.curStep n).reversal * 10) →
      (d = parityDirection k → (k + 1) * ((s.curStep n).reversal * 10) ≤ limit →
        ∃ u, exec (.reversal n) s = .next u ∧
          (u.st n).run = { (s.st n).run with
            elapsed := (k + 1) * ((s.curStep n).reversal * 10), reversal := some (flipDirection d), tenthMs := 0 } ∧
          (u.st n).drive.commandedDir = flipDirection d ∧ (u.st n).drive.requestedDir = flipDirection d ∧
          (u.st n).heat = (s.st n).heat ∧ u.notices = s.notices ∧ OnlyRuns s u n) ∧
      (d ≠ parityDirection k → (s.st n).run.elapsed ≤ limit →
        ∃ u, exec (.reversal n) s = .next u ∧
          (u.st n).run = { (s.st n).run with reversal := some (flipDirection d) } ∧
          (u.st n).drive.commandedDir = flipDirection d ∧ (u.st n).drive.requestedDir = flipDirection d ∧
          (u.st n).heat = (s.st n).heat ∧ u.notices = s.notices ∧ OnlyRuns s u n))

/-! ### Weighing (chapter 3) -/

/-- TARE: its checks, and the tare an accepted one starts, ending an earlier tare SUPERSEDED (R75, R76). Its deadline ends a
tare UNSTABLE (R78). That the deadline of a running tare may end it at any moment, and that without a tare it changes nothing, is
the model's choice (DESIGN CHOICE, notes/assumptions/2.md); the count, sums and mass at an operation's start and end are its reading
(DEDUCED, notes/assumptions/26.md). -/
def Obligations.TareStartsAndExpires : Prop :=
  ∀ (s : State) (q : NodeId) (tag b : Byte) (n : StationId),
    (AtHead (.tare q tag [b]) s →
      (stationOf b = none → Answers (.tare q tag [b]) s (refuse .badValue 255) s) ∧
      (stationOf b = some n →
        ((s.st n).binding.weigh = none → Answers (.tare q tag [b]) s (refuse .noBinding 2) s) ∧
        ((s.st n).binding.weigh ≠ none → s.silent n .weigh = true →
          Answers (.tare q tag [b]) s (refuse .wrongState 19) s) ∧
        ((s.st n).binding.weigh ≠ none → s.silent n .weigh = false →
          ((s.st n).weigh.op = .zeroing → Answers (.tare q tag [b]) s (refuse .busy 5) s) ∧
          ((s.st n).weigh.op = .calibrating → Answers (.tare q tag [b]) s (refuse .busy 6) s) ∧
          ((s.st n).weigh.op = .none ∨ (s.st n).weigh.op = .taring →
            ∃ u, Answers (.tare q tag [b]) s (done []) u ∧
              OperationMoves s u n .taring (some 3000) none .superseded)))) ∧
    (s.inReset = false →
      ((s.st n).weigh.op = .taring →
        ∃ u, exec (.tareDeadlineExpiry n) s = .next u ∧ OperationMoves s u n .none none none .unstable) ∧
      ((s.st n).weigh.op ≠ .taring → exec (.tareDeadlineExpiry n) s = .next s))

/-- ZERO and CALIBRATE: their checks, and the capture an accepted one starts, ending a running one INTERRUPTED (R79, R81,
R83). Their deadline ends a capture STALE (R84). That the deadline of a running capture may end it at any moment, and that without a
capture it changes nothing, is the model's choice (DESIGN CHOICE, notes/assumptions/2.md); the count, sums and mass at an operation's
start and end are its reading (DEDUCED, notes/assumptions/26.md). -/
def Obligations.CapturesStartAndExpire : Prop :=
  ∀ (s : State) (q : NodeId) (tag b m0 m1 m2 : Byte) (n : StationId) (c : Instr) (op : WeighOp) (mass : Option Int),
    ((c = .zero q tag [b] ∧ op = .zeroing ∧ mass = none) ∨
      (c = .calibrate q tag [b, m0, m1, m2] ∧ op = .calibrating ∧ mass = some (u24 m0 m1 m2 : Int)) →
    AtHead c s →
      (stationOf b = none → Answers c s (refuse .badValue 255) s) ∧
      (stationOf b = some n →
        ((s.st n).run.state ≠ .idle → Answers c s (refuse .wrongState (stateCode (s.st n).run.state)) s) ∧
        ((s.st n).run.state = .idle →
          ((s.st n).binding.weigh = none → Answers c s (refuse .noBinding 2) s) ∧
          ((s.st n).binding.weigh ≠ none → s.silent n .weigh = true → Answers c s (refuse .wrongState 19) s) ∧
          ((s.st n).binding.weigh ≠ none → s.silent n .weigh = false →
            ((s.st n).weigh.op = .taring → Answers c s (refuse .busy 7) s) ∧
            ((s.st n).weigh.op ≠ .taring →
              (∀ m, mass = some m → m < 100 ∨ (s.st n).weighCfg.cap < m → Answers c s (refuse .badValue 0) s) ∧
              ((∀ m, mass = some m → 100 ≤ m ∧ m ≤ (s.st n).weighCfg.cap) →
                ∃ u, Answers c s (done []) u ∧ OperationMoves s u n op (some 10000) mass .interrupted)))))) ∧
    (s.inReset = false →
      ((s.st n).weigh.op = .zeroing ∨ (s.st n).weigh.op = .calibrating →
        ∃ u, exec (.zeroCalibrateDeadlineExpiry n) s = .next u ∧ OperationMoves s u n .none none none .stale) ∧
      ((s.st n).weigh.op = .none ∨ (s.st n).weigh.op = .taring →
        exec (.zeroCalibrateDeadlineExpiry n) s = .next s))

/-- A delivered sample: a duplicate is counted and discarded, a gap is counted, and an accepted sample's filter update forms
the gross weight, the ring, the filtered weight, SETTLED, OVERLOAD and the net weight; it ends an ACTIVE dose step whose added
weight has reached the dose, a settled update captures the base in BASING, and last of all an operation in progress advances
(R29, R33, R60 to R68, and part 8 of R61, which OperationsAdvance states). That a sample which ends a step captures no base for the
step entered is the model's reading (DEDUCED, notes/assumptions/18.md). -/
def Obligations.SampleUpdatesTheFilter : Prop :=
  ∀ (s : State) (n : StationId) (x : WeighSample),
    ((s.st n).weigh.lastSeq = some x.seq → takeWeighSample n x s = countStation n .duplicates s) ∧
    (∀ v, (s.st n).weigh.lastSeq ≠ some x.seq →
      v = (if (s.st n).weigh.lastSeq = none ∨ (s.st n).weigh.lastSeq = some (x.seq - 1) then s
        else countStation n .gaps s).modWeigh n (fun _ => (s.st n).afterUpdate x) →
      ((s.st n).run.state ≠ .running ∨ (s.st n).run.phase = some .locking →
        takeWeighSample n x s = advanceOp n x v) ∧
      ((s.st n).run.state = .running → (s.st n).run.phase = some .active →
        (∀ base, (s.st n).run.doseBase = some base → (s.curStep n).endWeight = true →
          (s.curStep n).dose - (s.st n).weighCfg.doseTol ≤ ((s.st n).afterUpdate x).net - base →
          ∃ u, takeWeighSample n x s = advanceOp n x u ∧ EndsStep v u n .weight (s.st n).run.elapsed) ∧
        ((s.curStep n).endWeight = false ∨ (s.st n).run.doseBase = none ∨
            (∃ base, (s.st n).run.doseBase = some base ∧
              ((s.st n).afterUpdate x).net - base < (s.curStep n).dose - (s.st n).weighCfg.doseTol) →
          takeWeighSample n x s = advanceOp n x v)) ∧
      ((s.st n).run.state = .running → (s.st n).run.phase = some .basing →
        (((s.st n).afterUpdate x).settled = false → takeWeighSample n x s = advanceOp n x v) ∧
        (((s.st n).afterUpdate x).settled = true →
          ∃ u, takeWeighSample n x s = advanceOp n x u ∧ OnlyRuns v u n ∧
            (u.st n).run.state = .running ∧ (u.st n).run.doseBase = some ((s.st n).afterUpdate x).net ∧
            (u.st n).run.flags = (s.st n).run.flags ∧
            ((s.curStep n).lock = true → s.lidLocked n = false →
              (u.st n).run.phase = some .locking ∧ (u.st n).run.phaseAfterLock = some .active) ∧
            ((s.curStep n).lock = false ∨ s.lidLocked n = true →
              (u.st n).run.phase = some .active ∧ (u.st n).run.deadline = none))))

/-- Part 8 of a filter update: a settled update completes a tare and moves a dose base by its change (R73, R77), and the
sixteenth update completes a zero capture (R80) or a calibration, in or out of the gain range (R82). The count, sums and mass at an
operation's end are the model's reading (DEDUCED, notes/assumptions/26.md). -/
def Obligations.OperationsAdvance : Prop :=
  ∀ (s : State) (n : StationId) (x : WeighSample) (w : WeighContext) (c : WeighConfig),
    w = (s.st n).weigh → c = (s.st n).weighCfg →
    (w.op = .none → advanceOp n x s = s) ∧
    (w.op = .taring → w.settled = false → advanceOp n x s = s) ∧
    (w.op = .taring → w.settled = true →
      ∀ t, t = clampInt (-c.cap) c.cap w.filtered →
        advanceOp n x s = setNotice (.weighOp n) ((s.modRun n (fun r => { r with
            doseBase := r.doseBase.map (fun base => clampInt (-c.cap) c.cap (base - (t - w.tare))) })).modWeigh n
          (fun _ => { w.withOp .none none none with
            tare := t, net := clampInt (-c.cap) c.cap (w.filtered - t), lastTare := some .done }))) ∧
    (w.op = .zeroing → w.accCount < 15 →
      advanceOp n x s = s.modWeigh n (fun _ => { w with
        accCount := w.accCount + 1, sum0 := w.sum0 + x.c0, sum1 := w.sum1 + x.c1, sum2 := w.sum2 + x.c2
        sum3 := w.sum3 + x.c3 })) ∧
    (w.op = .zeroing → w.accCount = 15 →
      advanceOp n x s = setNotice (.weighOp n) (s.modSt n (fun st => { st with
        weighCfg := { c with
          zero0 := roundDiv (w.sum0 + x.c0) 16, zero1 := roundDiv (w.sum1 + x.c1) 16
          zero2 := roundDiv (w.sum2 + x.c2) 16, zero3 := roundDiv (w.sum3 + x.c3) 16 }
        weigh := { w.withOp .none none none with
          ring := [], lastSeq := none, settled := false, overload := false, tare := 0, filtered := 0, net := 0
          lastZero := some .done } }))) ∧
    (∀ sum mass, w.op = .calibrating → w.refMass = some mass →
      sum = w.sumS + ((x.c0 - c.zero0) + (x.c1 - c.zero1) + (x.c2 - c.zero2) + (x.c3 - c.zero3)) →
      (w.accCount < 15 →
        advanceOp n x s = s.modWeigh n (fun _ => { w with accCount := w.accCount + 1, sumS := sum })) ∧
      (w.accCount = 15 → roundDiv sum 16 ≤ 0 ∨ roundDiv (mass * 65536) (roundDiv sum 16) = 0 ∨
          4194303 < roundDiv (mass * 65536) (roundDiv sum 16) →
        advanceOp n x s = setNotice (.weighOp n)
          (s.modWeigh n (fun _ => { w.withOp .none none none with lastCal := some .failedRange }))) ∧
      (w.accCount = 15 → 0 < roundDiv sum 16 → roundDiv (mass * 65536) (roundDiv sum 16) ≠ 0 →
        roundDiv (mass * 65536) (roundDiv sum 16) ≤ 4194303 →
        advanceOp n x s = setNotice (.weighOp n) (s.modSt n (fun st => { st with
          weighCfg := { c with gain := roundDiv (mass * 65536) (roundDiv sum 16) }
          weigh := { w.withOp .none none none with
            ring := [], lastSeq := none, settled := false, overload := false, filtered := mass
            net := clampInt (-c.cap) c.cap (mass - w.tare), lastCal := some .done } }))))

/-! ### Heating (chapter 4) -/

/-- A good sample below OVERTEMP with a heat target above 0 stores the temperature, advances the integral once, forms the
demand and tests REACHED (R89, R90, R95, R96, R98); with a target of 0, or in IDLE, the integral or the demand are those of
R97 and R99. -/
def Obligations.GoodSampleFormsTheDemand : Prop :=
  ∀ (s : State) (n : StationId) (t : Int), t < (s.st n).limits.overtemp →
    ¬ ((s.st n).run.state = .running ∧ (s.st n).run.phase = some .active ∧ (s.curStep n).endTemp = true ∧
      (s.heatTarget n).getD 0 - (s.st n).heatCfg.reachBand ≤ t) →
    (∀ ht : Int, s.heatTarget n = some ht → 0 < ht → s.silent n .thermo = false →
      ∀ i, i = nextIntegral (s.st n).limits.pmax (s.st n).heatCfg.ki (ht - t) (s.side n).grant (s.st n).heat.demand
          (s.st n).heat.integral →
        ((takeThermoSample n t false s).st n).heat = { (s.st n).heat with
          bowl := some t
          sensorFault := some false
          samples := satInc Config.counterMax (s.st n).heat.samples
          reached := decide (ht - (s.st n).heatCfg.reachBand ≤ t)
          integral := i.toNat
          demand := (clampInt 0 (s.st n).limits.pmax
            (Int.tdiv ((s.st n).heatCfg.kp * (ht - t)) 16 + i)).toNat }) ∧
    (∀ ht : Int, s.heatTarget n = some ht → ht ≤ 0 →
      ((takeThermoSample n t false s).st n).heat = { (s.st n).heat with
        bowl := some t, sensorFault := some false
        samples := satInc Config.counterMax (s.st n).heat.samples
        reached := false, integral := 0, demand := 0 }) ∧
    ((s.st n).run.state = .idle → (s.st n).binding.thermo ≠ none → s.silent n .thermo = false →
      ((takeThermoSample n t false s).st n).heat = { (s.st n).heat with
        bowl := some t, sensorFault := some false
        samples := satInc Config.counterMax (s.st n).heat.samples
        reached := false, demand := (s.st n).drive.manualHeat }) ∧
    ((takeThermoSample n t false s).st n).run = (s.st n).run ∧
    ((takeThermoSample n t false s).st n).drive.envelope = (takeThermoSample n t false s).envelopeOf n ∧
    OnlyRuns s (takeThermoSample n t false s) n

/-- A sensor fault or an overtemperature faults the station from every state but FAULT, where it counts as a further fault
unless the last sample or the last bowl temperature carried it (R51, R53, R54, R91), and a good sample at the target ends an ACTIVE
step that waits for it (R34, R36 to R38). Elapsed 0 for a fault in any LOCKING is the model's choice (DESIGN CHOICE,
notes/assumptions/36.md). -/
def Obligations.SampleFaultsAndEndsSteps : Prop :=
  ∀ (s s1 : State) (n : StationId) (t : Int),
    (s1 = s.modHeat n (fun h => { h with
        sensorFault := some true, samples := satInc Config.counterMax h.samples }) →
      ((s.st n).run.state ≠ .fault → FaultsFrom s1 (takeThermoSample n t true s) n .thermoSensor 0) ∧
      ((s.st n).run.state = .fault → (s.st n).heat.sensorFault = some true → takeThermoSample n t true s = s1) ∧
      ((s.st n).run.state = .fault → (s.st n).heat.sensorFault ≠ some true →
        takeThermoSample n t true s = setNotice (.fault n) (s1.modRun n (fun r => { r with
          furtherFaults := satInc 255 r.furtherFaults, more := true })))) ∧
    (s1 = s.modHeat n (fun h => { h with
        bowl := some t, sensorFault := some false, samples := satInc Config.counterMax h.samples }) →
      ((s.st n).limits.overtemp ≤ t → (s.st n).run.state ≠ .fault →
        FaultsFrom s1 (takeThermoSample n t false s) n .overtemp 0) ∧
      (∀ u, u = takeThermoSample n t false s → (s.st n).limits.overtemp ≤ t → (s.st n).run.state = .fault →
        (u.st n).heat.bowl = some t ∧ (u.st n).heat.sensorFault = some false ∧ OnlyRuns s u n ∧
        ((∃ b : Int, (s.st n).heat.bowl = some b ∧ (s.st n).limits.overtemp ≤ b) →
          (u.st n).run = (s.st n).run ∧ u.notices = s.notices) ∧
        ((∀ b : Int, (s.st n).heat.bowl = some b → b < (s.st n).limits.overtemp) →
          (u.st n).run = { (s.st n).run with
            furtherFaults := satInc 255 (s.st n).run.furtherFaults, more := true } ∧
          u.notices.bits = s.notices.bits ||| noticeMask (.fault n))) ∧
      (t < (s.st n).limits.overtemp → (s.st n).run.state = .running → (s.st n).run.phase = some .active →
        (s.curStep n).endTemp = true → ∀ ht : Int, s.heatTarget n = some ht →
        ht - (s.st n).heatCfg.reachBand ≤ t →
        EndsStep s1 (takeThermoSample n t false s) n .temp (s.st n).run.elapsed))

/-! ### Power (chapter 5) -/

/-- The division of R109: every step of it, and that the grants stay within the counted demands and together within the
available power, all of which they use when the demands ask for more. -/
def Obligations.DivisionOfPower : Prop :=
  ∀ (b : Arbiter) (a d0 d1 : Nat), a = b.budget - (b.side0.draw + b.side1.draw) → d0 = b.side0.counted →
    d1 = b.side1.counted →
    (divideArbiter b).available = a ∧ (divideArbiter b).budget = b.budget ∧
    (a = 0 → (divideArbiter b).side0.share = 0 ∧ (divideArbiter b).side1.share = 0) ∧
    (d0 + d1 ≤ a → (divideArbiter b).side0.grant = d0 ∧ (divideArbiter b).side1.grant = d1) ∧
    (a < d0 + d1 →
      (divideArbiter b).side0.share = a / 2 ∧ (divideArbiter b).side1.share = a - a / 2 ∧
      (d0 < a / 2 → (divideArbiter b).side0.grant = d0 ∧ (divideArbiter b).side1.grant = min d1 (a - d0)) ∧
      (d1 < a - a / 2 → (divideArbiter b).side1.grant = d1 ∧ (divideArbiter b).side0.grant = min d0 (a - d1)) ∧
      (a / 2 ≤ d0 → a - a / 2 ≤ d1 →
        (divideArbiter b).side0.grant = a / 2 ∧ (divideArbiter b).side1.grant = a - a / 2) ∧
      (divideArbiter b).side0.grant + (divideArbiter b).side1.grant = a) ∧
    (divideArbiter b).side0.grant ≤ d0 ∧ (divideArbiter b).side1.grant ≤ d1 ∧
    (divideArbiter b).side0.grant + (divideArbiter b).side1.grant ≤ a

/-- The grant step: a HEAT_SET with the grant goes to the bound HEATER node, and the last value sent becomes the grant, exactly
when the value sent is absent, 10 W away, or on the other side of 0 (R110). -/
def Obligations.GrantStepSendsHeatSet : Prop :=
  ∀ (s : State) (n : StationId) (g : Nat), g = (s.side n).grant →
    ((s.st n).binding.heater = none → testGrant n s = s) ∧
    ∀ k, (s.st n).binding.heater = some k →
      ((s.side n).lastSent = none ∨
          (∃ v, (s.side n).lastSent = some v ∧
            (v + 10 ≤ g ∨ g + 10 ≤ v ∨ g = 0 ∧ v ≠ 0 ∨ g ≠ 0 ∧ v = 0)) →
        testGrant n s = originate (.heatSet n) k (putU16 g) (s.modSide n (fun x => { x with lastSent := some g }))) ∧
      (∀ v, (s.side n).lastSent = some v → v < g + 10 → g < v + 10 → (g = 0 ↔ v = 0) → testGrant n s = s)

/-! ### Stir drive and lid (chapter 6) -/

/-- Every step sends a new LID_SET UNLOCK only over a blade known to be still: commanded speed 0, and a last drive report of speed 0
or spin-down elapsed; and it keeps the rule that a pending unlock waits for nothing but such a blade, a LID node and a port that is
not ISOLATED (R128, R129). The premises are invariants of the step. Where the arrival of a good frame ends an isolation, the unlock
is served before the frame is handed on, over the blade as it was then (the model's reading, DEDUCED, notes/assumptions/9.md). -/
def Obligations.UnlockOnlyOverAStillBlade : Prop :=
  ∀ s t, NodesSound s → DriveSound s → UnlocksSound s → step s = .next t →
    UnlocksSound t ∧
    ∀ (n : StationId) (e : Queued), e ∈ t.appliance.entries → e.origin = .own (.lidSet n) → e.frame.payload = [1] →
      (∃ x ∈ s.appliance.entries, x.origin = e.origin ∧ x.frame = e.frame) ∨ BladeStill t n ∨
        BladeStill s n ∧ s.appliance.health = .isolated ∧ t.appliance.health ≠ .isolated

/-- A recomputation of the speed: the envelope is the smallest limit that applies (R115), the request follows the state (R116), a
clamp is counted by the criterion of R117, and every change of the commanded speed or direction sends a SPEED_SET to the DRIVE node
(R118). That the criterion decides over the list of R117 is the model's choice (DESIGN CHOICE, notes/assumptions/32.md). The hold
timers' ends: the manual speed returns to 0 with the commanded speed of an IDLE station, which is sent when it
changes, and the manual heat to 0 with its demand; the manual direction and the run stay (R122, R99). That the event acts
whenever the hold runs, and changes nothing where it does not, is the model's choice (DESIGN CHOICE, notes/assumptions/2.md). -/
def Obligations.SpeedRecomputesAndHoldsExpire : Prop :=
  (∀ (s u : State) (n : StationId) (st : Station) (hot : Bool), st = s.st n → u = recomputeDrive n s →
    (hot = true ↔ ∃ t, st.heat.bowl = some t ∧ st.limits.hotTemp ≤ t) →
    s.envelopeOf n = min (min st.limits.maxSpeed (if hot then st.limits.hotSpeed else st.limits.maxSpeed))
      (if s.lidLocked n then st.limits.maxSpeed else st.limits.openSpeed) ∧
    (st.run.state = .idle → (u.st n).drive.requested = st.drive.manualSpeed ∧
      (u.st n).drive.requestedDir = if 0 < st.drive.manualSpeed then st.drive.manualDir else st.drive.requestedDir) ∧
    (st.run.state = .running → st.run.phase = some .active →
      (u.st n).drive.requested = st.run.speedOverride.getD (s.curStep n).speed ∧
      ((s.curStep n).mode = .fwd → (u.st n).drive.requestedDir = .fwd) ∧
      ((s.curStep n).mode = .rev → (u.st n).drive.requestedDir = .rev) ∧
      (∀ d, (s.curStep n).mode = .alt → st.run.reversal = some d → (u.st n).drive.requestedDir = d)) ∧
    (st.run.state ≠ .idle → st.run.state ≠ .running ∨ st.run.phase ≠ some .active →
      (u.st n).drive.requested = 0 ∧ (u.st n).drive.requestedDir = st.drive.requestedDir) ∧
    (u.st n).drive.commanded = min (u.st n).drive.requested st.drive.envelope ∧
    (u.st n).drive.commandedDir = (u.st n).drive.requestedDir ∧
    ((u.st n).drive.clamped = true ↔ (u.st n).drive.commanded < (u.st n).drive.requested) ∧
    (u.st n).counters[0] =
      (if (u.st n).drive.clamped = true ∧ ((u.st n).drive.requested ≠ st.drive.requested ∨
          (u.st n).drive.commanded < st.drive.commanded) then satInc Config.counterMax st.counters[0]
        else st.counters[0]) ∧
    ((u.st n).drive.commanded ≠ st.drive.commanded ∨ (u.st n).drive.commandedDir ≠ st.drive.commandedDir →
      ∀ k, st.binding.drive = some k → s.appliance.health ≠ .isolated → Unsent u (.speedSet n) k
        (putU16 (u.st n).drive.commanded ++ [byteOf (dirCode (u.st n).drive.commandedDir)])) ∧
    ((u.st n).drive.commanded = st.drive.commanded → (u.st n).drive.commandedDir = st.drive.commandedDir →
      st.drive.pendingUnlock = false → u.appliance = s.appliance) ∧
    (u.st n).run = st.run ∧ (u.st n).heat = st.heat ∧ u.notices = s.notices ∧ OnlyRuns s u n) ∧
  ∀ (s : State) (n : StationId), s.inReset = false →
    ((s.st n).drive.speedHold ≠ none →
      ∃ u, exec (.speedHoldExpiry n) s = .next u ∧
        (u.st n).drive.manualSpeed = 0 ∧ (u.st n).drive.speedHold = none ∧
        (u.st n).drive.manualDir = (s.st n).drive.manualDir ∧
        ((s.st n).run.state = .idle → (u.st n).drive.requested = 0 ∧ (u.st n).drive.commanded = 0) ∧
        (∀ k, (s.st n).run.state = .idle → (s.st n).drive.commanded ≠ 0 → (s.st n).binding.drive = some k →
          s.appliance.health ≠ .isolated →
          Unsent u (.speedSet n) k (putU16 0 ++ [byteOf (dirCode (s.st n).drive.requestedDir)])) ∧
        (u.st n).run = (s.st n).run ∧ (u.st n).heat = (s.st n).heat ∧ u.arbiter = s.arbiter ∧
        u.notices = s.notices ∧ OnlyRuns s u n) ∧
    ((s.st n).drive.speedHold = none → exec (.speedHoldExpiry n) s = .next s) ∧
    ((s.st n).drive.heatHold ≠ none →
      ∃ u, exec (.heatHoldExpiry n) s = .next u ∧
        (u.st n).drive = { (s.st n).drive with manualHeat := 0, heatHold := none } ∧
        (u.st n).heat = { (s.st n).heat with
          demand := if (s.st n).run.state = .idle then 0 else (s.st n).heat.demand } ∧
        (u.st n).run = (s.st n).run ∧ u.notices = s.notices ∧ OnlyRuns s u n) ∧
    ((s.st n).drive.heatHold = none → exec (.heatHoldExpiry n) s = .next s)

/-- The unlock interlock: LID_SET UNLOCK is sent exactly when it is pending, the commanded speed is 0, the blade is known to be still,
the LID role is bound and the appliance port is not ISOLATED; the refresh repeats LOCK always and UNLOCK over a still blade alone
(R127, R129, R130). The spin-down timer's end sets spin-down elapsed and serves a pending unlock over a blade that is not commanded (R126,
R129); the refresh restarts its timer and re-sends the setpoints of the bound roles (R111, R118, R130). That the spin-down event
acts whenever its timer runs, and changes nothing where it does not, is the model's choice (DESIGN CHOICE,
notes/assumptions/2.md); the order of a refresh, and that a repeated LOCK keeps a pending unlock, is its reading (DEDUCED,
notes/assumptions/28.md). -/
def Obligations.UnlockInterlockAndRefresh : Prop :=
  (∀ (s : State) (n : StationId),
    (∀ k, (s.st n).drive.pendingUnlock = true → BladeStill s n → (s.st n).binding.lid = some k →
      s.appliance.health ≠ .isolated →
      testUnlock n s = originate (.lidSet n) k [1]
        (s.modDrive n (fun d => { d with lidCommand := some .unlock, pendingUnlock := false })) ∧
      Unsent (testUnlock n s) (.lidSet n) k [1]) ∧
    ((s.st n).drive.pendingUnlock = false ∨ ¬ BladeStill s n ∨ (s.st n).binding.lid = none ∨
        s.appliance.health = .isolated →
      testUnlock n s = s) ∧
    ((s.st n).drive.lidCommand = some .unlock → ¬ BladeStill s n → refreshLid n s = s) ∧
    (∀ k, (s.st n).drive.lidCommand = some .unlock → BladeStill s n → (s.st n).binding.lid = some k →
      refreshLid n s = originate (.lidSet n) k [1] s) ∧
    (∀ k, (s.st n).drive.lidCommand = some .lock → (s.st n).binding.lid = some k →
      refreshLid n s = originate (.lidSet n) k [0] s)) ∧
  ∀ (s : State) (n : StationId), s.inReset = false →
    ((s.st n).drive.spinDown = none → exec (.spinDownExpiry n) s = .next s) ∧
    ((s.st n).drive.spinDown ≠ none →
      ((s.st n).drive.pendingUnlock = false ∨ (s.st n).drive.commanded ≠ 0 ∨ (s.st n).binding.lid = none ∨
          s.appliance.health = .isolated →
        exec (.spinDownExpiry n) s =
          .next (s.modDrive n (fun d => { d with spinDown := none, spinDownElapsed := true }))) ∧
      (∀ k, (s.st n).drive.pendingUnlock = true → (s.st n).drive.commanded = 0 → (s.st n).binding.lid = some k →
        s.appliance.health ≠ .isolated →
        exec (.spinDownExpiry n) s = .next (originate (.lidSet n) k [1] (s.modDrive n (fun d =>
          { d with spinDown := none, spinDownElapsed := true, lidCommand := some .unlock
                   pendingUnlock := false }))))) ∧
    ∃ u, exec (.refreshExpiry n) s = .next u ∧
      (u.st n).drive.refreshTimer = (s.st n).limits.refresh ∧
      ((s.st n).drive.pendingUnlock = false →
        (u.st n).drive = { (s.st n).drive with refreshTimer := (s.st n).limits.refresh }) ∧
      (s.appliance.health ≠ .isolated →
        (∀ k, (s.st n).binding.drive = some k →
          Unsent u (.speedSet n) k
            (putU16 (s.st n).drive.commanded ++ [byteOf (dirCode (s.st n).drive.commandedDir)])) ∧
        (∀ k, (s.st n).binding.heater = some k → Unsent u (.heatSet n) k (putU16 (s.side n).grant)) ∧
        (∀ k, (s.st n).binding.lid = some k → (s.st n).drive.pendingUnlock = false →
          (s.st n).drive.lidCommand = some .lock → Unsent u (.lidSet n) k [0]) ∧
        (∀ k, (s.st n).binding.lid = some k → (s.st n).drive.lidCommand = some .unlock → BladeStill s n →
          Unsent u (.lidSet n) k [1])) ∧
      ((s.st n).binding.heater ≠ none → (u.side n).lastSent = some (s.side n).grant) ∧
      (u.st n).run = (s.st n).run ∧ (u.st n).heat = (s.st n).heat ∧ u.notices = s.notices ∧ OnlyRuns s u n

/-- What a delivered HEAT_STATE, DRIVE_STATE and LID_STATE do: the report is stored; a fault flag faults the station, or in FAULT
counts a further fault unless the report before carried it (R54); the draw reaches the arbiter; in every state a lid report
recomputes the envelope and the speed; a locked lid ends LOCKING, a closed one is sent LOCK, and a lost one pauses an ACTIVE LOCK
step (R28, R42, R92, R124, R125). Elapsed 0 for a fault in any LOCKING is the model's choice (DESIGN CHOICE,
notes/assumptions/36.md). -/
def Obligations.ReportsActOnTheStation : Prop :=
  ∀ (s : State) (n : StationId),
    (∀ (r : HeatReport) (v : State), v = s.modHeat n (fun h => { h with report := some r }) →
      (r.fault = false → takeHeatState n r s = v) ∧
      (r.fault = true → (s.st n).run.state ≠ .fault → FaultsFrom v (takeHeatState n r s) n .heaterFault 0) ∧
      (r.fault = true → (s.st n).run.state = .fault →
        ((∃ p, (s.st n).heat.report = some p ∧ p.fault = true) → takeHeatState n r s = v) ∧
        ((∀ p, (s.st n).heat.report = some p → p.fault = false) →
          takeHeatState n r s = setNotice (.fault n) (v.modRun n (fun x => { x with
            furtherFaults := satInc 255 x.furtherFaults, more := true }))))) ∧
    (∀ (r : DriveReport) (v u : State), v = s.modDrive n (fun d => { d with report := some r }) →
      u = takeDriveState n r s →
      (u.st n).drive.report = some r ∧ (u.side n).draw = r.draw ∧ OnlyRuns s u n ∧
      (r.fault = false → (u.st n).run = (s.st n).run ∧ (u.st n).heat = (s.st n).heat ∧ u.notices = s.notices) ∧
      (r.fault = true → (s.st n).run.state ≠ .fault → FaultsFrom v u n .driveFault 0) ∧
      (r.fault = true → (s.st n).run.state = .fault →
        ((∃ p, (s.st n).drive.report = some p ∧ p.fault = true) →
          (u.st n).run = (s.st n).run ∧ u.notices = s.notices) ∧
        ((∀ p, (s.st n).drive.report = some p → p.fault = false) →
          (u.st n).run = { (s.st n).run with
            furtherFaults := satInc 255 (s.st n).run.furtherFaults, more := true } ∧
          u.notices.bits = s.notices.bits ||| noticeMask (.fault n)))) ∧
    (∀ (r : LidReport) (u : State), u = takeLidState n r s →
      (u.st n).drive.lidReport = some r ∧ (u.st n).drive.envelope = u.envelopeOf n ∧
      (u.st n).drive.requested = (u.requestOf n).1 ∧
      (u.st n).drive.commanded = min (u.requestOf n).1 (u.st n).drive.envelope ∧ OnlyRuns s u n ∧
      ((s.st n).run.state ≠ .running ∨ (s.st n).run.phase = some .basing ∨
          (s.st n).run.phase = some .active ∧ (s.curStep n).lock = false →
        (u.st n).run = (s.st n).run ∧ (u.st n).heat = (s.st n).heat ∧ u.arbiter = s.arbiter ∧
        u.notices = s.notices) ∧
      ((s.st n).run.state = .running → (s.st n).run.phase = some .locking → (s.st n).binding.lid ≠ none →
        s.silent n .lid = false →
        (r.closed = true → r.locked = true → (s.st n).run.phaseAfterLock = some .active →
          (u.st n).run.phase = some .active ∧ (u.st n).run.deadline = none) ∧
        (r.closed = true → r.locked = true → (s.st n).run.phaseAfterLock = some .basing →
          (u.st n).run.phase = some .basing ∧ (u.st n).run.deadline = some 5000) ∧
        (r.closed = true → r.locked = false → (s.st n).run.deadline = none →
          (u.st n).run = { (s.st n).run with deadline := some 3000 } ∧
          (u.st n).drive.lidCommand = some .lock ∧ (u.st n).drive.pendingUnlock = false ∧
          (∀ k, (s.st n).binding.lid = some k → s.appliance.health ≠ .isolated → Unsent u (.lidSet n) k [0])) ∧
        (r.closed = true → r.locked = false → (s.st n).run.deadline ≠ none → (u.st n).run = (s.st n).run) ∧
        (r.closed = false → (u.st n).run = { (s.st n).run with deadline := none })) ∧
      ((s.st n).run.state = .running → (s.st n).run.phase = some .active → (s.curStep n).lock = true →
        (r.closed = false ∨ r.locked = false →
          (u.st n).run = { (s.st n).run with
            state := .paused, savedPhase := some .active, phase := none, pauseReason := some .lid
            flags := { (s.st n).run.flags with paused := true } } ∧
          u.notices.bits = s.notices.bits ||| noticeMask (.paused n) ∧ AtRest u n) ∧
        (r.closed = true → r.locked = true → (u.st n).run = (s.st n).run ∧ u.notices = s.notices)))

/-- A guarded setpoint for a node bound to its role does not cross: it is counted FORMAT, counted OWNED while the station is not
IDLE, and in IDLE becomes the manual demand with its hold; a setpoint for any other node is forwarded (R120 to R123). -/
def Obligations.GuardedSetpoints : Prop :=
  ∀ (s : State) (p : Port) (rc : RouteClass) (f : Frame) (role : Role) (n : StationId),
    (f.kind ≠ 4 → f.kind ≠ 5 → f.kind ≠ 6 → guardFrame p rc f s = forwardPart p rc f s) ∧
    ((f.kind = 4 ∧ role = .drive) ∨ (f.kind = 5 ∧ role = .heater) ∨ (f.kind = 6 ∧ role = .lid) →
    ((∀ m, (s.st m).binding.get role ≠ some f.dest) → guardFrame p rc f s = forwardPart p rc f s) ∧
    ((s.st n).binding.get role = some f.dest → (s.st (otherStation n)).binding.get role ≠ some f.dest →
      (f.kind = 4 → readSpeedSet f.payload = none → guardFrame p rc f s = countPort p .format s) ∧
      (f.kind = 5 → readHeatSet f.payload = none → guardFrame p rc f s = countPort p .format s) ∧
      (f.kind = 6 → readLidSet f.payload = none → guardFrame p rc f s = countPort p .format s) ∧
      ((f.kind = 4 ∧ readSpeedSet f.payload ≠ none ∨ f.kind = 5 ∧ readHeatSet f.payload ≠ none ∨
          f.kind = 6 ∧ readLidSet f.payload ≠ none) → (s.st n).run.state ≠ .idle →
        guardFrame p rc f s = countStation n .owned s) ∧
      ((s.st n).run.state = .idle →
        (∀ v d, f.kind = 4 → readSpeedSet f.payload = some (v, d) →
          ∀ u, u = guardFrame p rc f s → OnlyRuns s u n ∧ (u.st n).run = (s.st n).run ∧
            (u.st n).drive.manualSpeed = v ∧ (u.st n).drive.manualDir = d ∧
            (u.st n).drive.speedHold = some (s.st n).limits.manualHold ∧
            (u.st n).drive.commanded = min v (s.st n).drive.envelope) ∧
        (∀ w, f.kind = 5 → readHeatSet f.payload = some w →
          ∀ u, u = guardFrame p rc f s → OnlyRuns s u n ∧ (u.st n).run = (s.st n).run ∧
            (u.st n).drive = { (s.st n).drive with
              manualHeat := min w (s.st n).limits.pmax, heatHold := some (s.st n).limits.manualHold }) ∧
        (∀ k, f.kind = 6 → readLidSet f.payload = some .lock → (s.st n).binding.lid = some k →
          guardFrame p rc f s = originate (.lidSet n) k [0] (s.modDrive n (fun d =>
            { d with manualLid := some .lock, lidCommand := some .lock, pendingUnlock := false }))) ∧
        (f.kind = 6 → readLidSet f.payload = some .unlock →
          ∀ u, u = guardFrame p rc f s → OnlyRuns s u n ∧ (u.st n).run = (s.st n).run ∧ UnlockAsked u n ∧
            (u.st n).drive.manualLid = some .unlock))))

/-! ### Nodes (chapter 7) -/

/-- Admission by source and arrival port: the part's own number and 31 clash; an unknown source is learned where there is
room; a known source on its port is heard; a STATIC source on the other port conflicts and a LEARNED one moves, or leaves
where there is no room (R133 to R136). A silent node that is heard again loses its flag, and its station acts by role: the spin-down
wait ends, the counted demand returns, or the envelope is recomputed from the kept report (R107, R126, R141). The flag says whether the frame is admitted. -/
def Obligations.AdmissionBySource : Prop :=
  ∀ (s : State) (p : Port) (k : NodeId),
    (k = s.ownNode ∨ k = 31 → admitSource p k s = (countPort p .idClash s, false)) ∧
    (k ≠ s.ownNode → k ≠ 31 →
      (s.nodeIndex k = none →
        ((s.port p).cfg.admission = .closed → admitSource p k s = (countPort p .admission s, false)) ∧
        ((s.port p).cfg.admission ≠ .closed →
          (∀ i, s.firstFree i → s.room p →
            admitSource p k s = (s.setEntry i (some ⟨k, p, .learned, 0, 0, false⟩), true)) ∧
          ((∀ i, i < 16 → s.entryAt i ≠ none) ∨ ¬ s.room p →
            ((s.port p).cfg.admission = .opened → admitSource p k s = (s, true)) ∧
            ((s.port p).cfg.admission = .guarded → admitSource p k s = (countPort p .admission s, false))))) ∧
      (∀ i e, s.nodeIndex k = some i → s.entryAt i = some e →
        (e.port = p →
          (admitSource p k s).2 = true ∧ (admitSource p k s).1.entryAt i = some { e with age := 0, silent := false } ∧
          (e.silent = false → (admitSource p k s).1 = s.setEntry i (some { e with age := 0 })) ∧
          (∀ v u, e.silent = true → v = s.setEntry i (some { e with age := 0, silent := false }) →
            u = (admitSource p k s).1 →
            ((∀ n r, (s.st n).binding.get r ≠ some k) → u = v) ∧
            (∀ n r, (∀ m q, (s.st m).binding.get q = some k ↔ m = n ∧ q = r) →
              (r = .drive → u = v.modDrive n (fun d => { d with spinDown := none, spinDownElapsed := false })) ∧
              (r = .heater → (u.side n).counted = (s.st n).heat.demand ∧
                (u.side (otherStation n)).counted = (s.side (otherStation n)).counted ∧ ArbiterFollows u ∧
                (∀ m, u.st m = s.st m) ∧ u.notices = s.notices) ∧
              (r = .weigh ∨ r = .thermo → u = v) ∧
              (r = .lid → (u.st n).drive.envelope = u.envelopeOf n ∧
                (u.st n).drive.requested = (u.requestOf n).1 ∧
                (u.st n).drive.commanded = min (u.requestOf n).1 (u.st n).drive.envelope ∧
                (u.st n).drive.lidReport = (s.st n).drive.lidReport ∧ (u.st n).run = (s.st n).run ∧
                (u.st n).heat = (s.st n).heat ∧ u.arbiter = s.arbiter ∧ u.notices = s.notices ∧ OnlyRuns v u n)))) ∧
        (e.port ≠ p → e.origin = .static → admitSource p k s = (countPort p .portConflict s, false)) ∧
        (e.port ≠ p → e.origin = .learned →
          ((s.port p).cfg.admission = .closed → admitSource p k s = (countPort p .admission s, false)) ∧
          ((s.port p).cfg.admission ≠ .closed → s.room p →
            admitSource p k s = (s.setEntry i (some ⟨k, p, .learned, 0, 0, false⟩), true)) ∧
          ((s.port p).cfg.admission = .guarded → ¬ s.room p →
            admitSource p k s = (countPort p .admission s, false)) ∧
          ((s.port p).cfg.admission = .opened → ¬ s.room p →
            admitSource p k s = (((s.setEntry i none).modSt .zero (freeLock e.number)).modSt .one (freeLock e.number),
              true)))))

/-- NODE_WRITE: its checks, the entry it leaves for each case of the table of R142, the index in its reply, and the silence
that is due at once (R142, R139). -/
def Obligations.NodeWriteTable : Prop :=
  ∀ (s : State) (q : NodeId) (tag kb pb lo hi : Byte) (c : Instr), c = .nodeWrite q tag [kb, pb, lo, hi] →
    AtHead c s →
    (30 < kb.toNat ∨ kb.setWidth 5 = s.ownNode → Answers c s (refuse .badValue 0) s) ∧
    (kb.toNat ≤ 30 → kb.setWidth 5 ≠ s.ownNode →
      (portOf pb = none → Answers c s (refuse .badValue 1) s) ∧
      ∀ p, portOf pb = some p →
        (u16 lo hi ≠ 0 → u16 lo hi < 20 ∨ 2000 < u16 lo hi ∨ u16 lo hi % 10 ≠ 0 →
          Answers c s (refuse .badValue 2) s) ∧
        (u16 lo hi = 0 ∨ 20 ≤ u16 lo hi ∧ u16 lo hi ≤ 2000 ∧ u16 lo hi % 10 = 0 →
          (∀ i e, s.nodeIndex (kb.setWidth 5) = some i → s.entryAt i = some e →
            (∀ n r, s.boundAs (kb.setWidth 5) = some (n, r) → e.port ≠ p →
              Answers c s (refuse .wrongState (10 * stationNo n + roleNo r)) s) ∧
            (s.boundAs (kb.setWidth 5) = none ∨ e.port = p →
              (¬ (e.rewritten p (u16 lo hi)).due →
                Answers c s (done [byteOf i]) (s.setEntry i (some (e.rewritten p (u16 lo hi))))) ∧
              ((e.rewritten p (u16 lo hi)).due → ∀ v, v = setNotice .nodeSilent
                  (s.setEntry i (some { e.rewritten p (u16 lo hi) with silent := true })) →
                (s.boundAs (kb.setWidth 5) = none → Answers c s (done [byteOf i]) v) ∧
                (∀ n r, s.boundAs (kb.setWidth 5) = some (n, r) →
                  Answers c s (done [byteOf i]) (roleSilent n r v))))) ∧
          (s.nodeIndex (kb.setWidth 5) = none →
            ((∀ i, i < 16 → s.entryAt i ≠ none) → Answers c s (refuse .full 0) s) ∧
            (∀ i, s.firstFree i →
              Answers c s (done [byteOf i])
                (s.setEntry i (some ⟨kb.setWidth 5, p, .static, 0, u16 lo hi, false⟩))))))

/-- NODE_DELETE removes an unbound node's entry with its locks (R143, R16), NODE_READ returns an entry by index and changes
nothing (R144), and NODE_FLUSH removes every LEARNED entry, reports their number and frees their nodes' locks (R145). -/
def Obligations.NodeDeleteReadFlush : Prop :=
  ∀ (s : State) (q : NodeId) (tag kb : Byte),
    (AtHead (.nodeDelete q tag [kb]) s →
      (30 < kb.toNat ∨ kb.setWidth 5 = s.ownNode →
        Answers (.nodeDelete q tag [kb]) s (refuse .badValue 0) s) ∧
      (kb.toNat ≤ 30 → kb.setWidth 5 ≠ s.ownNode →
        (s.nodeIndex (kb.setWidth 5) = none → Answers (.nodeDelete q tag [kb]) s (refuse .notKnown 0) s) ∧
        (∀ i e, s.nodeIndex (kb.setWidth 5) = some i → s.entryAt i = some e →
          (∀ n r, s.boundAs (kb.setWidth 5) = some (n, r) →
            Answers (.nodeDelete q tag [kb]) s (refuse .wrongState (10 * stationNo n + roleNo r)) s) ∧
          (s.boundAs (kb.setWidth 5) = none →
            Answers (.nodeDelete q tag [kb]) s (done [])
              (((s.setEntry i none).modSt .zero (freeLock e.number)).modSt .one (freeLock e.number)))))) ∧
    (AtHead (.nodeRead q tag [kb]) s →
      (15 < kb.toNat → Answers (.nodeRead q tag [kb]) s (refuse .badValue 0) s) ∧
      (kb.toNat ≤ 15 → s.entryAt kb.toNat = none → Answers (.nodeRead q tag [kb]) s (done []) s) ∧
      (∀ e, kb.toNat ≤ 15 → s.entryAt kb.toNat = some e →
        Answers (.nodeRead q tag [kb]) s ⟨.done, 1,
          [e.number.setWidth 8, byteOf (portCode e.port), byteOf (originCode e.origin)] ++ putU16 e.age ++
          putU16 e.limit ++ [if e.silent then 1 else 0,
            match s.boundAs e.number with
            | some (n, r) => byteOf (10 * stationNo n + roleNo r)
            | none => 255]⟩ s)) ∧
    (AtHead (.nodeFlush q tag []) s →
      ∃ u, Answers (.nodeFlush q tag []) s
          (done [byteOf (s.learnedCount .control + s.learnedCount .appliance)]) u ∧
        (∀ i, (∀ e, s.entryAt i = some e → e.origin = .learned → u.entryAt i = none) ∧
          (∀ e, s.entryAt i = some e → e.origin = .static → u.entryAt i = some e) ∧
          (s.entryAt i = none → u.entryAt i = none)) ∧
        u.learnedCount .control = 0 ∧ u.learnedCount .appliance = 0 ∧
        (∀ n k, (s.st n).lockHolder = some k →
          ((∃ i e, s.entryAt i = some e ∧ e.number = k ∧ e.origin = .learned) → (u.st n).lockHolder = none) ∧
          (¬ (∃ i e, s.entryAt i = some e ∧ e.number = k ∧ e.origin = .learned) →
            (u.st n).lockHolder = some k)) ∧
        (∀ n, (s.st n).lockHolder = none → u.st n = s.st n) ∧
        (∀ n, (u.st n).binding = (s.st n).binding ∧ (u.st n).run = (s.st n).run) ∧
        u.control = s.control ∧ u.appliance = s.appliance ∧ u.notices = s.notices)

/-- A LEARNED entry whose age has reached AGE_LIMIT × 100 is removed with its node's locks (R138, R16), and a STATIC entry whose age
has reached its silence limit is marked silent, sets NODE_SILENT and tells the bound station, which acts by role (R70, R101, R102,
R126, R139, R140, R51). An entry that was heard first has a lower age, and the event does not happen. That an event which does not
happen changes nothing, and that it names an index, is the model's choice (DESIGN CHOICE, notes/assumptions/2.md, 3.md and
20.md). -/
def Obligations.AgingAndSilence : Prop :=
  ∀ (s : State) (i : Nat) (e : NodeEntry), s.inReset = false → s.entryAt i = some e →
    (e.origin = .learned →
      (s.ageLimit * 100 ≤ e.age → exec (.agingRemoval i) s =
        .next (((s.setEntry i none).modSt .zero (freeLock e.number)).modSt .one (freeLock e.number))) ∧
      (e.age < s.ageLimit * 100 → exec (.agingRemoval i) s = .next s) ∧
      exec (.nodeBecomesSilent i) s = .next s) ∧
    (e.origin = .static → exec (.agingRemoval i) s = .next s) ∧
    (e.origin = .static → e.limit = 0 ∨ e.silent = true ∨ e.age < e.limit / 10 →
      exec (.nodeBecomesSilent i) s = .next s) ∧
    (e.origin = .static → e.limit ≠ 0 → e.silent = false → e.limit / 10 ≤ e.age →
      ∀ v, v = setNotice .nodeSilent (s.setEntry i (some { e with silent := true })) →
      (s.boundAs e.number = none → exec (.nodeBecomesSilent i) s = .next v) ∧
      ∀ n r, s.boundAs e.number = some (n, r) →
        ∃ u, exec (.nodeBecomesSilent i) s = .next u ∧ u.nodes = v.nodes ∧
          u.st (otherStation n) = s.st (otherStation n) ∧
          (r = .drive →
            (u.st n).drive.spinDown = some 5000 ∧
            ((s.st n).run.state = .idle →
              (u.st n).drive.manualSpeed = 0 ∧ (u.st n).drive.speedHold = none ∧
              (u.st n).drive.commanded = 0 ∧ (u.st n).run = (s.st n).run) ∧
            ((s.st n).run.state ≠ .idle → (s.st n).run.state ≠ .fault →
              (u.st n).run.state = .fault ∧ (u.st n).run.faultCause = some .driveSilent)) ∧
          (r = .heater → u.silent n .heater = true →
            (u.side n).counted = 0 ∧
            ((s.st n).run.state = .warming ∨
                (s.st n).run.state = .running ∧ heating (s.heatTarget n) = true →
              (u.st n).run.state = .fault ∧ (u.st n).run.faultCause = some .heaterSilent) ∧
            ((s.st n).run.state = .idle ∨ (s.st n).run.state = .paused → (u.st n).run = (s.st n).run)) ∧
          (r = .weigh →
            (u.st n).weigh.stale = true ∧ (u.st n).weigh.ring = [] ∧ (u.st n).weigh.settled = false ∧
            (u.st n).weigh.op = .none ∧
            ((s.st n).weigh.op = .taring → (u.st n).weigh.lastTare = some .stale) ∧
            ((s.st n).run.state = .running →
              (s.st n).run.phase = some .basing ∨ (s.curStep n).endWeight = true →
              (u.st n).run.state = .fault ∧ (u.st n).run.faultCause = some .weighSilent) ∧
            ((s.st n).run.state = .idle ∨ (s.st n).run.state = .paused ∨ (s.st n).run.state = .warming →
              (u.st n).run = (s.st n).run)) ∧
          (r = .thermo →
            (u.st n).heat.integral = 0 ∧ (u.st n).heat.demand = 0 ∧ (u.st n).heat.reached = false ∧
            ((s.st n).run.state = .idle →
              (u.st n).drive.manualHeat = 0 ∧ (u.st n).drive.heatHold = none ∧ (u.st n).run = (s.st n).run) ∧
            ((s.st n).run.state = .warming ∨
                (s.st n).run.state = .running ∧ heating (s.heatTarget n) = true →
              (u.st n).run.state = .fault ∧ (u.st n).run.faultCause = some .thermoSilent)) ∧
          (r = .lid →
            (u.st n).drive.envelope = u.envelopeOf n ∧
            ((s.st n).run.state = .running → (s.st n).run.phase = some .active → (s.curStep n).lock = true →
              (u.st n).run.state = .paused ∧ (u.st n).run.pauseReason = some .lid ∧
              (u.st n).run.savedPhase = some .active) ∧
            ((s.st n).run.state = .running → (s.st n).run.phase = some .locking →
              (u.st n).run = { (s.st n).run with deadline := none }) ∧
            ((s.st n).run.state ≠ .running → (u.st n).run = (s.st n).run)) ∧
          ((s.st n).run.state = .fault → r ≠ .lid →
            (u.st n).run = { (s.st n).run with
              furtherFaults := satInc 255 (s.st n).run.furtherFaults, more := true }))

/-! ### Routing, buffers and queues (chapter 8) -/

/-- The action and class of an admitted frame are those of the enabled entry of lowest index whose port, kind, source and
destination match, and else the default action with the class by priority (R147, R148, R153). An arriving frame (R154): the port's
own counts move first (R171, R175, R179); the frame counts as received; with no free transit buffer it is lost as NO_BUFFER with
DROPS set; a frame the node table turns away goes no further; an admitted frame meets the parts of its action. That the port's own
part comes first is the model's reading (DEDUCED, notes/assumptions/9.md), and that a joining or sending port hears nothing, and
another needs no start mark before the arrival, is its choice (DESIGN CHOICE, notes/assumptions/3.md and 11.md). -/
def Obligations.ArrivalInOrder : Prop :=
  (∀ (s : State) (p : Port) (f : Frame),
     (∀ (i : Nat) (e : RouteEntry), s.routes[i]? = some e → e.enable = true →
       (e.arrival = .either ∨ e.arrival = .control ∧ p = .control ∨ e.arrival = .appliance ∧ p = .appliance) →
       f.kind &&& e.kindMask = e.kindValue &&& e.kindMask → f.source &&& e.sourceMask = e.sourceValue &&& e.sourceMask →
       f.dest &&& e.destMask = e.destValue &&& e.destMask →
       (∀ j d, j < i → s.routes[j]? = some d → d.accepts p f = false) →
       s.classify p f = (e.action, e.cls)) ∧
     ((∀ (i : Nat) (e : RouteEntry), s.routes[i]? = some e → e.accepts p f = false) →
       s.classify p f = (if s.defaultForward then .forward else .drop, .byPriority)) ∧
     (resolveClass .byPriority f = if f.priority.toNat ≤ 1 then .urgent else if f.priority.toNat ≤ 4 then .control
       else .bulk) ∧
     ∀ c, resolveClass (.fixed c) f = c) ∧
  (∀ (s s1 : State) (p : Port) (f : Frame), s.inReset = false → f.payload.length ≤ 16 →
     ((s.port p).health = .joining ∨ (s.port p).engine ≠ [] → exec (.frameArrival p f) s = .next s) ∧
     ((s.port p).health ≠ .joining → (s.port p).engine = [] →
       s1 = countPort p .received (goodFrameAt p s) →
       (s1.held .control + s1.held .appliance = 48 →
         exec (.frameArrival p f) s = .next (setNotice .drops (countPort p .noBuffer s1))) ∧
       (s1.held .control + s1.held .appliance < 48 →
         ((admitSource p f.source s1).2 = false →
           exec (.frameArrival p f) s = .next (updateDropMode p (admitSource p f.source s1).1)) ∧
         (∀ v cls, v = (admitSource p f.source s1).1 → (admitSource p f.source s1).2 = true →
           (v.classify p f = (.forward, cls) →
             exec (.frameArrival p f) s = .next (updateDropMode p (forwardPart p cls f v))) ∧
           (v.classify p f = (.drop, cls) →
             exec (.frameArrival p f) s = .next (updateDropMode p (countPort p .route v))) ∧
           (v.classify p f = (.take, cls) →
             exec (.frameArrival p f) s = .next (updateDropMode p (takePart p f true v))) ∧
           (v.classify p f = (.takeAndForward, cls) →
             exec (.frameArrival p f) s =
               .next (updateDropMode p (forwardPart p cls f (takePart p f false v)))) ∧
           (v.classify p f = (.guard, cls) →
             exec (.frameArrival p f) s = .next (updateDropMode p (guardFrame p cls f v)))))))

/-- The forward part: local filtering, the drop mode on BULK, isolation, or the tail of the frame's class queue (R148, R151,
R156, R162, R165). The take part: FORMAT, UNBOUND and ROLE_MISMATCH, the delivery of a sample or report to the station that has
its source in the role, and a request's place in the queue (R149, R182). That a misaddressed request counts ROUTE also when it is too
short is the model's reading (DEDUCED, notes/assumptions/15.md). -/
def Obligations.ForwardAndTakeParts : Prop :=
  ∀ (s : State) (p : Port) (rc : RouteClass) (f : Frame) (counts : Bool),
    (f.dest = s.ownNode ∨ (∃ e, s.nodeEntry f.dest = some e ∧ e.port = p) →
      forwardPart p rc f s = countPort p .localDrop s) ∧
    (f.dest ≠ s.ownNode → (∀ e, s.nodeEntry f.dest = some e → e.port ≠ p) →
      (resolveClass rc f = .bulk → (s.port p).dropMode = true →
        forwardPart p rc f s = setNotice .drops (countPort p .buffer s)) ∧
      (resolveClass rc f ≠ .bulk ∨ (s.port p).dropMode = false →
        ((s.port (otherPort p)).health = .isolated →
          forwardPart p rc f s = countPort (otherPort p) .isolationDrop s) ∧
        ((s.port (otherPort p)).health ≠ .isolated →
          forwardPart p rc f s = s.modPort (otherPort p) (fun q =>
            q.modQueue (resolveClass rc f) (fun l => l ++ [⟨f, .transit p, resolveClass rc f⟩]))))) ∧
    (∀ role, f.kind = 12 ∧ role = .weigh ∧ f.payload.length = 13 ∨ f.kind = 13 ∧ role = .thermo ∧ f.payload.length = 3 ∨
        f.kind = 8 ∧ role = .drive ∧ f.payload.length = 5 ∨ f.kind = 9 ∧ role = .heater ∧ f.payload.length = 3 ∨
        f.kind = 10 ∧ role = .lid ∧ f.payload.length = 1 →
      (s.boundAs f.source = none → takePart p f counts s = countPort p .unbound s) ∧
      (∀ n r, s.boundAs f.source = some (n, r) → r ≠ role → takePart p f counts s = countPort p .roleMismatch s) ∧
      (∀ n, s.boundAs f.source = some (n, role) →
        (∀ x, role = .weigh → readWeighSample f.payload = some x → takePart p f counts s = takeWeighSample n x s) ∧
        (∀ t e, role = .thermo → readThermoSample f.payload = some (t, e) →
          takePart p f counts s = takeThermoSample n t e s) ∧
        (∀ x, role = .drive → readDriveState f.payload = some x → takePart p f counts s = takeDriveState n x s) ∧
        (∀ x, role = .heater → readHeatState f.payload = some x → takePart p f counts s = takeHeatState n x s) ∧
        (∀ x, role = .lid → readLidState f.payload = some x → takePart p f counts s = takeLidState n x s))) ∧
    (f.kind = 12 ∧ f.payload.length ≠ 13 ∨ f.kind = 13 ∧ f.payload.length ≠ 3 ∨ f.kind = 8 ∧ f.payload.length ≠ 5 ∨
        f.kind = 9 ∧ f.payload.length ≠ 3 ∨ f.kind = 10 ∧ f.payload.length ≠ 1 →
      takePart p f counts s = countPort p .format s) ∧
    (f.kind = 16 → p = .appliance ∨ f.dest ≠ s.ownNode → takePart p f counts s = countPort p .route s) ∧
    (f.kind = 16 → p = .control → f.dest = s.ownNode →
      (f.payload.length < 2 → takePart p f counts s = countPort p .format s) ∧
      (∀ code tag args, f.payload = code :: tag :: args →
        (s.requests.length < 3 → takePart p f counts s =
          { s with requests := s.requests ++ [⟨code, tag, f.source, args⟩] }) ∧
        (3 ≤ s.requests.length → takePart p f counts s = countPort p .mgmtOverflow s)))

/-- ROUTE_WRITE replaces an entry after checking its fields in order, ROUTE_READ returns one byte by byte as ROUTE_WRITE takes it,
and ROUTE_DEFAULT sets or reads the default action (R152, R153, sections 8.1 and 11.4). -/
def Obligations.RouteRequests : Prop :=
  (∀ b : Byte, arrivalOf b = [ArrivalMatch.control, .appliance, .either][b.toNat]? ∧
    actionOf b = [RouteAction.forward, .drop, .take, .takeAndForward, .guard][b.toNat]? ∧
    classOf b = [RouteClass.fixed .urgent, .fixed .control, .fixed .bulk, .byPriority][b.toNat]?) ∧
  ∀ (s : State) (q : NodeId) (tag i pt kv km sv sm dv dm act cls en : Byte) (c : Instr),
    (c = .routeWrite q tag [i, pt, kv, km, sv, sm, dv, dm, act, cls, en] → AtHead c s →
      (23 < i.toNat → Answers c s (refuse .badValue 0) s) ∧
      (i.toNat ≤ 23 →
        (∀ k, (k = 1 ∧ 2 < pt.toNat ∨
            2 ≤ k ∧ k ≤ 7 ∧ pt.toNat ≤ 2 ∧ (∃ b, [kv, km, sv, sm, dv, dm][k - 2]? = some b ∧ 31 < b.toNat) ∧
              (∀ j b, j + 2 < k → [kv, km, sv, sm, dv, dm][j]? = some b → b.toNat ≤ 31) ∨
            k = 8 ∧ pt.toNat ≤ 2 ∧ (∀ b ∈ [kv, km, sv, sm, dv, dm], b.toNat ≤ 31) ∧ 4 < act.toNat ∨
            k = 9 ∧ pt.toNat ≤ 2 ∧ (∀ b ∈ [kv, km, sv, sm, dv, dm], b.toNat ≤ 31) ∧ act.toNat ≤ 4 ∧
              3 < cls.toNat) →
          Answers c s (refuse .badValue k) s) ∧
        (∀ e : RouteEntry, arrivalOf pt = some e.arrival → actionOf act = some e.action →
          classOf cls = some e.cls → (∀ b ∈ [kv, km, sv, sm, dv, dm], b.toNat ≤ 31) →
          e.enable = en.getLsbD 0 → e.kindValue = kv.setWidth 5 → e.kindMask = km.setWidth 5 →
          e.sourceValue = sv.setWidth 5 → e.sourceMask = sm.setWidth 5 → e.destValue = dv.setWidth 5 →
          e.destMask = dm.setWidth 5 →
          Answers c s (done []) { s with routes := s.routes.setIfInBounds i.toNat e }))) ∧
    (c = .routeRead q tag [i] → AtHead c s →
      (23 < i.toNat → Answers c s (refuse .badValue 0) s) ∧
      (∀ (e : RouteEntry) (b1 b8 b9 : Byte), s.routes[i.toNat]? = some e → arrivalOf b1 = some e.arrival →
        actionOf b8 = some e.action → classOf b9 = some e.cls →
        Answers c s (done [b1, e.kindValue.setWidth 8, e.kindMask.setWidth 8, e.sourceValue.setWidth 8,
          e.sourceMask.setWidth 8, e.destValue.setWidth 8, e.destMask.setWidth 8, b8, b9,
          if e.enable then 1 else 0]) s)) ∧
    (c = .routeDefaultWrite q tag [i] → AtHead c s →
      (i = 0 → Answers c s (done [0]) { s with defaultForward := true }) ∧
      (i = 1 → Answers c s (done [1]) { s with defaultForward := false }) ∧
      (1 < i.toNat → Answers c s (refuse .badValue 1) s)) ∧
    (c = .routeDefaultRead q tag [] → AtHead c s → Answers c s (done [if s.defaultForward then 0 else 1]) s)

/-- An origination is dropped and counted on an ISOLATED port, rewrites the unsent frame of a coalesced kind in its place, and
else joins the tail of its class queue; nothing else changes (R158, R160, R161, R165). A NOTICE-raising bit is set and
gathered once, and only an enabled one raises a NOTICE with the set and newly set bits (R187, R188). A step end sets STEP_END_n,
originates its STEP_REPORT byte by byte, within the cap of four, and keeps the report (R36, R46, R53, R56, R161, R191, R197).
Elapsed 0 for a step skipped or faulted in any LOCKING is the model's choice (DESIGN CHOICE, notes/assumptions/36.md). -/
def Obligations.OriginationsJoinOrRewrite : Prop :=
  ∀ (s : State) (k : OwnKind) (dest : NodeId) (pl : List Byte) (b : NoticeBit),
    ((s.port k.port).health = .isolated → originate k dest pl s = countPort k.port .isolationDrop s) ∧
    ((s.port k.port).health ≠ .isolated →
      (k.coalesced = false ∨ (∀ e ∈ (s.port k.port).queue k.cls, e.origin ≠ .own k) →
        originate k dest pl s = s.modPort k.port (fun q => q.modQueue k.cls (fun l =>
          l ++ [⟨ownFrame s.ownNode k dest pl, .own k, k.cls⟩]))) ∧
      (∀ l1 e l2, k.coalesced = true → (s.port k.port).queue k.cls = l1 ++ e :: l2 → e.origin = .own k →
        (∀ x ∈ l1, x.origin ≠ .own k) →
        originate k dest pl s = s.modPort k.port (fun q => q.modQueue k.cls (fun _ =>
          l1 ++ ({ e with frame := ownFrame s.ownNode k dest pl } : Queued) :: l2)))) ∧
    (s.notices.bits &&& noticeMask b ≠ 0 → setNotice b s = s) ∧
    (s.notices.bits &&& noticeMask b = 0 →
      (s.notices.enables &&& noticeMask b = 0 →
        setNotice b s = { s with notices := { s.notices with bits := s.notices.bits ||| noticeMask b } }) ∧
      (s.notices.enables &&& noticeMask b ≠ 0 →
        setNotice b s = originate .notice 31
          (putBits ((s.notices.bits ||| noticeMask b) &&& s.notices.enables) ++
            putBits (s.notices.accumulator ||| noticeMask b))
          { s with notices := { s.notices with
              bits := s.notices.bits ||| noticeMask b
              accumulator := s.notices.accumulator ||| noticeMask b } })) ∧
    (∀ (n : StationId) (r : StepReport),
      (s.control.health = .isolated → originateStepReport n r s = countPort .control .isolationDrop s) ∧
      (s.control.health ≠ .isolated → 4 ≤ s.stepReportsHeld →
        originateStepReport n r s = countStation n .reportLost s) ∧
      (s.control.health ≠ .isolated → s.stepReportsHeld < 4 →
        originateStepReport n r s = s.modPort .control (fun q => { q with
          control := q.control ++ [⟨ownFrame s.ownNode (.stepReport n) 31
            ([if n = .zero then 0 else 1, byteOf r.step, byteOf (outcomeCode r.outcome)] ++ putU24 r.elapsed ++
              putS24 r.net ++ putS24 (r.added.getD 0) ++ putS16 (r.bowl.getD 0) ++
              [flagByte [r.flags.baseUnsettled, r.flags.adjusted, r.flags.paused, r.stale, r.added.isSome,
                r.bowl.isSome]]), .own (.stepReport n), .control⟩] }))) ∧
    (∀ (n : StationId) (o : StepOutcome) (r : StepReport), r = (s.st n).endReport o
        (if o = .skipped ∨ o = .faulted then (s.st n).cutElapsed else (s.st n).run.elapsed) →
      endStep n o s = (originateStepReport n r (setNotice (.stepEnd n) s)).modRun n (fun x => { x with
        lastReport := some r, speedOverride := none, tempOverride := none, extension := 0, doseBase := none
        deadline := none }))

/-- A transmission starts after the interframe gap with the frame the scheduler chooses: URGENT first, then CONTROL and BULK by
their credits, reloaded when both are spent with both queues filled (R163, R169). That the command carries the gap, and starts
nothing where an attempt cannot start, is the model's choice (DESIGN CHOICE, notes/assumptions/3.md and 13.md); that the frame is
out of its queue while it contends is its reading (DEDUCED, notes/assumptions/12.md). -/
def Obligations.SchedulerChoosesFrame : Prop :=
  ∀ (s : State) (p : Port) (gap : Nat) (q : PortState), s.inReset = false → q = s.port p →
    ((q.health = .joining ∨ q.health = .isolated ∨ q.activity ≠ .idle ∨ gap < 8 ∨
        q.health = .passive ∧ q.wasTransmitter = true ∧ gap < 16) →
      exec (.transmissionStart p gap) s = .next s) ∧
    ((q.health = .active ∨ q.health = .passive) → q.activity = .idle → 8 ≤ gap →
      (q.health = .active ∨ q.wasTransmitter = false ∨ 16 ≤ gap) →
      (q.urgent = [] → q.control = [] → q.bulk = [] → exec (.transmissionStart p gap) s = .next s) ∧
      (∀ e rest, q.urgent = e :: rest →
        exec (.transmissionStart p gap) s = .next (s.modPort p (fun q =>
          { q with urgent := rest, activity := .contending e, errorMark := none, voided := false }))) ∧
      (∀ e rest, q.urgent = [] → q.control = e :: rest → q.bulk = [] →
        exec (.transmissionStart p gap) s = .next (s.modPort p (fun q =>
          { q with control := rest, activity := .contending e, errorMark := none, voided := false }))) ∧
      (∀ e rest, q.urgent = [] → q.control = [] → q.bulk = e :: rest →
        exec (.transmissionStart p gap) s = .next (s.modPort p (fun q =>
          { q with bulk := rest, activity := .contending e, errorMark := none, voided := false }))) ∧
      (∀ e rest d more, q.urgent = [] → q.control = e :: rest → q.bulk = d :: more →
        (0 < q.creditControl →
          exec (.transmissionStart p gap) s = .next (s.modPort p (fun q =>
            { q with control := rest, activity := .contending e, errorMark := none, voided := false }))) ∧
        (q.creditControl = 0 → 0 < q.creditBulk →
          exec (.transmissionStart p gap) s = .next (s.modPort p (fun q =>
            { q with bulk := more, activity := .contending d, errorMark := none, voided := false }))) ∧
        (q.creditControl = 0 → q.creditBulk = 0 → 0 < q.cfg.wc →
          exec (.transmissionStart p gap) s = .next (s.modPort p (fun q =>
            { q with control := rest, activity := .contending e, errorMark := none, voided := false
                     creditControl := q.cfg.wc, creditBulk := q.cfg.wb })))))

/-! ### The station link (chapter 9) -/

/-- Arbitration: a lower triple wins, the loser's frame returns to the head of its class queue with no credit spent, taking the
contents of a newer frame of its coalesced kind, or leaving when its node is no longer bound; the winner's transmission starts
with its credit spent, and a NOTICE empties the accumulator (R163, R164, R170, R188). That a triple which is not lower is no loss is
the model's choice (DESIGN CHOICE, notes/assumptions/13.md), and so is that the triple alone is compared (notes/assumptions/34.md);
that the frame is out of its queue meanwhile is its reading (DEDUCED, notes/assumptions/12.md). -/
def Obligations.ArbitrationLostOrWon : Prop :=
  ∀ (s : State) (p : Port) (e : Queued) (w : ArbKey), s.inReset = false → (s.port p).activity = .contending e →
    (arbOrder (Frame.arbKey e.frame) ≤ arbOrder w → exec (.lostArbitration p w) s = .next s) ∧
    (arbOrder w < arbOrder (Frame.arbKey e.frame) →
      (∀ a, e.origin = .transit a →
        exec (.lostArbitration p w) s = .next (s.modPort p (fun q =>
          { q.modQueue e.cls (fun l => e :: l) with
            activity := .receiving, wasTransmitter := false, counters := bump q.counters 4 }))) ∧
      (∀ k, e.origin = .own k →
          k.coalesced = false ∨ setpointRole k = none ∧ (∀ y ∈ (s.port p).queue e.cls, y.origin ≠ .own k) →
        exec (.lostArbitration p w) s = .next (s.modPort p (fun q =>
          { q.modQueue e.cls (fun l => e :: l) with
            activity := .receiving, wasTransmitter := false, counters := bump q.counters 4 }))) ∧
      (∀ k l1 x l2, e.origin = .own k → k.coalesced = true → (s.port p).queue e.cls = l1 ++ x :: l2 →
        x.origin = .own k → (∀ y ∈ l1, y.origin ≠ .own k) →
        exec (.lostArbitration p w) s = .next (s.modPort p (fun q =>
          { q.modQueue e.cls (fun _ => ({ e with frame := x.frame } : Queued) :: (l1 ++ l2)) with
            activity := .receiving, wasTransmitter := false, counters := bump q.counters 4 }))) ∧
      (∀ k n r, e.origin = .own k → setpointRole k = some (n, r) →
        (∀ y ∈ (s.port p).queue e.cls, y.origin ≠ .own k) →
        ((s.st n).binding.get r = some e.frame.dest →
          exec (.lostArbitration p w) s = .next (s.modPort p (fun q =>
            { q.modQueue e.cls (fun l => e :: l) with
              activity := .receiving, wasTransmitter := false, counters := bump q.counters 4 }))) ∧
        ((s.st n).binding.get r ≠ some e.frame.dest →
          exec (.lostArbitration p w) s = .next (s.modPort p (fun q =>
            { q with
              activity := .receiving, wasTransmitter := false, counters := bump q.counters 4 }))))) ∧
    (e.origin ≠ .own .notice →
      exec (.wonArbitration p) s = .next (s.modPort p (fun q => { q with
        activity := .transmitting e
        creditControl := if e.cls = .control then q.creditControl - 1 else q.creditControl
        creditBulk := if e.cls = .bulk then q.creditBulk - 1 else q.creditBulk
        creditSpent := decide (e.cls = .control ∧ 0 < q.creditControl ∨ e.cls = .bulk ∧ 0 < q.creditBulk) }))) ∧
    (e.origin = .own .notice →
      exec (.wonArbitration p) s = .next (({ s with
          notices := { s.notices with accumulator := 0 } } : State).modPort p (fun q => { q with
            activity := .transmitting e
            creditControl := if e.cls = .control then q.creditControl - 1 else q.creditControl
            creditBulk := if e.cls = .bulk then q.creditBulk - 1 else q.creditBulk
            creditSpent := decide (e.cls = .control ∧ 0 < q.creditControl ∨ e.cls = .bulk ∧ 0 < q.creditBulk) })))

/-- The end of a transmission: a frame sent whole frees its buffer, counts as transmitted and lowers TX; a transmit error voids
the frame, counts, and raises TX by 8, a missing acknowledgment only while ACTIVE; the health state follows TX up to 200 (R164,
R171, R173, R174, R176). That the mark follows the health state before the change is the model's choice (DESIGN CHOICE,
notes/assumptions/33.md). -/
def Obligations.TransmissionsEnd : Prop :=
  ∀ (s : State) (p : Port) (e : Queued) (err : TxError) (tx : Nat) (h : Health), s.inReset = false →
    (s.port p).activity = .transmitting e → (s.port p).health = .active ∨ (s.port p).health = .passive →
    (tx = (s.port p).tx - 1 → h = (if 96 ≤ tx ∨ 96 ≤ (s.port p).rx then .passive else .active) →
      (h = (s.port p).health →
        exec (.transmissionCompleted p) s = .next (updateDropModes (s.modPort p (fun q => { q with
          activity := .idle, wasTransmitter := true, tx := tx, counters := bump q.counters 2 })))) ∧
      (h ≠ (s.port p).health →
        exec (.transmissionCompleted p) s = .next (updateDropModes (setNotice .portChange
          (s.modPort p (fun q => { q with
            activity := .idle, wasTransmitter := true, tx := tx, counters := bump q.counters 2
            health := h })))))) ∧
    (tx = (if err = .noAck ∧ (s.port p).health = .passive then (s.port p).tx else min 255 ((s.port p).tx + 8)) →
      tx ≤ 200 → h = (if 96 ≤ tx ∨ 96 ≤ (s.port p).rx then .passive else .active) →
      (h = (s.port p).health →
        exec (.transmitError p err) s = .next (updateDropModes (s.modPort p (fun q => { q with
          activity := .idle, wasTransmitter := true, voided := true, tx := tx, counters := bump q.counters 3
          errorMark := some (if q.health = .active then .dominant else .recessive) })))) ∧
      (h ≠ (s.port p).health →
        exec (.transmitError p err) s = .next (updateDropModes (setNotice .portChange
          (s.modPort p (fun q => { q with
            activity := .idle, wasTransmitter := true, voided := true, tx := tx, counters := bump q.counters 3
            errorMark := some (if q.health = .active then .dominant else .recessive)
            health := h }))))))

/-- A receive error is counted once for a frame, marked by the health state and raises RX up to 127, where it freezes, and the
health state follows; of a voided frame nothing more is detected until a start mark, which makes the port a receiver; a joining or
sending port hears neither (R169, R172, R173, R175, R176, R177). At FORM, or at a mark in the end mark, the window was driven before
(R171). A good frame is acknowledged by an ACTIVE or PASSIVE port and lowers RX, unless it is frozen; an ISOLATED port counts it and
recovers when COUNT is met (R171, R175, R178, R179). That every kind counts alike is the model's reading (DEDUCED,
notes/assumptions/27.md); the mark by the health state before the change, the place a mark carries, and that a port which contends or
sends hears neither are its choices (DESIGN CHOICE, notes/assumptions/33.md, 13.md, 11.md and 3.md). -/
def Obligations.ReceiveErrorsAndStartMarks : Prop :=
  ∀ (s : State) (p : Port) (err : RxError) (rx : Nat) (h : Health), s.inReset = false →
    ((s.port p).health = .joining ∨ (s.port p).engine ≠ [] →
      exec (.receiveError p err) s = .next s ∧ exec (.startMarkReceived p) s = .next s) ∧
    ((s.port p).voided = true → exec (.receiveError p err) s = .next s) ∧
    ((s.port p).health ≠ .joining → (s.port p).engine = [] →
      exec (.startMarkReceived p) s = .next (s.modPort p (fun q =>
        { q with activity := .receiving, errorMark := none, voided := false })) ∧
      (∀ acked, (s.port p).voided = false →
        acked = decide ((err = .form ∨ err = .mark true) ∧
          ((s.port p).health = .active ∨ (s.port p).health = .passive)) →
        rx = (if (s.port p).rx < 127 then (s.port p).rx + 1 else (s.port p).rx) →
        h = (if (s.port p).health = .isolated then .isolated
          else if 96 ≤ (s.port p).tx ∨ 96 ≤ rx then .passive else .active) →
        ∀ v, v = s.modPort p (fun q => { q with
            activity := .idle, wasTransmitter := false, voided := true, acknowledged := acked
            errorMark := if q.health = .isolated then none else
              some (if q.health = .active then .dominant else .recessive)
            rx := rx, counters := bump q.counters 1, health := h }) →
        (h = (s.port p).health → exec (.receiveError p err) s = .next v) ∧
        (h ≠ (s.port p).health → exec (.receiveError p err) s = .next (setNotice .portChange v)))) ∧
    (∀ v, rx = (if (s.port p).rx < 127 then (s.port p).rx - 1 else (s.port p).rx) →
      h = (if 96 ≤ (s.port p).tx ∨ 96 ≤ rx then .passive else .active) →
      ((s.port p).health = .active ∨ (s.port p).health = .passive →
        v = s.modPort p (fun q => { q with
          activity := .idle, wasTransmitter := false, voided := false, acknowledged := true, errorMark := none
          rx := rx, health := h }) →
        (h = (s.port p).health → goodFrameAt p s = v) ∧
        (h ≠ (s.port p).health → goodFrameAt p s = setNotice .portChange v)) ∧
      ((s.port p).health = .isolated →
        v = s.modPort p (fun q => { q with
          activity := .idle, wasTransmitter := false, voided := false, acknowledged := false, errorMark := none
          rx := rx, goodFrames := q.goodFrames + 1 }) →
        ((v.port p).measureMet = false → goodFrameAt p s = v) ∧
        ((v.port p).measureMet = true → goodFrameAt p s = recoverPort p v)))

/-- A transmit error that takes TX past 200 isolates the port: its frames are discarded and counted, its recovery starts from
0, PORT_CHANGE is set; on the appliance port a busy station faults with LINK and an idle one loses its manual demands, and on
the control port the stations go on (R165, R174, R176, R178). That a contending frame counts among its frames is the model's reading
(DEDUCED, notes/assumptions/12.md). -/
def Obligations.IsolationDiscardsAndFaults : Prop :=
  ∀ (s : State) (p : Port) (e : Queued) (err : TxError), s.inReset = false →
    (s.port p).activity = .transmitting e ∨ (s.port p).activity = .contending e ∧ err = .bit →
    (s.port p).health = .active ∨ (s.port p).health = .passive ∧ err = .bit → 192 < (s.port p).tx →
    ∃ u, exec (.transmitError p err) s = .next u ∧
      (u.port p).health = .isolated ∧ (u.port p).tx = min 255 ((s.port p).tx + 8) ∧ (u.port p).entries = [] ∧
      (u.port p).activity = .idle ∧ (u.port p).idleBits = 0 ∧ (u.port p).goodFrames = 0 ∧
      (u.port p).errorMark = none ∧ u.notices.bits &&& noticeMask .portChange ≠ 0 ∧
      (∀ x y, (s.port p).counters[12]? = some x → (u.port p).counters[12]? = some y →
        min Config.counterMax (x + (s.port p).entries.length) ≤ y) ∧
      (p = .control → ∀ n, u.st n = s.st n) ∧
      (p = .appliance → ∀ n,
        ((s.st n).run.state = .running ∨ (s.st n).run.state = .paused ∨ (s.st n).run.state = .warming →
          (u.st n).run.state = .fault ∧ (u.st n).run.faultCause = some .link ∧ (u.st n).run.furtherFaults = 0 ∧
          AtRest u n ∧ (u.st n).drive.pendingUnlock = true) ∧
        ((s.st n).run.state = .idle →
          (u.st n).run = (s.st n).run ∧ (u.st n).drive.manualSpeed = 0 ∧ (u.st n).drive.speedHold = none ∧
          (u.st n).drive.manualHeat = 0 ∧ (u.st n).drive.heatHold = none ∧ (u.st n).drive.commanded = 0) ∧
        ((s.st n).run.state = .fault →
          (u.st n).run = { (s.st n).run with
            furtherFaults := satInc 255 (s.st n).run.furtherFaults, more := true }))

/-- A JOINING port becomes ACTIVE at the end of its wait; an ISOLATED port whose measure is met joins with its counts and
progress at 0 and decodes no frame further, serves the waiting unlocks on the appliance port and re-raises a NOTICE on the control
port; each change of health sets PORT_CHANGE (R129, R176, R177, R179, R188). COUNT needs its 64 good frames. That JOIN_WAIT_END and,
in QUIET mode, PORT_RECOVERY say that the bits were read, and that in any other state the events change nothing, is the model's
choice (DESIGN CHOICE, notes/assumptions/2.md and 3.md); that station 0's unlock is served before station 1's is its reading (DEDUCED,
notes/assumptions/7.md). -/
def Obligations.JoinAndRecovery : Prop :=
  ∀ (s : State) (p : Port) (v : State), s.inReset = false →
    ((s.port p).health ≠ .joining → exec (.joinWaitEnd p) s = .next s) ∧
    ((s.port p).health = .joining →
      exec (.joinWaitEnd p) s = .next (setNotice .portChange (s.modPort p (fun q => { q with health := .active })))) ∧
    ((s.port p).health ≠ .isolated ∨ (s.port p).cfg.recovery = .count ∧ (s.port p).goodFrames < 64 →
      exec (.portRecovery p) s = .next s) ∧
    ((s.port p).health = .isolated → (s.port p).cfg.recovery = .quiet ∨ 64 ≤ (s.port p).goodFrames →
      v = setNotice .portChange (s.modPort p (fun q => { q with
        health := .joining, tx := 0, rx := 0, idleBits := 0, goodFrames := 0, activity := .idle
        voided := false })) →
      (p = .appliance → exec (.portRecovery p) s = .next (testUnlock .one (testUnlock .zero v))) ∧
      (p = .control → v.notices.accumulator = 0 → exec (.portRecovery p) s = .next v) ∧
      (p = .control → v.notices.accumulator ≠ 0 →
        exec (.portRecovery p) s = .next (originate .notice 31
          (putBits (v.notices.bits &&& v.notices.enables) ++ putBits v.notices.accumulator) v)))

/-- PORT_CONFIG: its checks, the item an accepted write replaces with what HIGH, LOW, AGE_LIMIT and the recovery mode act on at
once, and its read form (R137, R138, R157, R179, R199). PORT_STATUS shows a port's state byte by byte and changes nothing (R181,
R199); PORT_RESTART zeroes the counts and the progress, keeps the queued frames and the counters, returns the port to JOINING with
PORT_CHANGE, and returns a frame in the engine to the head of its queue without spending credit (R180). That a contending frame stands
out of its queue and is shown as in transmission is the model's reading (DEDUCED, notes/assumptions/12.md and 35.md). -/
def Obligations.PortRequests : Prop :=
  (∀ (s : State) (p : Port) (j : Nat), s.portItem p j = [admissionCode (s.port p).cfg.admission, (s.port p).cfg.learnLimit,
    s.ageLimit, (s.port p).cfg.high, (s.port p).cfg.low, (s.port p).cfg.wc, (s.port p).cfg.wb,
    recoveryCode (s.port p).cfg.recovery][j]?) ∧
  (∀ (s : State) (p : Port) (i j v : Nat), i ≠ 2 → portItemInRange i v = true →
    (s.modPort p (fun x => { x with cfg := setPortItem x.cfg i v })).portItem p j =
      if j = i then some v else s.portItem p j) ∧
  (∀ j v, portItemInRange j v = true ↔
    ∃ x y, [(0, 2), (0, 16), (1, 600), (2, 40), (1, 39), (1, 8), (1, 8), (0, 1)][j]? = some (x, y) ∧ x ≤ v ∧ v ≤ y) ∧
  (∀ (s : State) (q : NodeId) (tag pb i lo hi : Byte) (c : Instr),
     (c = .portConfigWrite q tag [pb, i, lo, hi] → AtHead c s →
       (portOf pb = none → Answers c s (refuse .badValue 255) s) ∧
       ∀ p, portOf pb = some p →
         (7 < i.toNat → Answers c s (refuse .badValue 0) s) ∧
         (i.toNat ≤ 7 → portItemInRange i.toNat (u16 lo hi) = false → Answers c s (refuse .badValue 1) s) ∧
         (portItemInRange i.toNat (u16 lo hi) = true →
           (i.toNat = 1 ∧ u16 lo hi ≠ 0 ∧ u16 lo hi < s.learnedCount p ∨
               i.toNat = 3 ∧ u16 lo hi ≤ (s.port p).cfg.low ∨ i.toNat = 4 ∧ (s.port p).cfg.high ≤ u16 lo hi →
             Answers c s (refuse .badValue 2) s) ∧
           ((i.toNat = 1 → u16 lo hi = 0 ∨ s.learnedCount p ≤ u16 lo hi) →
             (i.toNat = 3 → (s.port p).cfg.low < u16 lo hi) → (i.toNat = 4 → u16 lo hi < (s.port p).cfg.high) →
             (i.toNat = 0 ∨ i.toNat = 1 ∨ i.toNat = 5 ∨ i.toNat = 6 →
               Answers c s (done (putU16 (u16 lo hi)))
                 (s.modPort p (fun x => { x with cfg := setPortItem x.cfg i.toNat (u16 lo hi) }))) ∧
             (i.toNat = 3 ∨ i.toNat = 4 →
               Answers c s (done (putU16 (u16 lo hi))) (s.modPort p (fun x => { x with
                 cfg := setPortItem x.cfg i.toNat (u16 lo hi)
                 dropMode :=
                   if x.dropMode = false ∧ (setPortItem x.cfg i.toNat (u16 lo hi)).high ≤ s.held p then true
                   else if x.dropMode = true ∧ s.held p ≤ (setPortItem x.cfg i.toNat (u16 lo hi)).low then false
                   else x.dropMode }))) ∧
             (∀ v, i.toNat = 7 → v = s.modPort p (fun x => { x with cfg := setPortItem x.cfg 7 (u16 lo hi) }) →
               ((s.port p).health ≠ .isolated ∨ (v.port p).measureMet = false →
                 Answers c s (done (putU16 (u16 lo hi))) v) ∧
               ((s.port p).health = .isolated → (v.port p).measureMet = true →
                 Answers c s (done (putU16 (u16 lo hi))) (recoverPort p v))) ∧
             (i.toNat = 2 →
               ∃ u, Answers c s (done (putU16 (u16 lo hi))) u ∧ u.ageLimit = u16 lo hi ∧
                 (∀ j e, s.entryAt j = some e →
                   (e.origin = .learned → u16 lo hi * 100 ≤ e.age → u.entryAt j = none) ∧
                   (e.origin = .static ∨ e.age < u16 lo hi * 100 → u.entryAt j = some e)))))) ∧
     (c = .portConfigRead q tag [pb, i] → AtHead c s →
       (portOf pb = none → Answers c s (refuse .badValue 255) s) ∧
       ∀ p, portOf pb = some p →
         (7 < i.toNat → Answers c s (refuse .badValue 0) s) ∧
         (∀ v, s.portItem p i.toNat = some v → Answers c s (done (putU16 v)) s))) ∧
  (∀ (s : State) (q : NodeId) (tag b : Byte),
     (AtHead (.portStatus q tag [b]) s →
       (portOf b = none → Answers (.portStatus q tag [b]) s (refuse .badValue 255) s) ∧
       ∀ p x sends isolated, portOf b = some p → x = s.port p → (sends = true ↔ ∃ e, x.activity = .contending e ∨ x.activity = .transmitting e) →
         (isolated = true ↔ x.health = .isolated) →
         Answers (.portStatus q tag [b]) s (done
           ([byteOf (healthCode x.health + 4 * recoveryCode x.cfg.recovery + (if x.dropMode then 8 else 0) +
               (if sends then 16 else 0)), byteOf x.tx, byteOf x.rx] ++
             putU16 (if isolated then min 65535 (x.idleBits / 500) else 0) ++
             [byteOf (if isolated then min 255 x.goodFrames else 0), byteOf (s.learnedCount p), byteOf (s.held p),
               byteOf x.urgent.length, byteOf x.control.length, byteOf x.bulk.length])) s) ∧
     (AtHead (.portRestart q tag [b]) s →
       (portOf b = none → Answers (.portRestart q tag [b]) s (refuse .badValue 255) s) ∧
       ∀ p, portOf b = some p →
         ((s.port p).health ≠ .isolated → (s.port p).engine = [] →
           Answers (.portRestart q tag [b]) s (done []) (setNotice .portChange (s.modPort p (fun x => { x with
             health := .joining, tx := 0, rx := 0, idleBits := 0, goodFrames := 0, wasTransmitter := false
             errorMark := none, voided := false, activity := .idle })))) ∧
         (∀ e a x, (s.port p).health ≠ .isolated → e.origin = .transit a →
           (s.port p).activity = .contending e ∧ x = s.port p ∨
             (s.port p).activity = .transmitting e ∧
               x = (if (s.port p).creditSpent = false ∨ e.cls = .urgent then s.port p
                 else if e.cls = .control then { s.port p with creditControl := (s.port p).creditControl + 1 }
                 else { s.port p with creditBulk := (s.port p).creditBulk + 1 }) →
           Answers (.portRestart q tag [b]) s (done []) (setNotice .portChange (s.modPort p (fun _ =>
             { x.modQueue e.cls (fun l => e :: l) with
               health := .joining, tx := 0, rx := 0, idleBits := 0, goodFrames := 0, wasTransmitter := false
               errorMark := none, voided := false, activity := .idle })))) ∧
         (∃ u, Answers (.portRestart q tag [b]) s (done []) u ∧ (u.port p).health = .joining ∧
             (u.port p).engine = [] ∧ (u.port p).tx = 0 ∧ (u.port p).rx = 0 ∧ (u.port p).idleBits = 0 ∧ (u.port p).goodFrames = 0 ∧
             (u.port (otherPort p)).health = (s.port (otherPort p)).health ∧
             (∀ n, (u.st n).run = (s.st n).run) ∧ u.nodes = s.nodes ∧ u.routes = s.routes)))

/-! ### Management and reporting (chapter 10) -/

/-- A request out of its turn, in reset or without a reply buffer changes nothing; on an empty queue it stands at the head (the
model's choice, DESIGN CHOICE, notes/assumptions/4.md); at its turn, an argument length its code does not allow is answered
BAD_REQUEST with detail 1, whichever of two forms the command has (R182, R183; DESIGN CHOICE, notes/assumptions/24.md). -/
def Obligations.RequestTurns : Prop :=
  ∀ (s : State) (c : Instr), c.wellFormed = true → c.shape ≠ none →
    (s.inReset = true ∨ s.replyFree = false ∨ (∃ r, s.requests.head? = some r ∧ r ≠ commandRequest c) →
      exec c s = .next s) ∧
    (s.inReset = false → s.replyFree = true → s.requests = [] →
      exec c s = exec c { s with requests := [commandRequest c] }) ∧
    (AtHead c s → knownCodes.contains (commandRequest c).code = true →
      (commandRequest c).args.length ∉ allowedLengths (commandRequest c).code → Answers c s badLength s)

/-- IDENTIFY answers the constants of R185; an unknown code is answered BAD_REQUEST with detail 0 (R183). STATUS_READ of section 0
takes a new snapshot of the whole page and steps its number, and of another section answers from the record (R186); every page is
laid out byte by byte in the codes of the spec, and every section fits a reply (R200). That an absent warming limit and an absent
sensor fault show as 0 is the model's choice (DESIGN CHOICE, notes/assumptions/31.md); that a contending frame shows as in
transmission, and that page 0 counts the head request, is its reading (DEDUCED, notes/assumptions/35.md and 21.md).
COUNTERS_READ answers up to three counters of a group and clears exactly those when asked to (R192). -/
def Obligations.ReadRequests : Prop :=
  ∀ (s : State) (q : NodeId) (tag a b k cl : Byte) (c : Instr),
    (c = .identify q tag [] → AtHead c s →
      Answers c s (done [0x41, 0x62, 0x03, 2, s.ownNode.setWidth 8, 16, 24, 48, 20, 48]) s) ∧
    (∀ code args, c = .unknownRequestCode code q tag args → knownCodes.contains code = false → AtHead c s →
      Answers c s (refuse .badRequest 0) s) ∧
    (c = .statusRead q tag [a, b] → AtHead c s →
      (2 < a.toNat → Answers c s (refuse .badValue 0) s) ∧
      (a.toNat ≤ 2 → (if a = 0 then 4 else 10) ≤ b.toNat → Answers c s (refuse .badValue 1) s) ∧
      (∀ x, b.toNat < (if a = 0 then 4 else 10) → s.snapshots[a.toNat]? = some x →
        (b = 0 → Answers c s ⟨.done, (x.number + 1) % 256, (s.page a.toNat).headD []⟩
          { s with snapshots :=
            s.snapshots.setIfInBounds a.toNat ⟨(x.number + 1) % 256, some (s.page a.toNat)⟩ }) ∧
        (b ≠ 0 → x.page = none → Answers c s (refuse .badValue 2) s) ∧
        (∀ pg, b ≠ 0 → x.page = some pg → Answers c s ⟨.done, x.number, (pg[b.toNat]?).getD []⟩ s))) ∧
    (∀ m, (s.page m).length = (if m = 0 then 4 else 10) ∧ ∀ x ∈ s.page m, x.length ≤ 12) ∧
    (∀ (bits : List Bool) (i : Nat), bits.length ≤ 8 → (flagByte bits).getLsbD i = (bits[i]?).getD false) ∧
    ([RunState.idle, .running, .paused, .warming, .fault].map stateCode = [0, 1, 2, 3, 4] ∧
      [Phase.locking, .basing, .active].map phaseCode = [0, 1, 2] ∧ [PauseReason.request, .lid].map pauseCode = [0, 1] ∧
      [StepOutcome.time, .weight, .temp, .confirm, .limit, .skipped, .stopped, .faulted].map outcomeCode =
        [0, 1, 2, 3, 4, 5, 6, 7] ∧
      [FaultCause.link, .driveSilent, .heaterSilent, .weighSilent, .thermoSilent, .driveFault, .heaterFault,
        .thermoSensor, .overtemp, .lidLock].map causeCode = [16, 17, 18, 19, 20, 21, 22, 23, 24, 25] ∧
      [WeighOp.none, .zeroing, .calibrating, .taring].map opCode = [0, 5, 6, 7] ∧
      [OpOutcome.done, .unstable, .superseded, .stale, .failedRange, .interrupted].map opOutcomeCode =
        [0, 1, 2, 3, 4, 5] ∧
      [LidCmd.lock, .unlock].map lidCmdCode = [0, 1] ∧
      [Health.joining, .active, .passive, .isolated].map healthCode = [0, 1, 2, 3] ∧
      [Recovery.quiet, .count].map recoveryCode = [0, 1]) ∧
    (∀ port : Port → List Byte,
      (∀ p x sends, x = s.port p → (sends = true ↔ ∃ e, x.activity = .contending e ∨ x.activity = .transmitting e) → port p =
        [byteOf (healthCode x.health + 4 * recoveryCode x.cfg.recovery + (if x.dropMode then 8 else 0) +
          (if sends then 16 else 0)), byteOf x.tx, byteOf x.rx, byteOf (s.held p)]) →
      s.page 0 =
        [putBits s.notices.bits ++ putBits s.notices.enables ++ putBits s.notices.accumulator ++
          [byteOf s.requests.length, byteOf (3 - s.repliesHeld), byteOf (48 - (s.held .control + s.held .appliance)),
            byteOf (20 - s.ownHeld)],
         port .control ++ port .appliance,
         putU16 s.arbiter.budget ++ putU16 s.arbiter.available ++ putU16 (s.side .zero).draw ++
          putU16 (s.side .one).draw ++ putU16 (s.side .zero).counted ++ putU16 (s.side .one).counted,
         putU16 (s.side .zero).share ++ putU16 (s.side .one).share ++ putU16 (s.side .zero).grant ++
          putU16 (s.side .one).grant]) ∧
    (∀ (n : StationId) (st : Station) (added : Option Int), st = s.st n →
      added = st.run.doseBase.map (fun x => st.weigh.net - x) →
      s.page (if n = .zero then 1 else 2) =
        [[byteOf (stateCode st.run.state), optCode (st.run.phase.map phaseCode),
            optCode (st.run.savedPhase.map phaseCode), optCode (st.run.phaseAfterLock.map phaseCode),
            optCode (st.run.pauseReason.map pauseCode), optCode st.run.step, byteOf st.run.loopCounter] ++
          putU24 st.run.elapsed ++
          [flagByte [st.run.flags.baseUnsettled, st.run.flags.adjusted, st.run.flags.paused], byteOf st.recipeLength],
         putU24 (st.run.effLimit.getD 0) ++ putU16 st.run.extension ++
          [flagByte [st.run.speedOverride.isSome, st.run.tempOverride.isSome]] ++
          putU16 (st.run.speedOverride.getD 0) ++ putS16 (st.run.tempOverride.getD 0) ++
          [optCode (st.lockHolder.map BitVec.toNat), optCode (st.run.faultCause.map causeCode)],
         [byteOf st.run.furtherFaults, if st.run.more then 1 else 0] ++ putU16 st.run.warmingElapsed ++
          putU16 (st.run.warmingLimit.getD 0) ++
          [optCode (st.binding.drive.map BitVec.toNat), optCode (st.binding.heater.map BitVec.toNat),
            optCode (st.binding.weigh.map BitVec.toNat), optCode (st.binding.thermo.map BitVec.toNat),
            optCode (st.binding.lid.map BitVec.toNat),
            flagByte [s.silent n .drive, s.silent n .heater, s.silent n .weigh, s.silent n .thermo, s.silent n .lid]],
         putS24 st.weigh.net ++ putS24 st.weigh.filtered ++ putS24 st.weigh.tare ++ putS24 (added.getD 0),
         [flagByte [st.weigh.settled, st.weigh.overload, st.weigh.stale, added.isSome], byteOf (opCode st.weigh.op),
            optCode (st.weigh.lastTare.map opOutcomeCode), optCode (st.weigh.lastZero.map opOutcomeCode),
            optCode (st.weigh.lastCal.map opOutcomeCode), byteOf st.weigh.ring.length, byteOf st.weigh.accCount],
         [flagByte [(s.heatTarget n).isSome, st.heat.bowl.isSome, st.heat.sensorFault.getD false, st.heat.reached,
            st.heat.report.isSome, (st.heat.report.map HeatReport.fault).getD false, (s.side n).lastSent.isSome]] ++
          putS16 ((s.heatTarget n).getD 0) ++ putS16 (st.heat.bowl.getD 0) ++ putU16 st.heat.integral ++
          putU16 st.heat.demand ++ putU16 (s.side n).grant,
         putU16 ((st.heat.report.map HeatReport.power).getD 0) ++ putU16 ((s.side n).lastSent.getD 0) ++
          putU32 st.heat.samples ++ putS16 ((st.run.lastReport.bind StepReport.bowl).getD 0),
         putU16 st.drive.requested ++ putU16 st.drive.commanded ++
          [flagByte [st.drive.requestedDir == .rev, st.drive.commandedDir == .rev, st.drive.clamped,
            st.drive.manualDir == .rev]] ++
          putU16 st.drive.envelope ++ putU16 st.drive.manualSpeed ++ putU16 st.drive.manualHeat,
         putU16 (st.drive.speedHold.getD 0) ++ putU16 (st.drive.heatHold.getD 0) ++
          [optCode (st.drive.manualLid.map lidCmdCode), optCode (st.drive.lidCommand.map lidCmdCode),
            flagByte [st.drive.lidReport.isSome, (st.drive.lidReport.map LidReport.closed).getD false,
              (st.drive.lidReport.map LidReport.locked).getD false, st.drive.report.isSome,
              (st.drive.report.map DriveReport.fault).getD false, st.drive.pendingUnlock, st.drive.spinDownElapsed]] ++
          putU16 ((st.drive.report.map DriveReport.speed).getD 0) ++
          putU16 ((st.drive.report.map DriveReport.draw).getD 0),
         match st.run.lastReport with
         | none => [0, 255, 0, 0, 0, 0, 0, 0, 0, 0, 0, 0]
         | some r =>
           [byteOf r.step, byteOf (outcomeCode r.outcome)] ++ putU24 r.elapsed ++ putS24 r.net ++
             putS24 (r.added.getD 0) ++
             [flagByte [r.flags.baseUnsettled, r.flags.adjusted, r.flags.paused, r.stale, r.added.isSome,
               r.bowl.isSome]]]) ∧
    (c = .countersRead q tag [a, b, k, cl] → AtHead c s →
      (3 < a.toNat → Answers c s (refuse .badValue 0) s) ∧
      (∀ p, a = 0 ∧ p = Port.control ∨ a = 1 ∧ p = Port.appliance →
        (16 < b.toNat → Answers c s (refuse .badValue 1) s) ∧
        (b.toNat ≤ 16 → k = 0 ∨ 3 < k.toNat → Answers c s (refuse .badValue 2) s) ∧
        (∀ vals, b.toNat ≤ 16 → k ≠ 0 → k.toNat ≤ 3 →
          vals = ((s.port p).counters.toList.drop b.toNat).take k.toNat →
          (cl.getLsbD 0 = false → Answers c s ⟨.done, vals.length, vals.flatMap putU32⟩ s) ∧
          (cl.getLsbD 0 = true → ∀ v : Vector Nat 17,
            (∀ i : Fin 17, v[i] = if b.toNat ≤ i ∧ i < b.toNat + k.toNat then 0 else (s.port p).counters[i]) →
            Answers c s ⟨.done, vals.length, vals.flatMap putU32⟩
              (s.modPort p (fun x => { x with counters := v }))))) ∧
      (∀ n, a = 2 ∧ n = StationId.zero ∨ a = 3 ∧ n = StationId.one →
        (4 < b.toNat → Answers c s (refuse .badValue 1) s) ∧
        (b.toNat ≤ 4 → k = 0 ∨ 3 < k.toNat → Answers c s (refuse .badValue 2) s) ∧
        (∀ vals, b.toNat ≤ 4 → k ≠ 0 → k.toNat ≤ 3 →
          vals = ((s.st n).counters.toList.drop b.toNat).take k.toNat →
          (cl.getLsbD 0 = false → Answers c s ⟨.done, vals.length, vals.flatMap putU32⟩ s) ∧
          (cl.getLsbD 0 = true → ∀ v : Vector Nat 5,
            (∀ i : Fin 5, v[i] = if b.toNat ≤ i ∧ i < b.toNat + k.toNat then 0 else (s.st n).counters[i]) →
            Answers c s ⟨.done, vals.length, vals.flatMap putU32⟩
              (s.modSt n (fun x => { x with counters := v }))))))

/-- The notice requests: a newly enabled set bit joins the accumulator and raises a NOTICE, a clear takes bits from the set and the
accumulator, a read returns all three rows (R187 to R189). REPORT_CONFIG sets the interval and restarts the timer, or reads both,
and the timer's end restarts it and sends a WEIGHT_REPORT with the weights of that moment when the WEIGH role is bound (R86,
R190). That the event acts whenever the timer runs, and changes nothing while it is stopped, is the model's choice (DESIGN CHOICE,
notes/assumptions/2.md). -/
def Obligations.NoticeAndReportRequests : Prop :=
  ∀ (s : State) (q : NodeId) (tag b lo hi : Byte) (c : Instr),
    (∀ fresh, c = .noticeEnable q tag [lo, hi] → AtHead c s →
      fresh = s.notices.bits &&& (hi ++ lo) &&& ~~~s.notices.enables →
      (fresh = 0 → Answers c s (done [lo, hi])
        { s with notices := { s.notices with enables := hi ++ lo } }) ∧
      (fresh ≠ 0 → Answers c s (done [lo, hi]) (originate .notice 31
        (putBits (s.notices.bits &&& (hi ++ lo)) ++ putBits (s.notices.accumulator ||| fresh))
        { s with notices := ⟨s.notices.bits, hi ++ lo, s.notices.accumulator ||| fresh⟩ }))) ∧
    (c = .noticeClear q tag [lo, hi] → AtHead c s →
      Answers c s (done (putBits (s.notices.bits &&& ~~~(hi ++ lo))))
        { s with notices := ⟨s.notices.bits &&& ~~~(hi ++ lo), s.notices.enables,
          s.notices.accumulator &&& ~~~(hi ++ lo)⟩ }) ∧
    (c = .noticeRead q tag [] → AtHead c s →
      Answers c s (done (putBits s.notices.bits ++ putBits s.notices.enables ++ putBits s.notices.accumulator)) s) ∧
    (c = .reportConfigWrite q tag [b, lo, hi] → AtHead c s →
      (stationOf b = none → Answers c s (refuse .badValue 255) s) ∧
      ∀ n, stationOf b = some n →
        (u16 lo hi = 0 → Answers c s (done [lo, hi])
          (s.modSt n (fun st => { st with reportInterval := 0, reportTimer := none }))) ∧
        (100 ≤ u16 lo hi → u16 lo hi ≤ 2000 → Answers c s (done [lo, hi])
          (s.modSt n (fun st => { st with reportInterval := u16 lo hi, reportTimer := some (u16 lo hi) }))) ∧
        (u16 lo hi ≠ 0 → u16 lo hi < 100 ∨ 2000 < u16 lo hi → Answers c s (refuse .badValue 1) s)) ∧
    (c = .reportConfigRead q tag [b] → AtHead c s →
      (stationOf b = none → Answers c s (refuse .badValue 255) s) ∧
      ∀ n, stationOf b = some n →
        Answers c s (done (putU16 (s.st n).reportInterval ++ putU16 ((s.st n).reportTimer.getD 0))) s) ∧
    (∀ n, s.inReset = false →
      ((s.st n).reportTimer = none → exec (.reportTimerExpiry n) s = .next s) ∧
      (∀ v, (s.st n).reportTimer ≠ none →
        v = s.modSt n (fun st => { st with
          reportTimer := if st.reportInterval = 0 then none else some st.reportInterval }) →
        ((s.st n).binding.weigh = none → exec (.reportTimerExpiry n) s = .next v) ∧
        (∀ added, (s.st n).binding.weigh ≠ none →
          added = (if (s.st n).run.state = .running ∧ (s.st n).run.phase = some .active
            then (s.st n).run.doseBase.map (fun x => (s.st n).weigh.net - x) else none) →
          exec (.reportTimerExpiry n) s = .next (originate (.weightReport n) 31
            ([if n = .zero then 0 else 1] ++ putS24 (s.st n).weigh.net ++ putS24 (added.getD 0) ++
              [flagByte [(s.st n).weigh.settled, (s.st n).weigh.overload, (s.st n).weigh.stale,
                (s.st n).weigh.op != .none, added.isSome]]) v))))

/-- A power-on reset gives every block its power-on values with the own number from the straps, RESTARTED set and gathered and its
NOTICE waiting, and while the reset pin is asserted no other command has an effect (R194). RESTART with keep 0 does the same with
the own number kept; with keep 1 it keeps tables, bindings, limits, configurations, STATIC entries, routes and enables, and
returns everything else to its power-on value; another value is refused; neither sends a reply (R193). That a command without an
effect changes nothing is the model's choice (DESIGN CHOICE, notes/assumptions/3.md and 6.md), and that a restart sets RESTARTED
alone its reading (DEDUCED, notes/assumptions/19.md). -/
def Obligations.ResetAndRestart : Prop :=
  ∀ (s : State) (straps : BitVec 2) (q : NodeId) (tag k : Byte),
    (∃ u, exec (.powerOnReset straps) s = .next u ∧ u.inReset = false ∧ u.ownNode = 27 + straps.setWidth 5 ∧
      u.pending = s.pending ∧ (∀ n, u.st n = {}) ∧ u.arbiter = {} ∧ (∀ i, u.entryAt i = none) ∧ u.ageLimit = 60 ∧
      u.routes.toList = presetRoutes (27 + straps.setWidth 5) ++ List.replicate 16 ({} : RouteEntry) ∧ u.defaultForward = true ∧
      u.requests = [] ∧ u.notices = ⟨1, 0xFFFF, 1⟩ ∧ u.snapshots = Vector.replicate 3 {} ∧
      u.appliance = { cfg := { admission := .closed } } ∧
      u.control = { control := [⟨ownFrame (27 + straps.setWidth 5) .notice 31 [1, 0, 1, 0], .own .notice, .control⟩] }) ∧
    (∃ u, exec .resetAsserted s = .next u ∧ u.inReset = true ∧ u.pending = s.pending ∧
      (∀ c, c ≠ .resetAsserted → (∀ x, c ≠ .powerOnReset x) → exec c u = .next u)) ∧
    (AtHead (.restart q tag [k]) s →
      (k = 0 → exec (.restart q tag [k]) s = .next { State.powerOn s.ownNode with pending := s.pending }) ∧
      (1 < k.toNat → Answers (.restart q tag [k]) s (refuse .badValue 0) s) ∧
      (k = 1 → ∃ u, exec (.restart q tag [k]) s = .next u ∧ u.pending = s.pending ∧ u.inReset = false ∧
        u.ownNode = s.ownNode ∧ u.routes = s.routes ∧ u.defaultForward = s.defaultForward ∧
        u.ageLimit = s.ageLimit ∧ u.arbiter.budget = s.arbiter.budget ∧ u.arbiter.available = s.arbiter.budget ∧
        u.side .zero = { share := s.arbiter.budget / 2 } ∧
        u.side .one = { share := s.arbiter.budget - s.arbiter.budget / 2 } ∧
        (∀ n, u.st n = {
          steps := (s.st n).steps, recipeLength := (s.st n).recipeLength, binding := (s.st n).binding
          limits := (s.st n).limits, weighCfg := (s.st n).weighCfg, heatCfg := (s.st n).heatCfg
          reportInterval := (s.st n).reportInterval
          reportTimer := if (s.st n).reportInterval = 0 then none else some (s.st n).reportInterval
          drive := { envelope := min (s.st n).limits.maxSpeed (s.st n).limits.openSpeed
                     refreshTimer := (s.st n).limits.refresh } }) ∧
        (∀ i, (∀ e, s.entryAt i = some e → e.origin = .static →
            u.entryAt i = some { e with age := 0, silent := false }) ∧
          (∀ e, s.entryAt i = some e → e.origin = .learned → u.entryAt i = none) ∧
          (s.entryAt i = none → u.entryAt i = none)) ∧
        u.appliance = { cfg := s.appliance.cfg, creditControl := s.appliance.cfg.wc
                        creditBulk := s.appliance.cfg.wb } ∧
        u.control = { cfg := s.control.cfg, creditControl := s.control.cfg.wc, creditBulk := s.control.cfg.wb
                      control := if s.notices.enables &&& 1 = 0 then []
                        else [⟨ownFrame s.ownNode .notice 31 [1, 0, 1, 0], .own .notice, .control⟩] } ∧
        u.requests = [] ∧ u.ageMs = 0 ∧ u.snapshots = Vector.replicate 3 {} ∧
        u.notices = ⟨1, s.notices.enables, s.notices.enables &&& 1⟩))

/-- A step takes the command at the front of the queue and runs it on the state with the queue's rest. On an empty queue the part
takes up its head request, as the command that carries it, or one millisecond passes with what falls due in it, and in reset it
idles (the model's choice, DESIGN CHOICE, notes/assumptions/1.md and 4.md). In that millisecond each running timer counts, a frozen
or stopped one does not, nothing else moves, and what has come to its end falls due (R28, R29, R31, R32, R39, R43, R138, R139, R177,
R179, R190; the units' phases are a DESIGN CHOICE, notes/assumptions/17.md). -/
def Obligations.StepTakesFrontCommand : Prop :=
  (∀ (s : State) (c : Instr) (rest : List Instr), s.pending = c :: rest →
    step s = exec c { s with pending := rest }) ∧
  (∀ s : State, s.pending = [] →
    (s.inReset = true → step s = .next s) ∧
    (∀ r, s.inReset = false → s.replyFree = true → s.requests.head? = some r →
      step s = .next { s with pending := [ofRequest r] } ∧ commandRequest (ofRequest r) = r) ∧
    (s.inReset = false → s.replyFree = false ∨ s.requests = [] →
      step s = .next { passMs s with pending := dueCommands s })) ∧
  (∀ (s : State) (n : StationId) (r : RunContext),
    ((s.st n).run.state = .running → (s.st n).run.phase = some .active →
      ((s.st n).run.tenthMs < 99 → r = { (s.st n).run with tenthMs := (s.st n).run.tenthMs + 1 }) →
      (99 ≤ (s.st n).run.tenthMs → r = { (s.st n).run with
        tenthMs := 0
        elapsed := if (s.st n).run.elapsed < (s.st n).run.effLimit.getD 0 then (s.st n).run.elapsed + 1
          else (s.st n).run.elapsed }) →
      ((passMs s).st n).run = { r with deadline := r.deadline.map (fun d => d - 1) }) ∧
    ((s.st n).run.state = .running → (s.st n).run.phase ≠ some .active →
      ((passMs s).st n).run = { (s.st n).run with deadline := (s.st n).run.deadline.map (fun d => d - 1) }) ∧
    ((s.st n).run.state = .warming → (s.st n).run.warmMs < 999 →
      ((passMs s).st n).run = { (s.st n).run with warmMs := (s.st n).run.warmMs + 1 }) ∧
    (∀ top, (s.st n).run.state = .warming → 999 ≤ (s.st n).run.warmMs →
      top = (if (s.st n).run.warmingLimit.getD 0 = 0 then 14400 else (s.st n).run.warmingLimit.getD 0) →
      ((passMs s).st n).run = { (s.st n).run with
        warmMs := 0
        warmingElapsed := if (s.st n).run.warmingElapsed < top then (s.st n).run.warmingElapsed + 1
          else (s.st n).run.warmingElapsed }) ∧
    ((s.st n).run.state = .idle ∨ (s.st n).run.state = .paused ∨ (s.st n).run.state = .fault →
      ((passMs s).st n).run = (s.st n).run) ∧
    (passMs s).st n = { s.st n with
      run := ((passMs s).st n).run
      drive := { (s.st n).drive with
        speedHold := (s.st n).drive.speedHold.map (fun d => d - 1)
        heatHold := (s.st n).drive.heatHold.map (fun d => d - 1)
        spinDown := (s.st n).drive.spinDown.map (fun d => d - 1)
        refreshTimer := (s.st n).drive.refreshTimer - 1 }
      weigh := { (s.st n).weigh with opDeadline := (s.st n).weigh.opDeadline.map (fun d => d - 1) }
      reportTimer := (s.st n).reportTimer.map (fun d => d - 1) } ∧
    (∀ i, (passMs s).entryAt i = if s.ageMs < 9 then s.entryAt i
      else (s.entryAt i).map (fun e => { e with age := if e.age < 65535 then e.age + 1 else e.age })) ∧
    (∀ p, (passMs s).port p = { s.port p with
      idleBits := if (s.port p).health = .isolated ∧ (s.port p).activity = .idle then (s.port p).idleBits + 500
        else (s.port p).idleBits }) ∧
    passMs s = { s with
      station0 := (passMs s).station0, station1 := (passMs s).station1, control := (passMs s).control
      appliance := (passMs s).appliance, nodes := (passMs s).nodes
      ageMs := if s.ageMs < 9 then s.ageMs + 1 else 0 }) ∧
  (∀ (s t : State) (n : StationId) (p : Port) (i : Nat) (st : Station) (due : Instr → Prop),
    t = passMs s → st = t.st n → (∀ c, due c ↔ c ∈ dueCommands s) →
    (due (.reversal n) ↔ st.run.state = .running ∧ st.run.phase = some .active ∧ (s.curStep n).mode = .alt ∧
      0 < (s.curStep n).reversal ∧
      st.run.reversal.getD .fwd ≠ parityDirection (st.run.elapsed / ((s.curStep n).reversal * 10))) ∧
    (due (.stepTimerExpiry n) ↔ st.run.state = .running ∧ st.run.phase = some .active ∧
      (s.curStep n).hasLimit = true ∧ st.run.effLimit = some st.run.elapsed) ∧
    (due (.lockingDeadlineExpiry n) ↔ st.run.state = .running ∧ st.run.phase = some .locking ∧
      st.run.deadline = some 0) ∧
    (due (.basingDeadlineExpiry n) ↔ st.run.state = .running ∧ st.run.phase = some .basing ∧
      st.run.deadline = some 0) ∧
    (due (.warmingLimitExpiry n) ↔ st.run.state = .warming ∧ 0 < st.run.warmingElapsed ∧
      st.run.warmingLimit = some st.run.warmingElapsed) ∧
    (due (.tareDeadlineExpiry n) ↔ st.weigh.op = .taring ∧ st.weigh.opDeadline = some 0) ∧
    (due (.zeroCalibrateDeadlineExpiry n) ↔ st.weigh.op ≠ .taring ∧ st.weigh.opDeadline = some 0) ∧
    (due (.speedHoldExpiry n) ↔ st.drive.speedHold = some 0) ∧
    (due (.heatHoldExpiry n) ↔ st.drive.heatHold = some 0) ∧
    (due (.spinDownExpiry n) ↔ st.drive.spinDown = some 0) ∧
    (due (.refreshExpiry n) ↔ st.drive.refreshTimer = 0) ∧
    (due (.reportTimerExpiry n) ↔ st.reportTimer = some 0) ∧
    (due (.agingRemoval i) ↔ t.ageMs = 0 ∧
      ∃ e, t.entryAt i = some e ∧ e.origin = .learned ∧ s.ageLimit * 100 ≤ e.age) ∧
    (due (.nodeBecomesSilent i) ↔ t.ageMs = 0 ∧
      ∃ e, t.entryAt i = some e ∧ e.origin = .static ∧ e.silent = false ∧ e.limit ≠ 0 ∧ e.limit / 10 ≤ e.age) ∧
    (due (.joinWaitEnd p) ↔ (t.port p).health = .joining) ∧
    (due (.portRecovery p) ↔ (t.port p).health = .isolated ∧
      ((t.port p).cfg.recovery = .quiet ∧ 10000 ≤ (t.port p).idleBits ∨
        (t.port p).cfg.recovery = .count ∧ 64 ≤ (t.port p).goodFrames)))

/-! ### Frames on the link (chapter 11) -/

/-- A frame crosses the link whole: its bytes are read back as the frame (R195, R196), the line code is undone by its removal, and
no five equal bits stand together in the coded part (R168). -/
def Obligations.FrameCrossesTheLink : Prop :=
  (∀ f : Frame, f.wellFormed = true → Frame.ofBytes (Frame.bytes f) = .ok f) ∧
  (∀ bits : List Bool, unstuffFrom false 1 (stuffFrom false 1 bits) = some bits) ∧
  (∀ (f : Frame) (b : Bool) (l r : List Bool), Frame.coded f ≠ l ++ [b, b, b, b, b] ++ r)

/-! ### What every step keeps -/

/-- A step from a sound state leaves the link ports sound: counts in their bounds, health with the counts, nothing sent by a port
that is joining or isolated, and no frame decoded by one that is joining (R174 to R178). -/
def Obligations.StepKeepsPorts : Prop := ∀ s t, PortsSound s → step s = .next t → PortsSound t

/-- A step from a sound state leaves the buffers and queues sound, and the origination pool always suffices (R155, R158 to R162,
R165). -/
def Obligations.StepKeepsQueues : Prop :=
  (∀ s t, QueuesSound s → step s = .next t → QueuesSound t) ∧ ∀ s, QueuesSound s → s.ownHeld ≤ 20

/-- A step from a sound node table leaves it sound, with every bound node STATIC and bound once and every lock holder known (R13,
R16, R17, R131, R139). -/
def Obligations.StepKeepsNodes : Prop := ∀ s t, NodesSound s → step s = .next t → NodesSound t

/-- A step keeps the grants equal to the division of the budget less the draws (R108, R109). -/
def Obligations.StepKeepsGrants : Prop := ∀ s t, ArbiterSound s → step s = .next t → ArbiterSound t

/-- A step keeps the drive fields equal to what their inputs call for: the commanded speed never exceeds an envelope that
follows the lid, the bowl temperature and the limits (R115 to R117). The premise is that the node table is sound. -/
def Obligations.StepKeepsDrive : Prop :=
  ∀ s t, NodesSound s → DriveSound s → step s = .next t → DriveSound t

/-- A step keeps the run fields that each state and phase call for (R24). -/
def Obligations.StepKeepsRuns : Prop := ∀ s t, RunsSound s → step s = .next t → RunsSound t

/-- A step keeps the weigh contexts sound: ring, tare and net weight within their bounds, and the net weight equal to the filtered
weight less the tare (R58, R63, R64, R68). -/
def Obligations.StepKeepsWeights : Prop := ∀ s t, WeightsSound s → step s = .next t → WeightsSound t

/-- A step keeps the station limits, the weigh and heat configurations, the budget, the age limit, the report intervals, the port
settings and the silence limits in their ranges, the captures in progress on their way to an offset and a gain in range, and every
port at or below its learn limit (R19, R58, R80, R82, R88, R105, R135, R137, R138, R142, R157, R190). -/
def Obligations.StepKeepsSettings : Prop := ∀ s t, SettingsSound s → step s = .next t → SettingsSound t

/-- While a station is not IDLE, nothing but a reset or RESTART changes its recipe, its binding, its limits or its heat
configuration (R8, R17, R19, R23, R88). -/
def Obligations.TablesFrozenWhileRunning : Prop :=
  ∀ (s t : State) (n : StationId), (s.st n).run.state ≠ .idle →
    (∀ c, s.pending.head? = some c →
      c ≠ .resetAsserted ∧ (∀ x, c ≠ .powerOnReset x) ∧ ∀ q tag args, c ≠ .restart q tag args) →
    step s = .next t →
    (t.st n).steps = (s.st n).steps ∧ (t.st n).recipeLength = (s.st n).recipeLength ∧
    (t.st n).binding = (s.st n).binding ∧ (t.st n).limits = (s.st n).limits ∧ (t.st n).heatCfg = (s.st n).heatCfg

/-- The state after reset is sound in every sense above (R194 and the reset rule of each chapter). -/
def Obligations.ResetIsSound : Prop :=
  UnlocksSound State.reset ∧ PortsSound State.reset ∧ QueuesSound State.reset ∧ NodesSound State.reset ∧ ArbiterSound State.reset ∧
  DriveSound State.reset ∧ RunsSound State.reset ∧ WeightsSound State.reset ∧ SettingsSound State.reset
end

