-- ==== Sys2Proof/Laws/State.lean ====
section
/-! SUPPORT. One lemma per field per update of the state, true by `rfl` after the case of the station or port is known, so
that no proof has to unfold a record update. -/

namespace Sys2Proof.Machine

open Sys2Proof

/-! ### Reading what was just changed -/

@[simp] theorem st_modSt (s : State) (n : StationId) (f : Station → Station) : (s.modSt n f).st n = f (s.st n) := by
  cases n <;> rfl

theorem st_modSt_ne {s : State} {n m : StationId} {f : Station → Station} (h : m ≠ n) :
    (s.modSt n f).st m = s.st m := by
  cases n <;> cases m <;> first | rfl | exact absurd rfl h

@[simp] theorem port_modPort (s : State) (p : Port) (f : PortState → PortState) :
    (s.modPort p f).port p = f (s.port p) := by
  cases p <;> rfl

theorem port_modPort_ne {s : State} {p r : Port} {f : PortState → PortState} (h : r ≠ p) :
    (s.modPort p f).port r = s.port r := by
  cases p <;> cases r <;> first | rfl | exact absurd rfl h

@[simp] theorem side_modSide (s : State) (n : StationId) (f : ArbiterSide → ArbiterSide) :
    (s.modSide n f).side n = f (s.side n) := by
  cases n <;> rfl

theorem side_modSide_ne {s : State} {n m : StationId} {f : ArbiterSide → ArbiterSide} (h : m ≠ n) :
    (s.modSide n f).side m = s.side m := by
  cases n <;> cases m <;> first | rfl | exact absurd rfl h

theorem st_zero (s : State) : s.st .zero = s.station0 := rfl

theorem st_one (s : State) : s.st .one = s.station1 := rfl

theorem port_control (s : State) : s.port .control = s.control := rfl

theorem port_appliance (s : State) : s.port .appliance = s.appliance := rfl

/-! ### `modSt` -/

@[simp] theorem modSt_pending (s : State) (n : StationId) (f : Station → Station) :
    (s.modSt n f).pending = s.pending := by
  cases n <;> rfl

@[simp] theorem modSt_inReset (s : State) (n : StationId) (f : Station → Station) :
    (s.modSt n f).inReset = s.inReset := by
  cases n <;> rfl

@[simp] theorem modSt_ownNode (s : State) (n : StationId) (f : Station → Station) :
    (s.modSt n f).ownNode = s.ownNode := by
  cases n <;> rfl

@[simp] theorem modSt_arbiter (s : State) (n : StationId) (f : Station → Station) :
    (s.modSt n f).arbiter = s.arbiter := by
  cases n <;> rfl

@[simp] theorem modSt_nodes (s : State) (n : StationId) (f : Station → Station) :
    (s.modSt n f).nodes = s.nodes := by
  cases n <;> rfl

@[simp] theorem modSt_ageLimit (s : State) (n : StationId) (f : Station → Station) :
    (s.modSt n f).ageLimit = s.ageLimit := by
  cases n <;> rfl

@[simp] theorem modSt_routes (s : State) (n : StationId) (f : Station → Station) :
    (s.modSt n f).routes = s.routes := by
  cases n <;> rfl

@[simp] theorem modSt_defaultForward (s : State) (n : StationId) (f : Station → Station) :
    (s.modSt n f).defaultForward = s.defaultForward := by
  cases n <;> rfl

@[simp] theorem modSt_control (s : State) (n : StationId) (f : Station → Station) :
    (s.modSt n f).control = s.control := by
  cases n <;> rfl

@[simp] theorem modSt_appliance (s : State) (n : StationId) (f : Station → Station) :
    (s.modSt n f).appliance = s.appliance := by
  cases n <;> rfl

@[simp] theorem modSt_requests (s : State) (n : StationId) (f : Station → Station) :
    (s.modSt n f).requests = s.requests := by
  cases n <;> rfl

@[simp] theorem modSt_notices (s : State) (n : StationId) (f : Station → Station) :
    (s.modSt n f).notices = s.notices := by
  cases n <;> rfl

@[simp] theorem modSt_snapshots (s : State) (n : StationId) (f : Station → Station) :
    (s.modSt n f).snapshots = s.snapshots := by
  cases n <;> rfl

@[simp] theorem modSt_ageMs (s : State) (n : StationId) (f : Station → Station) :
    (s.modSt n f).ageMs = s.ageMs := by
  cases n <;> rfl

@[simp] theorem modSt_port (s : State) (n : StationId) (f : Station → Station) (p : Port) :
    (s.modSt n f).port p = s.port p := by
  cases n <;> cases p <;> rfl

@[simp] theorem modSt_side (s : State) (n : StationId) (f : Station → Station) (m : StationId) :
    (s.modSt n f).side m = s.side m := by
  cases n <;> cases m <;> rfl

/-! ### `modRun` -/

@[simp] theorem modRun_pending (s : State) (n : StationId) (f : RunContext → RunContext) :
    (s.modRun n f).pending = s.pending := by
  cases n <;> rfl

@[simp] theorem modRun_inReset (s : State) (n : StationId) (f : RunContext → RunContext) :
    (s.modRun n f).inReset = s.inReset := by
  cases n <;> rfl

@[simp] theorem modRun_ownNode (s : State) (n : StationId) (f : RunContext → RunContext) :
    (s.modRun n f).ownNode = s.ownNode := by
  cases n <;> rfl

@[simp] theorem modRun_arbiter (s : State) (n : StationId) (f : RunContext → RunContext) :
    (s.modRun n f).arbiter = s.arbiter := by
  cases n <;> rfl

@[simp] theorem modRun_nodes (s : State) (n : StationId) (f : RunContext → RunContext) :
    (s.modRun n f).nodes = s.nodes := by
  cases n <;> rfl

@[simp] theorem modRun_ageLimit (s : State) (n : StationId) (f : RunContext → RunContext) :
    (s.modRun n f).ageLimit = s.ageLimit := by
  cases n <;> rfl

@[simp] theorem modRun_routes (s : State) (n : StationId) (f : RunContext → RunContext) :
    (s.modRun n f).routes = s.routes := by
  cases n <;> rfl

@[simp] theorem modRun_defaultForward (s : State) (n : StationId) (f : RunContext → RunContext) :
    (s.modRun n f).defaultForward = s.defaultForward := by
  cases n <;> rfl

@[simp] theorem modRun_control (s : State) (n : StationId) (f : RunContext → RunContext) :
    (s.modRun n f).control = s.control := by
  cases n <;> rfl

@[simp] theorem modRun_appliance (s : State) (n : StationId) (f : RunContext → RunContext) :
    (s.modRun n f).appliance = s.appliance := by
  cases n <;> rfl

@[simp] theorem modRun_requests (s : State) (n : StationId) (f : RunContext → RunContext) :
    (s.modRun n f).requests = s.requests := by
  cases n <;> rfl

@[simp] theorem modRun_notices (s : State) (n : StationId) (f : RunContext → RunContext) :
    (s.modRun n f).notices = s.notices := by
  cases n <;> rfl

@[simp] theorem modRun_snapshots (s : State) (n : StationId) (f : RunContext → RunContext) :
    (s.modRun n f).snapshots = s.snapshots := by
  cases n <;> rfl

@[simp] theorem modRun_ageMs (s : State) (n : StationId) (f : RunContext → RunContext) :
    (s.modRun n f).ageMs = s.ageMs := by
  cases n <;> rfl

@[simp] theorem modRun_port (s : State) (n : StationId) (f : RunContext → RunContext) (p : Port) :
    (s.modRun n f).port p = s.port p := by
  cases n <;> cases p <;> rfl

@[simp] theorem modRun_side (s : State) (n : StationId) (f : RunContext → RunContext) (m : StationId) :
    (s.modRun n f).side m = s.side m := by
  cases n <;> cases m <;> rfl

@[simp] theorem modRun_st_steps (s : State) (n m : StationId) (f : RunContext → RunContext) :
    ((s.modRun n f).st m).steps = (s.st m).steps := by
  cases n <;> cases m <;> rfl

@[simp] theorem modRun_st_recipeLength (s : State) (n m : StationId) (f : RunContext → RunContext) :
    ((s.modRun n f).st m).recipeLength = (s.st m).recipeLength := by
  cases n <;> cases m <;> rfl

@[simp] theorem modRun_st_lockHolder (s : State) (n m : StationId) (f : RunContext → RunContext) :
    ((s.modRun n f).st m).lockHolder = (s.st m).lockHolder := by
  cases n <;> cases m <;> rfl

@[simp] theorem modRun_st_binding (s : State) (n m : StationId) (f : RunContext → RunContext) :
    ((s.modRun n f).st m).binding = (s.st m).binding := by
  cases n <;> cases m <;> rfl

@[simp] theorem modRun_st_limits (s : State) (n m : StationId) (f : RunContext → RunContext) :
    ((s.modRun n f).st m).limits = (s.st m).limits := by
  cases n <;> cases m <;> rfl

@[simp] theorem modRun_st_run (s : State) (n : StationId) (f : RunContext → RunContext) :
    ((s.modRun n f).st n).run = f (s.st n).run := by
  cases n <;> rfl

theorem modRun_st_run_ne {s : State} {n m : StationId} {f : RunContext → RunContext} (h : m ≠ n) :
    ((s.modRun n f).st m).run = (s.st m).run := by
  cases n <;> cases m <;> first | rfl | exact absurd rfl h

@[simp] theorem modRun_st_drive (s : State) (n m : StationId) (f : RunContext → RunContext) :
    ((s.modRun n f).st m).drive = (s.st m).drive := by
  cases n <;> cases m <;> rfl

@[simp] theorem modRun_st_weighCfg (s : State) (n m : StationId) (f : RunContext → RunContext) :
    ((s.modRun n f).st m).weighCfg = (s.st m).weighCfg := by
  cases n <;> cases m <;> rfl

@[simp] theorem modRun_st_weigh (s : State) (n m : StationId) (f : RunContext → RunContext) :
    ((s.modRun n f).st m).weigh = (s.st m).weigh := by
  cases n <;> cases m <;> rfl

@[simp] theorem modRun_st_heatCfg (s : State) (n m : StationId) (f : RunContext → RunContext) :
    ((s.modRun n f).st m).heatCfg = (s.st m).heatCfg := by
  cases n <;> cases m <;> rfl

@[simp] theorem modRun_st_heat (s : State) (n m : StationId) (f : RunContext → RunContext) :
    ((s.modRun n f).st m).heat = (s.st m).heat := by
  cases n <;> cases m <;> rfl

@[simp] theorem modRun_st_reportInterval (s : State) (n m : StationId) (f : RunContext → RunContext) :
    ((s.modRun n f).st m).reportInterval = (s.st m).reportInterval := by
  cases n <;> cases m <;> rfl

@[simp] theorem modRun_st_reportTimer (s : State) (n m : StationId) (f : RunContext → RunContext) :
    ((s.modRun n f).st m).reportTimer = (s.st m).reportTimer := by
  cases n <;> cases m <;> rfl

@[simp] theorem modRun_st_counters (s : State) (n m : StationId) (f : RunContext → RunContext) :
    ((s.modRun n f).st m).counters = (s.st m).counters := by
  cases n <;> cases m <;> rfl

/-! ### `modDrive` -/

@[simp] theorem modDrive_pending (s : State) (n : StationId) (f : DriveContext → DriveContext) :
    (s.modDrive n f).pending = s.pending := by
  cases n <;> rfl

@[simp] theorem modDrive_inReset (s : State) (n : StationId) (f : DriveContext → DriveContext) :
    (s.modDrive n f).inReset = s.inReset := by
  cases n <;> rfl

@[simp] theorem modDrive_ownNode (s : State) (n : StationId) (f : DriveContext → DriveContext) :
    (s.modDrive n f).ownNode = s.ownNode := by
  cases n <;> rfl

@[simp] theorem modDrive_arbiter (s : State) (n : StationId) (f : DriveContext → DriveContext) :
    (s.modDrive n f).arbiter = s.arbiter := by
  cases n <;> rfl

@[simp] theorem modDrive_nodes (s : State) (n : StationId) (f : DriveContext → DriveContext) :
    (s.modDrive n f).nodes = s.nodes := by
  cases n <;> rfl

@[simp] theorem modDrive_ageLimit (s : State) (n : StationId) (f : DriveContext → DriveContext) :
    (s.modDrive n f).ageLimit = s.ageLimit := by
  cases n <;> rfl

@[simp] theorem modDrive_routes (s : State) (n : StationId) (f : DriveContext → DriveContext) :
    (s.modDrive n f).routes = s.routes := by
  cases n <;> rfl

@[simp] theorem modDrive_defaultForward (s : State) (n : StationId) (f : DriveContext → DriveContext) :
    (s.modDrive n f).defaultForward = s.defaultForward := by
  cases n <;> rfl

@[simp] theorem modDrive_control (s : State) (n : StationId) (f : DriveContext → DriveContext) :
    (s.modDrive n f).control = s.control := by
  cases n <;> rfl

@[simp] theorem modDrive_appliance (s : State) (n : StationId) (f : DriveContext → DriveContext) :
    (s.modDrive n f).appliance = s.appliance := by
  cases n <;> rfl

@[simp] theorem modDrive_requests (s : State) (n : StationId) (f : DriveContext → DriveContext) :
    (s.modDrive n f).requests = s.requests := by
  cases n <;> rfl

@[simp] theorem modDrive_notices (s : State) (n : StationId) (f : DriveContext → DriveContext) :
    (s.modDrive n f).notices = s.notices := by
  cases n <;> rfl

@[simp] theorem modDrive_snapshots (s : State) (n : StationId) (f : DriveContext → DriveContext) :
    (s.modDrive n f).snapshots = s.snapshots := by
  cases n <;> rfl

@[simp] theorem modDrive_ageMs (s : State) (n : StationId) (f : DriveContext → DriveContext) :
    (s.modDrive n f).ageMs = s.ageMs := by
  cases n <;> rfl

@[simp] theorem modDrive_port (s : State) (n : StationId) (f : DriveContext → DriveContext) (p : Port) :
    (s.modDrive n f).port p = s.port p := by
  cases n <;> cases p <;> rfl

@[simp] theorem modDrive_side (s : State) (n : StationId) (f : DriveContext → DriveContext) (m : StationId) :
    (s.modDrive n f).side m = s.side m := by
  cases n <;> cases m <;> rfl

@[simp] theorem modDrive_st_steps (s : State) (n m : StationId) (f : DriveContext → DriveContext) :
    ((s.modDrive n f).st m).steps = (s.st m).steps := by
  cases n <;> cases m <;> rfl

@[simp] theorem modDrive_st_recipeLength (s : State) (n m : StationId) (f : DriveContext → DriveContext) :
    ((s.modDrive n f).st m).recipeLength = (s.st m).recipeLength := by
  cases n <;> cases m <;> rfl

@[simp] theorem modDrive_st_lockHolder (s : State) (n m : StationId) (f : DriveContext → DriveContext) :
    ((s.modDrive n f).st m).lockHolder = (s.st m).lockHolder := by
  cases n <;> cases m <;> rfl

@[simp] theorem modDrive_st_binding (s : State) (n m : StationId) (f : DriveContext → DriveContext) :
    ((s.modDrive n f).st m).binding = (s.st m).binding := by
  cases n <;> cases m <;> rfl

@[simp] theorem modDrive_st_limits (s : State) (n m : StationId) (f : DriveContext → DriveContext) :
    ((s.modDrive n f).st m).limits = (s.st m).limits := by
  cases n <;> cases m <;> rfl

@[simp] theorem modDrive_st_run (s : State) (n m : StationId) (f : DriveContext → DriveContext) :
    ((s.modDrive n f).st m).run = (s.st m).run := by
  cases n <;> cases m <;> rfl

@[simp] theorem modDrive_st_drive (s : State) (n : StationId) (f : DriveContext → DriveContext) :
    ((s.modDrive n f).st n).drive = f (s.st n).drive := by
  cases n <;> rfl

theorem modDrive_st_drive_ne {s : State} {n m : StationId} {f : DriveContext → DriveContext} (h : m ≠ n) :
    ((s.modDrive n f).st m).drive = (s.st m).drive := by
  cases n <;> cases m <;> first | rfl | exact absurd rfl h

@[simp] theorem modDrive_st_weighCfg (s : State) (n m : StationId) (f : DriveContext → DriveContext) :
    ((s.modDrive n f).st m).weighCfg = (s.st m).weighCfg := by
  cases n <;> cases m <;> rfl

@[simp] theorem modDrive_st_weigh (s : State) (n m : StationId) (f : DriveContext → DriveContext) :
    ((s.modDrive n f).st m).weigh = (s.st m).weigh := by
  cases n <;> cases m <;> rfl

@[simp] theorem modDrive_st_heatCfg (s : State) (n m : StationId) (f : DriveContext → DriveContext) :
    ((s.modDrive n f).st m).heatCfg = (s.st m).heatCfg := by
  cases n <;> cases m <;> rfl

@[simp] theorem modDrive_st_heat (s : State) (n m : StationId) (f : DriveContext → DriveContext) :
    ((s.modDrive n f).st m).heat = (s.st m).heat := by
  cases n <;> cases m <;> rfl

@[simp] theorem modDrive_st_reportInterval (s : State) (n m : StationId) (f : DriveContext → DriveContext) :
    ((s.modDrive n f).st m).reportInterval = (s.st m).reportInterval := by
  cases n <;> cases m <;> rfl

@[simp] theorem modDrive_st_reportTimer (s : State) (n m : StationId) (f : DriveContext → DriveContext) :
    ((s.modDrive n f).st m).reportTimer = (s.st m).reportTimer := by
  cases n <;> cases m <;> rfl

@[simp] theorem modDrive_st_counters (s : State) (n m : StationId) (f : DriveContext → DriveContext) :
    ((s.modDrive n f).st m).counters = (s.st m).counters := by
  cases n <;> cases m <;> rfl

/-! ### `modWeigh` -/

@[simp] theorem modWeigh_pending (s : State) (n : StationId) (f : WeighContext → WeighContext) :
    (s.modWeigh n f).pending = s.pending := by
  cases n <;> rfl

@[simp] theorem modWeigh_inReset (s : State) (n : StationId) (f : WeighContext → WeighContext) :
    (s.modWeigh n f).inReset = s.inReset := by
  cases n <;> rfl

@[simp] theorem modWeigh_ownNode (s : State) (n : StationId) (f : WeighContext → WeighContext) :
    (s.modWeigh n f).ownNode = s.ownNode := by
  cases n <;> rfl

@[simp] theorem modWeigh_arbiter (s : State) (n : StationId) (f : WeighContext → WeighContext) :
    (s.modWeigh n f).arbiter = s.arbiter := by
  cases n <;> rfl

@[simp] theorem modWeigh_nodes (s : State) (n : StationId) (f : WeighContext → WeighContext) :
    (s.modWeigh n f).nodes = s.nodes := by
  cases n <;> rfl

@[simp] theorem modWeigh_ageLimit (s : State) (n : StationId) (f : WeighContext → WeighContext) :
    (s.modWeigh n f).ageLimit = s.ageLimit := by
  cases n <;> rfl

@[simp] theorem modWeigh_routes (s : State) (n : StationId) (f : WeighContext → WeighContext) :
    (s.modWeigh n f).routes = s.routes := by
  cases n <;> rfl

@[simp] theorem modWeigh_defaultForward (s : State) (n : StationId) (f : WeighContext → WeighContext) :
    (s.modWeigh n f).defaultForward = s.defaultForward := by
  cases n <;> rfl

@[simp] theorem modWeigh_control (s : State) (n : StationId) (f : WeighContext → WeighContext) :
    (s.modWeigh n f).control = s.control := by
  cases n <;> rfl

@[simp] theorem modWeigh_appliance (s : State) (n : StationId) (f : WeighContext → WeighContext) :
    (s.modWeigh n f).appliance = s.appliance := by
  cases n <;> rfl

@[simp] theorem modWeigh_requests (s : State) (n : StationId) (f : WeighContext → WeighContext) :
    (s.modWeigh n f).requests = s.requests := by
  cases n <;> rfl

@[simp] theorem modWeigh_notices (s : State) (n : StationId) (f : WeighContext → WeighContext) :
    (s.modWeigh n f).notices = s.notices := by
  cases n <;> rfl

@[simp] theorem modWeigh_snapshots (s : State) (n : StationId) (f : WeighContext → WeighContext) :
    (s.modWeigh n f).snapshots = s.snapshots := by
  cases n <;> rfl

@[simp] theorem modWeigh_ageMs (s : State) (n : StationId) (f : WeighContext → WeighContext) :
    (s.modWeigh n f).ageMs = s.ageMs := by
  cases n <;> rfl

@[simp] theorem modWeigh_port (s : State) (n : StationId) (f : WeighContext → WeighContext) (p : Port) :
    (s.modWeigh n f).port p = s.port p := by
  cases n <;> cases p <;> rfl

@[simp] theorem modWeigh_side (s : State) (n : StationId) (f : WeighContext → WeighContext) (m : StationId) :
    (s.modWeigh n f).side m = s.side m := by
  cases n <;> cases m <;> rfl

@[simp] theorem modWeigh_st_steps (s : State) (n m : StationId) (f : WeighContext → WeighContext) :
    ((s.modWeigh n f).st m).steps = (s.st m).steps := by
  cases n <;> cases m <;> rfl

@[simp] theorem modWeigh_st_recipeLength (s : State) (n m : StationId) (f : WeighContext → WeighContext) :
    ((s.modWeigh n f).st m).recipeLength = (s.st m).recipeLength := by
  cases n <;> cases m <;> rfl

@[simp] theorem modWeigh_st_lockHolder (s : State) (n m : StationId) (f : WeighContext → WeighContext) :
    ((s.modWeigh n f).st m).lockHolder = (s.st m).lockHolder := by
  cases n <;> cases m <;> rfl

@[simp] theorem modWeigh_st_binding (s : State) (n m : StationId) (f : WeighContext → WeighContext) :
    ((s.modWeigh n f).st m).binding = (s.st m).binding := by
  cases n <;> cases m <;> rfl

@[simp] theorem modWeigh_st_limits (s : State) (n m : StationId) (f : WeighContext → WeighContext) :
    ((s.modWeigh n f).st m).limits = (s.st m).limits := by
  cases n <;> cases m <;> rfl

@[simp] theorem modWeigh_st_run (s : State) (n m : StationId) (f : WeighContext → WeighContext) :
    ((s.modWeigh n f).st m).run = (s.st m).run := by
  cases n <;> cases m <;> rfl

@[simp] theorem modWeigh_st_drive (s : State) (n m : StationId) (f : WeighContext → WeighContext) :
    ((s.modWeigh n f).st m).drive = (s.st m).drive := by
  cases n <;> cases m <;> rfl

@[simp] theorem modWeigh_st_weighCfg (s : State) (n m : StationId) (f : WeighContext → WeighContext) :
    ((s.modWeigh n f).st m).weighCfg = (s.st m).weighCfg := by
  cases n <;> cases m <;> rfl

@[simp] theorem modWeigh_st_weigh (s : State) (n : StationId) (f : WeighContext → WeighContext) :
    ((s.modWeigh n f).st n).weigh = f (s.st n).weigh := by
  cases n <;> rfl

theorem modWeigh_st_weigh_ne {s : State} {n m : StationId} {f : WeighContext → WeighContext} (h : m ≠ n) :
    ((s.modWeigh n f).st m).weigh = (s.st m).weigh := by
  cases n <;> cases m <;> first | rfl | exact absurd rfl h

@[simp] theorem modWeigh_st_heatCfg (s : State) (n m : StationId) (f : WeighContext → WeighContext) :
    ((s.modWeigh n f).st m).heatCfg = (s.st m).heatCfg := by
  cases n <;> cases m <;> rfl

@[simp] theorem modWeigh_st_heat (s : State) (n m : StationId) (f : WeighContext → WeighContext) :
    ((s.modWeigh n f).st m).heat = (s.st m).heat := by
  cases n <;> cases m <;> rfl

@[simp] theorem modWeigh_st_reportInterval (s : State) (n m : StationId) (f : WeighContext → WeighContext) :
    ((s.modWeigh n f).st m).reportInterval = (s.st m).reportInterval := by
  cases n <;> cases m <;> rfl

@[simp] theorem modWeigh_st_reportTimer (s : State) (n m : StationId) (f : WeighContext → WeighContext) :
    ((s.modWeigh n f).st m).reportTimer = (s.st m).reportTimer := by
  cases n <;> cases m <;> rfl

@[simp] theorem modWeigh_st_counters (s : State) (n m : StationId) (f : WeighContext → WeighContext) :
    ((s.modWeigh n f).st m).counters = (s.st m).counters := by
  cases n <;> cases m <;> rfl

/-! ### `modHeat` -/

@[simp] theorem modHeat_pending (s : State) (n : StationId) (f : HeatContext → HeatContext) :
    (s.modHeat n f).pending = s.pending := by
  cases n <;> rfl

@[simp] theorem modHeat_inReset (s : State) (n : StationId) (f : HeatContext → HeatContext) :
    (s.modHeat n f).inReset = s.inReset := by
  cases n <;> rfl

@[simp] theorem modHeat_ownNode (s : State) (n : StationId) (f : HeatContext → HeatContext) :
    (s.modHeat n f).ownNode = s.ownNode := by
  cases n <;> rfl

@[simp] theorem modHeat_arbiter (s : State) (n : StationId) (f : HeatContext → HeatContext) :
    (s.modHeat n f).arbiter = s.arbiter := by
  cases n <;> rfl

@[simp] theorem modHeat_nodes (s : State) (n : StationId) (f : HeatContext → HeatContext) :
    (s.modHeat n f).nodes = s.nodes := by
  cases n <;> rfl

@[simp] theorem modHeat_ageLimit (s : State) (n : StationId) (f : HeatContext → HeatContext) :
    (s.modHeat n f).ageLimit = s.ageLimit := by
  cases n <;> rfl

@[simp] theorem modHeat_routes (s : State) (n : StationId) (f : HeatContext → HeatContext) :
    (s.modHeat n f).routes = s.routes := by
  cases n <;> rfl

@[simp] theorem modHeat_defaultForward (s : State) (n : StationId) (f : HeatContext → HeatContext) :
    (s.modHeat n f).defaultForward = s.defaultForward := by
  cases n <;> rfl

@[simp] theorem modHeat_control (s : State) (n : StationId) (f : HeatContext → HeatContext) :
    (s.modHeat n f).control = s.control := by
  cases n <;> rfl

@[simp] theorem modHeat_appliance (s : State) (n : StationId) (f : HeatContext → HeatContext) :
    (s.modHeat n f).appliance = s.appliance := by
  cases n <;> rfl

@[simp] theorem modHeat_requests (s : State) (n : StationId) (f : HeatContext → HeatContext) :
    (s.modHeat n f).requests = s.requests := by
  cases n <;> rfl

@[simp] theorem modHeat_notices (s : State) (n : StationId) (f : HeatContext → HeatContext) :
    (s.modHeat n f).notices = s.notices := by
  cases n <;> rfl

@[simp] theorem modHeat_snapshots (s : State) (n : StationId) (f : HeatContext → HeatContext) :
    (s.modHeat n f).snapshots = s.snapshots := by
  cases n <;> rfl

@[simp] theorem modHeat_ageMs (s : State) (n : StationId) (f : HeatContext → HeatContext) :
    (s.modHeat n f).ageMs = s.ageMs := by
  cases n <;> rfl

@[simp] theorem modHeat_port (s : State) (n : StationId) (f : HeatContext → HeatContext) (p : Port) :
    (s.modHeat n f).port p = s.port p := by
  cases n <;> cases p <;> rfl

@[simp] theorem modHeat_side (s : State) (n : StationId) (f : HeatContext → HeatContext) (m : StationId) :
    (s.modHeat n f).side m = s.side m := by
  cases n <;> cases m <;> rfl

@[simp] theorem modHeat_st_steps (s : State) (n m : StationId) (f : HeatContext → HeatContext) :
    ((s.modHeat n f).st m).steps = (s.st m).steps := by
  cases n <;> cases m <;> rfl

@[simp] theorem modHeat_st_recipeLength (s : State) (n m : StationId) (f : HeatContext → HeatContext) :
    ((s.modHeat n f).st m).recipeLength = (s.st m).recipeLength := by
  cases n <;> cases m <;> rfl

@[simp] theorem modHeat_st_lockHolder (s : State) (n m : StationId) (f : HeatContext → HeatContext) :
    ((s.modHeat n f).st m).lockHolder = (s.st m).lockHolder := by
  cases n <;> cases m <;> rfl

@[simp] theorem modHeat_st_binding (s : State) (n m : StationId) (f : HeatContext → HeatContext) :
    ((s.modHeat n f).st m).binding = (s.st m).binding := by
  cases n <;> cases m <;> rfl

@[simp] theorem modHeat_st_limits (s : State) (n m : StationId) (f : HeatContext → HeatContext) :
    ((s.modHeat n f).st m).limits = (s.st m).limits := by
  cases n <;> cases m <;> rfl

@[simp] theorem modHeat_st_run (s : State) (n m : StationId) (f : HeatContext → HeatContext) :
    ((s.modHeat n f).st m).run = (s.st m).run := by
  cases n <;> cases m <;> rfl

@[simp] theorem modHeat_st_drive (s : State) (n m : StationId) (f : HeatContext → HeatContext) :
    ((s.modHeat n f).st m).drive = (s.st m).drive := by
  cases n <;> cases m <;> rfl

@[simp] theorem modHeat_st_weighCfg (s : State) (n m : StationId) (f : HeatContext → HeatContext) :
    ((s.modHeat n f).st m).weighCfg = (s.st m).weighCfg := by
  cases n <;> cases m <;> rfl

@[simp] theorem modHeat_st_weigh (s : State) (n m : StationId) (f : HeatContext → HeatContext) :
    ((s.modHeat n f).st m).weigh = (s.st m).weigh := by
  cases n <;> cases m <;> rfl

@[simp] theorem modHeat_st_heatCfg (s : State) (n m : StationId) (f : HeatContext → HeatContext) :
    ((s.modHeat n f).st m).heatCfg = (s.st m).heatCfg := by
  cases n <;> cases m <;> rfl

@[simp] theorem modHeat_st_heat (s : State) (n : StationId) (f : HeatContext → HeatContext) :
    ((s.modHeat n f).st n).heat = f (s.st n).heat := by
  cases n <;> rfl

theorem modHeat_st_heat_ne {s : State} {n m : StationId} {f : HeatContext → HeatContext} (h : m ≠ n) :
    ((s.modHeat n f).st m).heat = (s.st m).heat := by
  cases n <;> cases m <;> first | rfl | exact absurd rfl h

@[simp] theorem modHeat_st_reportInterval (s : State) (n m : StationId) (f : HeatContext → HeatContext) :
    ((s.modHeat n f).st m).reportInterval = (s.st m).reportInterval := by
  cases n <;> cases m <;> rfl

@[simp] theorem modHeat_st_reportTimer (s : State) (n m : StationId) (f : HeatContext → HeatContext) :
    ((s.modHeat n f).st m).reportTimer = (s.st m).reportTimer := by
  cases n <;> cases m <;> rfl

@[simp] theorem modHeat_st_counters (s : State) (n m : StationId) (f : HeatContext → HeatContext) :
    ((s.modHeat n f).st m).counters = (s.st m).counters := by
  cases n <;> cases m <;> rfl

/-! ### `modPort` -/

@[simp] theorem modPort_pending (s : State) (p : Port) (f : PortState → PortState) :
    (s.modPort p f).pending = s.pending := by
  cases p <;> rfl

@[simp] theorem modPort_inReset (s : State) (p : Port) (f : PortState → PortState) :
    (s.modPort p f).inReset = s.inReset := by
  cases p <;> rfl

@[simp] theorem modPort_ownNode (s : State) (p : Port) (f : PortState → PortState) :
    (s.modPort p f).ownNode = s.ownNode := by
  cases p <;> rfl

@[simp] theorem modPort_station0 (s : State) (p : Port) (f : PortState → PortState) :
    (s.modPort p f).station0 = s.station0 := by
  cases p <;> rfl

@[simp] theorem modPort_station1 (s : State) (p : Port) (f : PortState → PortState) :
    (s.modPort p f).station1 = s.station1 := by
  cases p <;> rfl

@[simp] theorem modPort_arbiter (s : State) (p : Port) (f : PortState → PortState) :
    (s.modPort p f).arbiter = s.arbiter := by
  cases p <;> rfl

@[simp] theorem modPort_nodes (s : State) (p : Port) (f : PortState → PortState) :
    (s.modPort p f).nodes = s.nodes := by
  cases p <;> rfl

@[simp] theorem modPort_ageLimit (s : State) (p : Port) (f : PortState → PortState) :
    (s.modPort p f).ageLimit = s.ageLimit := by
  cases p <;> rfl

@[simp] theorem modPort_routes (s : State) (p : Port) (f : PortState → PortState) :
    (s.modPort p f).routes = s.routes := by
  cases p <;> rfl

@[simp] theorem modPort_defaultForward (s : State) (p : Port) (f : PortState → PortState) :
    (s.modPort p f).defaultForward = s.defaultForward := by
  cases p <;> rfl

@[simp] theorem modPort_requests (s : State) (p : Port) (f : PortState → PortState) :
    (s.modPort p f).requests = s.requests := by
  cases p <;> rfl

@[simp] theorem modPort_notices (s : State) (p : Port) (f : PortState → PortState) :
    (s.modPort p f).notices = s.notices := by
  cases p <;> rfl

@[simp] theorem modPort_snapshots (s : State) (p : Port) (f : PortState → PortState) :
    (s.modPort p f).snapshots = s.snapshots := by
  cases p <;> rfl

@[simp] theorem modPort_ageMs (s : State) (p : Port) (f : PortState → PortState) :
    (s.modPort p f).ageMs = s.ageMs := by
  cases p <;> rfl

@[simp] theorem modPort_st (s : State) (p : Port) (f : PortState → PortState) (n : StationId) :
    (s.modPort p f).st n = s.st n := by
  cases p <;> cases n <;> rfl

@[simp] theorem modPort_side (s : State) (p : Port) (f : PortState → PortState) (n : StationId) :
    (s.modPort p f).side n = s.side n := by
  cases p <;> cases n <;> rfl

/-! ### `modSide` -/

@[simp] theorem modSide_pending (s : State) (n : StationId) (f : ArbiterSide → ArbiterSide) :
    (s.modSide n f).pending = s.pending := by
  cases n <;> rfl

@[simp] theorem modSide_inReset (s : State) (n : StationId) (f : ArbiterSide → ArbiterSide) :
    (s.modSide n f).inReset = s.inReset := by
  cases n <;> rfl

@[simp] theorem modSide_ownNode (s : State) (n : StationId) (f : ArbiterSide → ArbiterSide) :
    (s.modSide n f).ownNode = s.ownNode := by
  cases n <;> rfl

@[simp] theorem modSide_station0 (s : State) (n : StationId) (f : ArbiterSide → ArbiterSide) :
    (s.modSide n f).station0 = s.station0 := by
  cases n <;> rfl

@[simp] theorem modSide_station1 (s : State) (n : StationId) (f : ArbiterSide → ArbiterSide) :
    (s.modSide n f).station1 = s.station1 := by
  cases n <;> rfl

@[simp] theorem modSide_nodes (s : State) (n : StationId) (f : ArbiterSide → ArbiterSide) :
    (s.modSide n f).nodes = s.nodes := by
  cases n <;> rfl

@[simp] theorem modSide_ageLimit (s : State) (n : StationId) (f : ArbiterSide → ArbiterSide) :
    (s.modSide n f).ageLimit = s.ageLimit := by
  cases n <;> rfl

@[simp] theorem modSide_routes (s : State) (n : StationId) (f : ArbiterSide → ArbiterSide) :
    (s.modSide n f).routes = s.routes := by
  cases n <;> rfl

@[simp] theorem modSide_defaultForward (s : State) (n : StationId) (f : ArbiterSide → ArbiterSide) :
    (s.modSide n f).defaultForward = s.defaultForward := by
  cases n <;> rfl

@[simp] theorem modSide_control (s : State) (n : StationId) (f : ArbiterSide → ArbiterSide) :
    (s.modSide n f).control = s.control := by
  cases n <;> rfl

@[simp] theorem modSide_appliance (s : State) (n : StationId) (f : ArbiterSide → ArbiterSide) :
    (s.modSide n f).appliance = s.appliance := by
  cases n <;> rfl

@[simp] theorem modSide_requests (s : State) (n : StationId) (f : ArbiterSide → ArbiterSide) :
    (s.modSide n f).requests = s.requests := by
  cases n <;> rfl

@[simp] theorem modSide_notices (s : State) (n : StationId) (f : ArbiterSide → ArbiterSide) :
    (s.modSide n f).notices = s.notices := by
  cases n <;> rfl

@[simp] theorem modSide_snapshots (s : State) (n : StationId) (f : ArbiterSide → ArbiterSide) :
    (s.modSide n f).snapshots = s.snapshots := by
  cases n <;> rfl

@[simp] theorem modSide_ageMs (s : State) (n : StationId) (f : ArbiterSide → ArbiterSide) :
    (s.modSide n f).ageMs = s.ageMs := by
  cases n <;> rfl

@[simp] theorem modSide_st (s : State) (n m : StationId) (f : ArbiterSide → ArbiterSide) :
    (s.modSide n f).st m = s.st m := by
  cases n <;> cases m <;> rfl

@[simp] theorem modSide_port (s : State) (n : StationId) (f : ArbiterSide → ArbiterSide) (p : Port) :
    (s.modSide n f).port p = s.port p := by
  cases n <;> cases p <;> rfl

/-! ### `setEntry` -/

@[simp] theorem setEntry_pending (s : State) (i : Nat) (o : Option NodeEntry) :
    (s.setEntry i o).pending = s.pending := rfl

@[simp] theorem setEntry_inReset (s : State) (i : Nat) (o : Option NodeEntry) :
    (s.setEntry i o).inReset = s.inReset := rfl

@[simp] theorem setEntry_ownNode (s : State) (i : Nat) (o : Option NodeEntry) :
    (s.setEntry i o).ownNode = s.ownNode := rfl

@[simp] theorem setEntry_station0 (s : State) (i : Nat) (o : Option NodeEntry) :
    (s.setEntry i o).station0 = s.station0 := rfl

@[simp] theorem setEntry_station1 (s : State) (i : Nat) (o : Option NodeEntry) :
    (s.setEntry i o).station1 = s.station1 := rfl

@[simp] theorem setEntry_arbiter (s : State) (i : Nat) (o : Option NodeEntry) :
    (s.setEntry i o).arbiter = s.arbiter := rfl

@[simp] theorem setEntry_ageLimit (s : State) (i : Nat) (o : Option NodeEntry) :
    (s.setEntry i o).ageLimit = s.ageLimit := rfl

@[simp] theorem setEntry_routes (s : State) (i : Nat) (o : Option NodeEntry) :
    (s.setEntry i o).routes = s.routes := rfl

@[simp] theorem setEntry_defaultForward (s : State) (i : Nat) (o : Option NodeEntry) :
    (s.setEntry i o).defaultForward = s.defaultForward := rfl

@[simp] theorem setEntry_control (s : State) (i : Nat) (o : Option NodeEntry) :
    (s.setEntry i o).control = s.control := rfl

@[simp] theorem setEntry_appliance (s : State) (i : Nat) (o : Option NodeEntry) :
    (s.setEntry i o).appliance = s.appliance := rfl

@[simp] theorem setEntry_requests (s : State) (i : Nat) (o : Option NodeEntry) :
    (s.setEntry i o).requests = s.requests := rfl

@[simp] theorem setEntry_notices (s : State) (i : Nat) (o : Option NodeEntry) :
    (s.setEntry i o).notices = s.notices := rfl

@[simp] theorem setEntry_snapshots (s : State) (i : Nat) (o : Option NodeEntry) :
    (s.setEntry i o).snapshots = s.snapshots := rfl

@[simp] theorem setEntry_ageMs (s : State) (i : Nat) (o : Option NodeEntry) : (s.setEntry i o).ageMs = s.ageMs := rfl

@[simp] theorem setEntry_st (s : State) (i : Nat) (o : Option NodeEntry) (n : StationId) :
    (s.setEntry i o).st n = s.st n := by
  cases n <;> rfl

@[simp] theorem setEntry_port (s : State) (i : Nat) (o : Option NodeEntry) (p : Port) :
    (s.setEntry i o).port p = s.port p := by
  cases p <;> rfl

/-! ### Reading a station or a port past a change of another block -/

@[simp] theorem st_setArbiter (s : State) (b : Arbiter) (m : StationId) : ({ s with arbiter := b } : State).st m = s.st m := by
  cases m <;> rfl
@[simp] theorem st_setNotices (s : State) (b : Notices) (m : StationId) : ({ s with notices := b } : State).st m = s.st m := by
  cases m <;> rfl
@[simp] theorem port_setArbiter (s : State) (b : Arbiter) (p : Port) : ({ s with arbiter := b } : State).port p = s.port p := by
  cases p <;> rfl
@[simp] theorem port_setNotices (s : State) (b : Notices) (p : Port) : ({ s with notices := b } : State).port p = s.port p := by
  cases p <;> rfl
@[simp] theorem side_setNotices (s : State) (b : Notices) (m : StationId) : ({ s with notices := b } : State).side m = s.side m := by
  cases m <;> rfl
@[simp] theorem st_setRequests (s : State) (b : List Request) (m : StationId) : ({ s with requests := b } : State).st m = s.st m := by
  cases m <;> rfl
@[simp] theorem port_setRequests (s : State) (b : List Request) (p : Port) : ({ s with requests := b } : State).port p = s.port p := by
  cases p <;> rfl
@[simp] theorem side_setRequests (s : State) (b : List Request) (m : StationId) : ({ s with requests := b } : State).side m = s.side m := by
  cases m <;> rfl

end Sys2Proof.Machine
end

