-- ==== Sys2Proof/Laws/Frames.lean ====
section
/-! SUPPORT. What no work of a station, of the arbiter or of a notice touches: the outline of the state, which leaves
out the parts such work may change (run, drive, weigh and heat contexts, the weigh configuration a zero capture or a
calibration writes, counters, class queues, drop modes, the arbiter and the notice set). One lemma for each
operation says that it keeps the outline; recipe tables, bindings, limits, locks, the node and route tables, port
configuration and health, and the request queue follow from it. -/

namespace Sys2Proof.Machine

open Sys2Proof

@[simp] theorem outline_modRun (s : State) (n f) : (s.modRun n f).outline = s.outline := by cases n <;> rfl
@[simp] theorem outline_modDrive (s : State) (n f) : (s.modDrive n f).outline = s.outline := by cases n <;> rfl
@[simp] theorem outline_modWeigh (s : State) (n f) : (s.modWeigh n f).outline = s.outline := by cases n <;> rfl
@[simp] theorem outline_modHeat (s : State) (n f) : (s.modHeat n f).outline = s.outline := by cases n <;> rfl
@[simp] theorem outline_modSide (s : State) (n f) : (s.modSide n f).outline = s.outline := by cases n <;> rfl
@[simp] theorem outline_arbiter (s : State) (b) : ({ s with arbiter := b } : State).outline = s.outline := rfl
@[simp] theorem outline_notices (s : State) (b) : ({ s with notices := b } : State).outline = s.outline := rfl
theorem outline_modPort (s : State) (p f) (h : ∀ q, PortState.outline (f q) = q.outline) :
    (s.modPort p f).outline = s.outline := by cases p <;> simp [State.outline, State.modPort, h]
theorem outline_modSt (s : State) (n f) (h : ∀ q, Station.outline (f q) = q.outline) :
    (s.modSt n f).outline = s.outline := by cases n <;> simp [State.outline, State.modSt, h]
@[simp] theorem outline_modQueue (q : PortState) (c f) : (q.modQueue c f).outline = q.outline := by cases c <;> rfl
@[simp] theorem countPort_outline (p c) (s : State) : (countPort p c s).outline = s.outline :=
  outline_modPort s p _ (fun _ => rfl)
@[simp] theorem countStation_outline (n c) (s : State) : (countStation n c s).outline = s.outline :=
  outline_modSt s n _ (fun _ => rfl)
@[simp] theorem updateDropMode_outline (p) (s : State) : (updateDropMode p s).outline = s.outline :=
  outline_modPort s p _ (fun _ => rfl)
@[simp] theorem updateDropModes_outline (s : State) : (updateDropModes s).outline = s.outline := by
  simp [updateDropModes]
@[simp] theorem originate_outline (k d pl) (s : State) : (originate k d pl s).outline = s.outline := by
  unfold originate; split
  · simp
  · exact outline_modPort s _ _ (fun q => by simp)
@[simp] theorem originateNotice_outline (s : State) : (originateNotice s).outline = s.outline := by
  simp [originateNotice]
@[simp] theorem setNotice_outline (b) (s : State) : (setNotice b s).outline = s.outline := by
  unfold setNotice; split
  · rfl
  · split <;> simp

@[simp] theorem sendHeatSet_outline (n : StationId) (s : State) :
    (sendHeatSet n s).outline = s.outline := by
  unfold sendHeatSet; split <;> simp
@[simp] theorem testGrant_outline (n : StationId) (s : State) :
    (testGrant n s).outline = s.outline := by
  unfold testGrant; split <;> simp
@[simp] theorem recomputeArbiter_outline (s : State) :
    (recomputeArbiter s).outline = s.outline := by
  simp [recomputeArbiter]
@[simp] theorem followDemand_outline (n : StationId) (s : State) :
    (followDemand n s).outline = s.outline := by
  unfold followDemand; split <;> simp
@[simp] theorem setDemand_outline (n : StationId) (d : Nat) (s : State) :
    (setDemand n d s).outline = s.outline := by
  unfold setDemand; split <;> simp
@[simp] theorem setDraw_outline (n : StationId) (w : Nat) (s : State) :
    (setDraw n w s).outline = s.outline := by
  unfold setDraw; split <;> simp
@[simp] theorem sendLidSet_outline (n : StationId) (c : LidCmd) (s : State) :
    (sendLidSet n c s).outline = s.outline := by
  unfold sendLidSet; split <;> simp
@[simp] theorem lockLid_outline (n : StationId) (s : State) :
    (lockLid n s).outline = s.outline := by
  unfold lockLid; split <;> simp
@[simp] theorem testUnlock_outline (n : StationId) (s : State) :
    (testUnlock n s).outline = s.outline := by
  unfold testUnlock; split <;> simp
@[simp] theorem askUnlock_outline (n : StationId) (s : State) :
    (askUnlock n s).outline = s.outline := by
  simp [askUnlock]
@[simp] theorem sendSpeedSet_outline (n : StationId) (s : State) :
    (sendSpeedSet n s).outline = s.outline := by
  unfold sendSpeedSet; split <;> simp
@[simp] theorem recomputeDrive_outline (n : StationId) (s : State) :
    (recomputeDrive n s).outline = s.outline := by
  simp only [recomputeDrive]; (repeat' split) <;> simp
@[simp] theorem recomputeEnvelope_outline (n : StationId) (s : State) :
    (recomputeEnvelope n s).outline = s.outline := by
  simp [recomputeEnvelope]
@[simp] theorem dropManualSpeed_outline (n : StationId) (s : State) :
    (dropManualSpeed n s).outline = s.outline := by
  simp [dropManualSpeed]
@[simp] theorem retestReached_outline (n : StationId) (s : State) :
    (retestReached n s).outline = s.outline := by
  simp [retestReached]
@[simp] theorem adoptTarget_outline (n : StationId) (rule : Adoption) (inSample : Bool) (s : State) :
    (adoptTarget n rule inSample s).outline = s.outline := by
  unfold adoptTarget; (repeat' split) <;> simp
@[simp] theorem stateChanged_outline (n : StationId) (rule : Adoption) (inSample : Bool) (s : State) :
    (stateChanged n rule inSample s).outline = s.outline := by
  simp [stateChanged]
@[simp] theorem followManualHeat_outline (n : StationId) (s : State) :
    (followManualHeat n s).outline = s.outline := by
  unfold followManualHeat; split <;> simp
@[simp] theorem dropManualHeat_outline (n : StationId) (s : State) :
    (dropManualHeat n s).outline = s.outline := by
  simp [dropManualHeat]
@[simp] theorem originateStepReport_outline (n : StationId) (r : StepReport) (s : State) :
    (originateStepReport n r s).outline = s.outline := by
  unfold originateStepReport; split <;> simp
@[simp] theorem endStep_outline (n : StationId) (o : StepOutcome) (s : State) :
    (endStep n o s).outline = s.outline := by
  simp [endStep]
@[simp] theorem furtherFault_outline (n : StationId) (s : State) :
    (furtherFault n s).outline = s.outline := by
  simp [furtherFault]
@[simp] theorem enterFault_outline (n : StationId) (c : FaultCause) (further : Nat) (inSample : Bool) (s : State) :
    (enterFault n c further inSample s).outline = s.outline := by
  unfold enterFault; split <;> simp
@[simp] theorem raiseCause_outline (n : StationId) (c : FaultCause) (carried : Bool) (s : State) :
    (raiseCause n c carried s).outline = s.outline := by
  unfold raiseCause; (repeat' split) <;> simp
@[simp] theorem raiseSilence_outline (n : StationId) (c : FaultCause) (faults : Bool) (s : State) :
    (raiseSilence n c faults s).outline = s.outline := by
  unfold raiseSilence; (repeat' split) <;> simp
@[simp] theorem enterActive_outline (n : StationId) (rule : Adoption) (inSample : Bool) (s : State) :
    (enterActive n rule inSample s).outline = s.outline := by
  simp only [enterActive]; (repeat' split) <;> simp
@[simp] theorem enterBasing_outline (n : StationId) (rule : Adoption) (inSample : Bool) (s : State) :
    (enterBasing n rule inSample s).outline = s.outline := by
  simp [enterBasing]
@[simp] theorem leaveLocking_outline (n : StationId) (rule : Adoption) (inSample : Bool) (s : State) :
    (leaveLocking n rule inSample s).outline = s.outline := by
  unfold leaveLocking; split <;> simp
@[simp] theorem actOnLid_outline (n : StationId) (s : State) :
    (actOnLid n s).outline = s.outline := by
  unfold actOnLid; (repeat' split) <;> simp
@[simp] theorem enterLocking_outline (n : StationId) (after : Phase) (rule : Adoption) (inSample : Bool) (s : State) :
    (enterLocking n after rule inSample s).outline = s.outline := by
  simp [enterLocking]
@[simp] theorem leaveBasing_outline (n : StationId) (s : State) :
    (leaveBasing n s).outline = s.outline := by
  unfold leaveBasing; split <;> simp
@[simp] theorem enterStep_outline (n : StationId) (i : Nat) (old : Option Int) (inSample : Bool) (s : State) :
    (enterStep n i old inSample s).outline = s.outline := by
  simp only [enterStep]; (repeat' split) <;> simp
@[simp] theorem enterIdle_outline (n : StationId) (unlock inSample : Bool) (s : State) :
    (enterIdle n unlock inSample s).outline = s.outline := by
  unfold enterIdle; split <;> simp
@[simp] theorem enterWarming_outline (n : StationId) (old : Option Int) (inSample : Bool) (s : State) :
    (enterWarming n old inSample s).outline = s.outline := by
  simp only [enterWarming]; (repeat' split) <;> simp
@[simp] theorem endRecipe_outline (n : StationId) (rec : StepRecord) (old : Option Int) (inSample : Bool) (s : State) :
    (endRecipe n rec old inSample s).outline = s.outline := by
  unfold endRecipe; split <;> simp
@[simp] theorem finishStep_outline (n : StationId) (o : StepOutcome) (inSample : Bool) (s : State) :
    (finishStep n o inSample s).outline = s.outline := by
  simp only [finishStep]; (repeat' split) <;> simp
@[simp] theorem pauseStation_outline (n : StationId) (why : PauseReason) (s : State) :
    (pauseStation n why s).outline = s.outline := by
  simp [pauseStation]
@[simp] theorem endOp_outline (n : StationId) (o : OpOutcome) (s : State) :
    (endOp n o s).outline = s.outline := by
  simp [endOp]
@[simp] theorem changeTare_outline (n : StationId) (t : Int) (s : State) :
    (changeTare n t s).outline = s.outline := by
  simp [changeTare]
@[simp] theorem weighStep_outline (n : StationId) (s : State) :
    (weighStep n s).outline = s.outline := by
  simp only [weighStep]; (repeat' split) <;> simp
@[simp] theorem completeZero_outline (n : StationId) (s : State) :
    (completeZero n s).outline = s.outline := by
  simp only [completeZero, endOp_outline]; exact outline_modSt s n _ (fun _ => rfl)
@[simp] theorem completeCalibrate_outline (n : StationId) (s : State) :
    (completeCalibrate n s).outline = s.outline := by
  simp only [completeCalibrate]; split
  · simp
  · simp only [endOp_outline]; exact outline_modSt s n _ (fun _ => rfl)
@[simp] theorem advanceOp_outline (n : StationId) (x : WeighSample) (s : State) :
    (advanceOp n x s).outline = s.outline := by
  simp only [advanceOp]; (repeat' split) <;> simp
@[simp] theorem acceptSample_outline (n : StationId) (x : WeighSample) (s : State) :
    (acceptSample n x s).outline = s.outline := by
  simp [acceptSample]
@[simp] theorem takeWeighSample_outline (n : StationId) (x : WeighSample) (s : State) :
    (takeWeighSample n x s).outline = s.outline := by
  unfold takeWeighSample; (repeat' split) <;> simp
@[simp] theorem thermoFaults_outline (n : StationId) (t : Int) (fault : Bool) (before : HeatContext) (s : State) :
    (thermoFaults n t fault before s).outline = s.outline := by
  simp only [thermoFaults]; (repeat' split) <;> simp
@[simp] theorem tempStep_outline (n : StationId) (t : Int) (s : State) :
    (tempStep n t s).outline = s.outline := by
  simp only [tempStep]; (repeat' split) <;> simp
@[simp] theorem thermoDemand_outline (n : StationId) (t : Int) (grant demand : Nat) (s : State) :
    (thermoDemand n t grant demand s).outline = s.outline := by
  unfold thermoDemand; (repeat' split) <;> simp
@[simp] theorem takeThermoSample_outline (n : StationId) (t : Int) (fault : Bool) (s : State) :
    (takeThermoSample n t fault s).outline = s.outline := by
  unfold takeThermoSample; split <;> simp
@[simp] theorem takeHeatState_outline (n : StationId) (r : HeatReport) (s : State) :
    (takeHeatState n r s).outline = s.outline := by
  unfold takeHeatState; (repeat' split) <;> simp
@[simp] theorem takeDriveState_outline (n : StationId) (r : DriveReport) (s : State) :
    (takeDriveState n r s).outline = s.outline := by
  unfold takeDriveState; (repeat' split) <;> simp
@[simp] theorem takeLidState_outline (n : StationId) (r : LidReport) (s : State) :
    (takeLidState n r s).outline = s.outline := by
  simp only [takeLidState]; (repeat' split) <;> simp
@[simp] theorem manualSpeed_outline (n : StationId) (v : Nat) (dir : Direction) (s : State) :
    (manualSpeed n v dir s).outline = s.outline := by
  simp [manualSpeed]
@[simp] theorem manualHeat_outline (n : StationId) (w : Nat) (s : State) :
    (manualHeat n w s).outline = s.outline := by
  simp [manualHeat]
@[simp] theorem manualLid_outline (n : StationId) (c : LidCmd) (s : State) :
    (manualLid n c s).outline = s.outline := by
  unfold manualLid; split <;> simp
@[simp] theorem weighSilence_outline (n : StationId) (s : State) :
    (weighSilence n s).outline = s.outline := by
  unfold weighSilence; split <;> simp
@[simp] theorem thermoSilence_outline (n : StationId) (s : State) :
    (thermoSilence n s).outline = s.outline := by
  unfold thermoSilence; split <;> simp
@[simp] theorem heaterSilence_outline (n : StationId) (s : State) :
    (heaterSilence n s).outline = s.outline := by
  simp [heaterSilence]
@[simp] theorem driveSilence_outline (n : StationId) (s : State) :
    (driveSilence n s).outline = s.outline := by
  unfold driveSilence; split <;> simp
@[simp] theorem lidSilence_outline (n : StationId) (s : State) :
    (lidSilence n s).outline = s.outline := by
  unfold lidSilence; (repeat' split) <;> simp
@[simp] theorem roleSilent_outline (n : StationId) (r : Role) (s : State) :
    (roleSilent n r s).outline = s.outline := by
  unfold roleSilent; split <;> simp
@[simp] theorem roleHeard_outline (n : StationId) (r : Role) (s : State) :
    (roleHeard n r s).outline = s.outline := by
  unfold roleHeard; split <;> simp
@[simp] theorem isolateStation_outline (n : StationId) (s : State) :
    (isolateStation n s).outline = s.outline := by
  unfold isolateStation; split <;> simp
@[simp] theorem refreshLid_outline (n : StationId) (s : State) :
    (refreshLid n s).outline = s.outline := by
  unfold refreshLid; (repeat' split) <;> simp
@[simp] theorem sendWeightReport_outline (n : StationId) (s : State) :
    (sendWeightReport n s).outline = s.outline := by
  simp [sendWeightReport]
@[simp] theorem discardUnsent_outline (k : OwnKind) (s : State) :
    (discardUnsent k s).outline = s.outline := by
  exact outline_modPort s _ _ (fun q => by simp)
@[simp] theorem forgetRoles_outline (n : StationId) (old new : Binding) (s : State) :
    (forgetRoles n old new s).outline = s.outline := by
  unfold forgetRoles; (repeat' split) <;> simp
@[simp] theorem followBinding_outline (n : StationId) (old new : Binding) (s : State) :
    (followBinding n old new s).outline = s.outline := by
  unfold followBinding; (repeat' split) <;> simp
@[simp] theorem setBudget_outline (w : Nat) (s : State) :
    (setBudget w s).outline = s.outline := by
  simp [setBudget]
@[simp] theorem startStation_outline (n : StationId) (first : Nat) (s : State) :
    (startStation n first s).outline = s.outline := by
  simp [startStation]
@[simp] theorem resumeLocking_outline (n : StationId) (s : State) :
    (resumeLocking n s).outline = s.outline := by
  simp [resumeLocking]
@[simp] theorem resumePhase_outline (n : StationId) (s : State) :
    (resumePhase n s).outline = s.outline := by
  simp only [resumePhase]; (repeat' split) <;> simp
@[simp] theorem resumeStation_outline (n : StationId) (s : State) :
    (resumeStation n s).outline = s.outline := by
  unfold resumeStation; split <;> simp
@[simp] theorem adjustHeat_outline (n : StationId) (before : Option Int) (a : Adjustment) (s : State) :
    (adjustHeat n before a s).outline = s.outline := by
  unfold adjustHeat; (repeat' split) <;> simp
@[simp] theorem adjustStation_outline (n : StationId) (a : Adjustment) (s : State) :
    (adjustStation n a s).outline = s.outline := by
  unfold adjustStation; split <;> simp
@[simp] theorem startCapture_outline (n : StationId) (op : WeighOp) (mass : Option Int) (s : State) :
    (startCapture n op mass s).outline = s.outline := by
  unfold startCapture; split <;> simp
@[simp] theorem enableNotices_outline (en : BitVec 16) (s : State) :
    (enableNotices en s).outline = s.outline := by
  simp only [enableNotices]; (repeat' split) <;> simp

end Sys2Proof.Machine
end

