-- ==== Sys2Proof/Laws/Contexts.lean ====
section
/-! SUPPORT. What each operation leaves alone inside a station: the run, drive, weigh and heat contexts, the weigh
configuration, the arbiter, the notice set, and the other station as a whole. -/

namespace Sys2Proof.Machine

open Sys2Proof

/-! ### The run context -/

@[simp] theorem countPort_run (p : Port) (c : PortCounter) (s : State) (m : StationId) :
    ((countPort p c s).st m).run = (s.st m).run := by
  simp [countPort]
@[simp] theorem countStation_run (n : StationId) (c : StationCounter) (s : State) (m : StationId) :
    ((countStation n c s).st m).run = (s.st m).run := by
  unfold countStation; cases n <;> cases m <;> rfl
@[simp] theorem updateDropMode_run (p : Port) (s : State) (m : StationId) :
    ((updateDropMode p s).st m).run = (s.st m).run := by
  simp [updateDropMode]
@[simp] theorem updateDropModes_run (s : State) (m : StationId) :
    ((updateDropModes s).st m).run = (s.st m).run := by
  simp [updateDropModes]
@[simp] theorem originate_run (k : OwnKind) (dest : NodeId) (payload : List Byte) (s : State) (m : StationId) :
    ((originate k dest payload s).st m).run = (s.st m).run := by
  unfold originate; split <;> simp
@[simp] theorem originateNotice_run (s : State) (m : StationId) :
    ((originateNotice s).st m).run = (s.st m).run := by
  simp [originateNotice]
@[simp] theorem setNotice_run (b : NoticeBit) (s : State) (m : StationId) :
    ((setNotice b s).st m).run = (s.st m).run := by
  unfold setNotice; (repeat' split) <;> simp
@[simp] theorem sendHeatSet_run (n : StationId) (s : State) (m : StationId) :
    ((sendHeatSet n s).st m).run = (s.st m).run := by
  unfold sendHeatSet; split <;> simp
@[simp] theorem testGrant_run (n : StationId) (s : State) (m : StationId) :
    ((testGrant n s).st m).run = (s.st m).run := by
  unfold testGrant; split <;> simp
@[simp] theorem recomputeArbiter_run (s : State) (m : StationId) :
    ((recomputeArbiter s).st m).run = (s.st m).run := by
  simp [recomputeArbiter]
@[simp] theorem followDemand_run (n : StationId) (s : State) (m : StationId) :
    ((followDemand n s).st m).run = (s.st m).run := by
  unfold followDemand; split <;> simp
@[simp] theorem setDemand_run (n : StationId) (d : Nat) (s : State) (m : StationId) :
    ((setDemand n d s).st m).run = (s.st m).run := by
  unfold setDemand; split <;> simp
@[simp] theorem setDraw_run (n : StationId) (w : Nat) (s : State) (m : StationId) :
    ((setDraw n w s).st m).run = (s.st m).run := by
  unfold setDraw; split <;> simp
@[simp] theorem sendLidSet_run (n : StationId) (c : LidCmd) (s : State) (m : StationId) :
    ((sendLidSet n c s).st m).run = (s.st m).run := by
  unfold sendLidSet; split <;> simp
@[simp] theorem lockLid_run (n : StationId) (s : State) (m : StationId) :
    ((lockLid n s).st m).run = (s.st m).run := by
  unfold lockLid; split <;> simp
@[simp] theorem testUnlock_run (n : StationId) (s : State) (m : StationId) :
    ((testUnlock n s).st m).run = (s.st m).run := by
  unfold testUnlock; split <;> simp
@[simp] theorem askUnlock_run (n : StationId) (s : State) (m : StationId) :
    ((askUnlock n s).st m).run = (s.st m).run := by
  simp [askUnlock]
@[simp] theorem sendSpeedSet_run (n : StationId) (s : State) (m : StationId) :
    ((sendSpeedSet n s).st m).run = (s.st m).run := by
  unfold sendSpeedSet; split <;> simp
@[simp] theorem recomputeDrive_run (n : StationId) (s : State) (m : StationId) :
    ((recomputeDrive n s).st m).run = (s.st m).run := by
  simp only [recomputeDrive]; (repeat' split) <;> simp
@[simp] theorem recomputeEnvelope_run (n : StationId) (s : State) (m : StationId) :
    ((recomputeEnvelope n s).st m).run = (s.st m).run := by
  simp [recomputeEnvelope]
@[simp] theorem dropManualSpeed_run (n : StationId) (s : State) (m : StationId) :
    ((dropManualSpeed n s).st m).run = (s.st m).run := by
  simp [dropManualSpeed]
@[simp] theorem retestReached_run (n : StationId) (s : State) (m : StationId) :
    ((retestReached n s).st m).run = (s.st m).run := by
  simp [retestReached]
@[simp] theorem adoptTarget_run (n : StationId) (rule : Adoption) (inSample : Bool) (s : State) (m : StationId) :
    ((adoptTarget n rule inSample s).st m).run = (s.st m).run := by
  unfold adoptTarget; (repeat' split) <;> simp
@[simp] theorem stateChanged_run (n : StationId) (rule : Adoption) (inSample : Bool) (s : State) (m : StationId) :
    ((stateChanged n rule inSample s).st m).run = (s.st m).run := by
  simp [stateChanged]
@[simp] theorem followManualHeat_run (n : StationId) (s : State) (m : StationId) :
    ((followManualHeat n s).st m).run = (s.st m).run := by
  unfold followManualHeat; split <;> simp
@[simp] theorem dropManualHeat_run (n : StationId) (s : State) (m : StationId) :
    ((dropManualHeat n s).st m).run = (s.st m).run := by
  simp [dropManualHeat]
@[simp] theorem originateStepReport_run (n : StationId) (r : StepReport) (s : State) (m : StationId) :
    ((originateStepReport n r s).st m).run = (s.st m).run := by
  unfold originateStepReport; split <;> simp
@[simp] theorem endOp_run (n : StationId) (o : OpOutcome) (s : State) (m : StationId) :
    ((endOp n o s).st m).run = (s.st m).run := by
  simp [endOp]
@[simp] theorem thermoDemand_run (n : StationId) (t : Int) (grant demand : Nat) (s : State) (m : StationId) :
    ((thermoDemand n t grant demand s).st m).run = (s.st m).run := by
  unfold thermoDemand; (repeat' split) <;> simp
@[simp] theorem manualSpeed_run (n : StationId) (v : Nat) (dir : Direction) (s : State) (m : StationId) :
    ((manualSpeed n v dir s).st m).run = (s.st m).run := by
  simp [manualSpeed]
@[simp] theorem manualHeat_run (n : StationId) (w : Nat) (s : State) (m : StationId) :
    ((manualHeat n w s).st m).run = (s.st m).run := by
  simp [manualHeat]
@[simp] theorem manualLid_run (n : StationId) (c : LidCmd) (s : State) (m : StationId) :
    ((manualLid n c s).st m).run = (s.st m).run := by
  unfold manualLid; split <;> simp
@[simp] theorem roleHeard_run (n : StationId) (r : Role) (s : State) (m : StationId) :
    ((roleHeard n r s).st m).run = (s.st m).run := by
  unfold roleHeard; split <;> simp
@[simp] theorem refreshLid_run (n : StationId) (s : State) (m : StationId) :
    ((refreshLid n s).st m).run = (s.st m).run := by
  unfold refreshLid; (repeat' split) <;> simp
@[simp] theorem sendWeightReport_run (n : StationId) (s : State) (m : StationId) :
    ((sendWeightReport n s).st m).run = (s.st m).run := by
  simp [sendWeightReport]
@[simp] theorem discardUnsent_run (k : OwnKind) (s : State) (m : StationId) :
    ((discardUnsent k s).st m).run = (s.st m).run := by
  simp [discardUnsent]
@[simp] theorem forgetRoles_run (n : StationId) (old new : Binding) (s : State) (m : StationId) :
    ((forgetRoles n old new s).st m).run = (s.st m).run := by
  unfold forgetRoles; (repeat' split) <;> simp
@[simp] theorem followBinding_run (n : StationId) (old new : Binding) (s : State) (m : StationId) :
    ((followBinding n old new s).st m).run = (s.st m).run := by
  unfold followBinding; (repeat' split) <;> simp
@[simp] theorem setBudget_run (w : Nat) (s : State) (m : StationId) :
    ((setBudget w s).st m).run = (s.st m).run := by
  simp [setBudget]
@[simp] theorem startCapture_run (n : StationId) (op : WeighOp) (mass : Option Int) (s : State) (m : StationId) :
    ((startCapture n op mass s).st m).run = (s.st m).run := by
  unfold startCapture; split <;> simp
@[simp] theorem enableNotices_run (en : BitVec 16) (s : State) (m : StationId) :
    ((enableNotices en s).st m).run = (s.st m).run := by
  simp only [enableNotices]; (repeat' split) <;> simp

/-! ### The drive context -/

@[simp] theorem countPort_drive (p : Port) (c : PortCounter) (s : State) (m : StationId) :
    ((countPort p c s).st m).drive = (s.st m).drive := by
  simp [countPort]
@[simp] theorem countStation_drive (n : StationId) (c : StationCounter) (s : State) (m : StationId) :
    ((countStation n c s).st m).drive = (s.st m).drive := by
  unfold countStation; cases n <;> cases m <;> rfl
@[simp] theorem updateDropMode_drive (p : Port) (s : State) (m : StationId) :
    ((updateDropMode p s).st m).drive = (s.st m).drive := by
  simp [updateDropMode]
@[simp] theorem updateDropModes_drive (s : State) (m : StationId) :
    ((updateDropModes s).st m).drive = (s.st m).drive := by
  simp [updateDropModes]
@[simp] theorem originate_drive (k : OwnKind) (dest : NodeId) (payload : List Byte) (s : State) (m : StationId) :
    ((originate k dest payload s).st m).drive = (s.st m).drive := by
  unfold originate; split <;> simp
@[simp] theorem originateNotice_drive (s : State) (m : StationId) :
    ((originateNotice s).st m).drive = (s.st m).drive := by
  simp [originateNotice]
@[simp] theorem setNotice_drive (b : NoticeBit) (s : State) (m : StationId) :
    ((setNotice b s).st m).drive = (s.st m).drive := by
  unfold setNotice; (repeat' split) <;> simp
@[simp] theorem sendHeatSet_drive (n : StationId) (s : State) (m : StationId) :
    ((sendHeatSet n s).st m).drive = (s.st m).drive := by
  unfold sendHeatSet; split <;> simp
@[simp] theorem testGrant_drive (n : StationId) (s : State) (m : StationId) :
    ((testGrant n s).st m).drive = (s.st m).drive := by
  unfold testGrant; split <;> simp
@[simp] theorem recomputeArbiter_drive (s : State) (m : StationId) :
    ((recomputeArbiter s).st m).drive = (s.st m).drive := by
  simp [recomputeArbiter]
@[simp] theorem followDemand_drive (n : StationId) (s : State) (m : StationId) :
    ((followDemand n s).st m).drive = (s.st m).drive := by
  unfold followDemand; split <;> simp
@[simp] theorem setDemand_drive (n : StationId) (d : Nat) (s : State) (m : StationId) :
    ((setDemand n d s).st m).drive = (s.st m).drive := by
  unfold setDemand; split <;> simp
@[simp] theorem setDraw_drive (n : StationId) (w : Nat) (s : State) (m : StationId) :
    ((setDraw n w s).st m).drive = (s.st m).drive := by
  unfold setDraw; split <;> simp
@[simp] theorem sendLidSet_drive (n : StationId) (c : LidCmd) (s : State) (m : StationId) :
    ((sendLidSet n c s).st m).drive = (s.st m).drive := by
  unfold sendLidSet; split <;> simp
@[simp] theorem sendSpeedSet_drive (n : StationId) (s : State) (m : StationId) :
    ((sendSpeedSet n s).st m).drive = (s.st m).drive := by
  unfold sendSpeedSet; split <;> simp
@[simp] theorem retestReached_drive (n : StationId) (s : State) (m : StationId) :
    ((retestReached n s).st m).drive = (s.st m).drive := by
  simp [retestReached]
@[simp] theorem adoptTarget_drive (n : StationId) (rule : Adoption) (inSample : Bool) (s : State) (m : StationId) :
    ((adoptTarget n rule inSample s).st m).drive = (s.st m).drive := by
  unfold adoptTarget; (repeat' split) <;> simp
@[simp] theorem followManualHeat_drive (n : StationId) (s : State) (m : StationId) :
    ((followManualHeat n s).st m).drive = (s.st m).drive := by
  unfold followManualHeat; split <;> simp
@[simp] theorem originateStepReport_drive (n : StationId) (r : StepReport) (s : State) (m : StationId) :
    ((originateStepReport n r s).st m).drive = (s.st m).drive := by
  unfold originateStepReport; split <;> simp
@[simp] theorem endStep_drive (n : StationId) (o : StepOutcome) (s : State) (m : StationId) :
    ((endStep n o s).st m).drive = (s.st m).drive := by
  simp [endStep]
@[simp] theorem furtherFault_drive (n : StationId) (s : State) (m : StationId) :
    ((furtherFault n s).st m).drive = (s.st m).drive := by
  simp [furtherFault]
@[simp] theorem endOp_drive (n : StationId) (o : OpOutcome) (s : State) (m : StationId) :
    ((endOp n o s).st m).drive = (s.st m).drive := by
  simp [endOp]
@[simp] theorem changeTare_drive (n : StationId) (t : Int) (s : State) (m : StationId) :
    ((changeTare n t s).st m).drive = (s.st m).drive := by
  simp [changeTare]
@[simp] theorem thermoDemand_drive (n : StationId) (t : Int) (grant demand : Nat) (s : State) (m : StationId) :
    ((thermoDemand n t grant demand s).st m).drive = (s.st m).drive := by
  unfold thermoDemand; (repeat' split) <;> simp
@[simp] theorem refreshLid_drive (n : StationId) (s : State) (m : StationId) :
    ((refreshLid n s).st m).drive = (s.st m).drive := by
  unfold refreshLid; (repeat' split) <;> simp
@[simp] theorem sendWeightReport_drive (n : StationId) (s : State) (m : StationId) :
    ((sendWeightReport n s).st m).drive = (s.st m).drive := by
  simp [sendWeightReport]
@[simp] theorem discardUnsent_drive (k : OwnKind) (s : State) (m : StationId) :
    ((discardUnsent k s).st m).drive = (s.st m).drive := by
  simp [discardUnsent]
@[simp] theorem setBudget_drive (w : Nat) (s : State) (m : StationId) :
    ((setBudget w s).st m).drive = (s.st m).drive := by
  simp [setBudget]
@[simp] theorem startCapture_drive (n : StationId) (op : WeighOp) (mass : Option Int) (s : State) (m : StationId) :
    ((startCapture n op mass s).st m).drive = (s.st m).drive := by
  unfold startCapture; split <;> simp
@[simp] theorem enableNotices_drive (en : BitVec 16) (s : State) (m : StationId) :
    ((enableNotices en s).st m).drive = (s.st m).drive := by
  simp only [enableNotices]; (repeat' split) <;> simp

/-! ### The weigh context -/

@[simp] theorem countPort_weigh (p : Port) (c : PortCounter) (s : State) (m : StationId) :
    ((countPort p c s).st m).weigh = (s.st m).weigh := by
  simp [countPort]
@[simp] theorem countStation_weigh (n : StationId) (c : StationCounter) (s : State) (m : StationId) :
    ((countStation n c s).st m).weigh = (s.st m).weigh := by
  unfold countStation; cases n <;> cases m <;> rfl
@[simp] theorem updateDropMode_weigh (p : Port) (s : State) (m : StationId) :
    ((updateDropMode p s).st m).weigh = (s.st m).weigh := by
  simp [updateDropMode]
@[simp] theorem updateDropModes_weigh (s : State) (m : StationId) :
    ((updateDropModes s).st m).weigh = (s.st m).weigh := by
  simp [updateDropModes]
@[simp] theorem originate_weigh (k : OwnKind) (dest : NodeId) (payload : List Byte) (s : State) (m : StationId) :
    ((originate k dest payload s).st m).weigh = (s.st m).weigh := by
  unfold originate; split <;> simp
@[simp] theorem originateNotice_weigh (s : State) (m : StationId) :
    ((originateNotice s).st m).weigh = (s.st m).weigh := by
  simp [originateNotice]
@[simp] theorem setNotice_weigh (b : NoticeBit) (s : State) (m : StationId) :
    ((setNotice b s).st m).weigh = (s.st m).weigh := by
  unfold setNotice; (repeat' split) <;> simp
@[simp] theorem sendHeatSet_weigh (n : StationId) (s : State) (m : StationId) :
    ((sendHeatSet n s).st m).weigh = (s.st m).weigh := by
  unfold sendHeatSet; split <;> simp
@[simp] theorem testGrant_weigh (n : StationId) (s : State) (m : StationId) :
    ((testGrant n s).st m).weigh = (s.st m).weigh := by
  unfold testGrant; split <;> simp
@[simp] theorem recomputeArbiter_weigh (s : State) (m : StationId) :
    ((recomputeArbiter s).st m).weigh = (s.st m).weigh := by
  simp [recomputeArbiter]
@[simp] theorem followDemand_weigh (n : StationId) (s : State) (m : StationId) :
    ((followDemand n s).st m).weigh = (s.st m).weigh := by
  unfold followDemand; split <;> simp
@[simp] theorem setDemand_weigh (n : StationId) (d : Nat) (s : State) (m : StationId) :
    ((setDemand n d s).st m).weigh = (s.st m).weigh := by
  unfold setDemand; split <;> simp
@[simp] theorem setDraw_weigh (n : StationId) (w : Nat) (s : State) (m : StationId) :
    ((setDraw n w s).st m).weigh = (s.st m).weigh := by
  unfold setDraw; split <;> simp
@[simp] theorem sendLidSet_weigh (n : StationId) (c : LidCmd) (s : State) (m : StationId) :
    ((sendLidSet n c s).st m).weigh = (s.st m).weigh := by
  unfold sendLidSet; split <;> simp
@[simp] theorem lockLid_weigh (n : StationId) (s : State) (m : StationId) :
    ((lockLid n s).st m).weigh = (s.st m).weigh := by
  unfold lockLid; split <;> simp
@[simp] theorem testUnlock_weigh (n : StationId) (s : State) (m : StationId) :
    ((testUnlock n s).st m).weigh = (s.st m).weigh := by
  unfold testUnlock; split <;> simp
@[simp] theorem askUnlock_weigh (n : StationId) (s : State) (m : StationId) :
    ((askUnlock n s).st m).weigh = (s.st m).weigh := by
  simp [askUnlock]
@[simp] theorem sendSpeedSet_weigh (n : StationId) (s : State) (m : StationId) :
    ((sendSpeedSet n s).st m).weigh = (s.st m).weigh := by
  unfold sendSpeedSet; split <;> simp
@[simp] theorem recomputeDrive_weigh (n : StationId) (s : State) (m : StationId) :
    ((recomputeDrive n s).st m).weigh = (s.st m).weigh := by
  simp only [recomputeDrive]; (repeat' split) <;> simp
@[simp] theorem recomputeEnvelope_weigh (n : StationId) (s : State) (m : StationId) :
    ((recomputeEnvelope n s).st m).weigh = (s.st m).weigh := by
  simp [recomputeEnvelope]
@[simp] theorem dropManualSpeed_weigh (n : StationId) (s : State) (m : StationId) :
    ((dropManualSpeed n s).st m).weigh = (s.st m).weigh := by
  simp [dropManualSpeed]
@[simp] theorem retestReached_weigh (n : StationId) (s : State) (m : StationId) :
    ((retestReached n s).st m).weigh = (s.st m).weigh := by
  simp [retestReached]
@[simp] theorem adoptTarget_weigh (n : StationId) (rule : Adoption) (inSample : Bool) (s : State) (m : StationId) :
    ((adoptTarget n rule inSample s).st m).weigh = (s.st m).weigh := by
  unfold adoptTarget; (repeat' split) <;> simp
@[simp] theorem stateChanged_weigh (n : StationId) (rule : Adoption) (inSample : Bool) (s : State) (m : StationId) :
    ((stateChanged n rule inSample s).st m).weigh = (s.st m).weigh := by
  simp [stateChanged]
@[simp] theorem followManualHeat_weigh (n : StationId) (s : State) (m : StationId) :
    ((followManualHeat n s).st m).weigh = (s.st m).weigh := by
  unfold followManualHeat; split <;> simp
@[simp] theorem dropManualHeat_weigh (n : StationId) (s : State) (m : StationId) :
    ((dropManualHeat n s).st m).weigh = (s.st m).weigh := by
  simp [dropManualHeat]
@[simp] theorem originateStepReport_weigh (n : StationId) (r : StepReport) (s : State) (m : StationId) :
    ((originateStepReport n r s).st m).weigh = (s.st m).weigh := by
  unfold originateStepReport; split <;> simp
@[simp] theorem endStep_weigh (n : StationId) (o : StepOutcome) (s : State) (m : StationId) :
    ((endStep n o s).st m).weigh = (s.st m).weigh := by
  simp [endStep]
@[simp] theorem furtherFault_weigh (n : StationId) (s : State) (m : StationId) :
    ((furtherFault n s).st m).weigh = (s.st m).weigh := by
  simp [furtherFault]
@[simp] theorem enterFault_weigh (n : StationId) (c : FaultCause) (further : Nat) (inSample : Bool) (s : State) (m : StationId) :
    ((enterFault n c further inSample s).st m).weigh = (s.st m).weigh := by
  unfold enterFault; split <;> simp
@[simp] theorem raiseCause_weigh (n : StationId) (c : FaultCause) (carried : Bool) (s : State) (m : StationId) :
    ((raiseCause n c carried s).st m).weigh = (s.st m).weigh := by
  unfold raiseCause; (repeat' split) <;> simp
@[simp] theorem raiseSilence_weigh (n : StationId) (c : FaultCause) (faults : Bool) (s : State) (m : StationId) :
    ((raiseSilence n c faults s).st m).weigh = (s.st m).weigh := by
  unfold raiseSilence; (repeat' split) <;> simp
@[simp] theorem enterActive_weigh (n : StationId) (rule : Adoption) (inSample : Bool) (s : State) (m : StationId) :
    ((enterActive n rule inSample s).st m).weigh = (s.st m).weigh := by
  simp only [enterActive]; (repeat' split) <;> simp
@[simp] theorem enterBasing_weigh (n : StationId) (rule : Adoption) (inSample : Bool) (s : State) (m : StationId) :
    ((enterBasing n rule inSample s).st m).weigh = (s.st m).weigh := by
  simp [enterBasing]
@[simp] theorem leaveLocking_weigh (n : StationId) (rule : Adoption) (inSample : Bool) (s : State) (m : StationId) :
    ((leaveLocking n rule inSample s).st m).weigh = (s.st m).weigh := by
  unfold leaveLocking; split <;> simp
@[simp] theorem actOnLid_weigh (n : StationId) (s : State) (m : StationId) :
    ((actOnLid n s).st m).weigh = (s.st m).weigh := by
  unfold actOnLid; (repeat' split) <;> simp
@[simp] theorem enterLocking_weigh (n : StationId) (after : Phase) (rule : Adoption) (inSample : Bool) (s : State) (m : StationId) :
    ((enterLocking n after rule inSample s).st m).weigh = (s.st m).weigh := by
  simp [enterLocking]
@[simp] theorem leaveBasing_weigh (n : StationId) (s : State) (m : StationId) :
    ((leaveBasing n s).st m).weigh = (s.st m).weigh := by
  unfold leaveBasing; split <;> simp
@[simp] theorem enterStep_weigh (n : StationId) (i : Nat) (old : Option Int) (inSample : Bool) (s : State) (m : StationId) :
    ((enterStep n i old inSample s).st m).weigh = (s.st m).weigh := by
  simp only [enterStep]; (repeat' split) <;> simp
@[simp] theorem enterIdle_weigh (n : StationId) (unlock inSample : Bool) (s : State) (m : StationId) :
    ((enterIdle n unlock inSample s).st m).weigh = (s.st m).weigh := by
  unfold enterIdle; split <;> simp
@[simp] theorem enterWarming_weigh (n : StationId) (old : Option Int) (inSample : Bool) (s : State) (m : StationId) :
    ((enterWarming n old inSample s).st m).weigh = (s.st m).weigh := by
  simp only [enterWarming]; (repeat' split) <;> simp
@[simp] theorem endRecipe_weigh (n : StationId) (rec : StepRecord) (old : Option Int) (inSample : Bool) (s : State) (m : StationId) :
    ((endRecipe n rec old inSample s).st m).weigh = (s.st m).weigh := by
  unfold endRecipe; split <;> simp
@[simp] theorem finishStep_weigh (n : StationId) (o : StepOutcome) (inSample : Bool) (s : State) (m : StationId) :
    ((finishStep n o inSample s).st m).weigh = (s.st m).weigh := by
  simp only [finishStep]; (repeat' split) <;> simp
@[simp] theorem pauseStation_weigh (n : StationId) (why : PauseReason) (s : State) (m : StationId) :
    ((pauseStation n why s).st m).weigh = (s.st m).weigh := by
  simp [pauseStation]
@[simp] theorem weighStep_weigh (n : StationId) (s : State) (m : StationId) :
    ((weighStep n s).st m).weigh = (s.st m).weigh := by
  simp only [weighStep]; (repeat' split) <;> simp
@[simp] theorem thermoFaults_weigh (n : StationId) (t : Int) (fault : Bool) (before : HeatContext) (s : State) (m : StationId) :
    ((thermoFaults n t fault before s).st m).weigh = (s.st m).weigh := by
  simp only [thermoFaults]; (repeat' split) <;> simp
@[simp] theorem tempStep_weigh (n : StationId) (t : Int) (s : State) (m : StationId) :
    ((tempStep n t s).st m).weigh = (s.st m).weigh := by
  simp only [tempStep]; (repeat' split) <;> simp
@[simp] theorem thermoDemand_weigh (n : StationId) (t : Int) (grant demand : Nat) (s : State) (m : StationId) :
    ((thermoDemand n t grant demand s).st m).weigh = (s.st m).weigh := by
  unfold thermoDemand; (repeat' split) <;> simp
@[simp] theorem takeThermoSample_weigh (n : StationId) (t : Int) (fault : Bool) (s : State) (m : StationId) :
    ((takeThermoSample n t fault s).st m).weigh = (s.st m).weigh := by
  unfold takeThermoSample; split <;> simp
@[simp] theorem takeHeatState_weigh (n : StationId) (r : HeatReport) (s : State) (m : StationId) :
    ((takeHeatState n r s).st m).weigh = (s.st m).weigh := by
  unfold takeHeatState; (repeat' split) <;> simp
@[simp] theorem takeDriveState_weigh (n : StationId) (r : DriveReport) (s : State) (m : StationId) :
    ((takeDriveState n r s).st m).weigh = (s.st m).weigh := by
  unfold takeDriveState; (repeat' split) <;> simp
@[simp] theorem takeLidState_weigh (n : StationId) (r : LidReport) (s : State) (m : StationId) :
    ((takeLidState n r s).st m).weigh = (s.st m).weigh := by
  simp only [takeLidState]; (repeat' split) <;> simp
@[simp] theorem manualSpeed_weigh (n : StationId) (v : Nat) (dir : Direction) (s : State) (m : StationId) :
    ((manualSpeed n v dir s).st m).weigh = (s.st m).weigh := by
  simp [manualSpeed]
@[simp] theorem manualHeat_weigh (n : StationId) (w : Nat) (s : State) (m : StationId) :
    ((manualHeat n w s).st m).weigh = (s.st m).weigh := by
  simp [manualHeat]
@[simp] theorem manualLid_weigh (n : StationId) (c : LidCmd) (s : State) (m : StationId) :
    ((manualLid n c s).st m).weigh = (s.st m).weigh := by
  unfold manualLid; split <;> simp
@[simp] theorem thermoSilence_weigh (n : StationId) (s : State) (m : StationId) :
    ((thermoSilence n s).st m).weigh = (s.st m).weigh := by
  unfold thermoSilence; split <;> simp
@[simp] theorem heaterSilence_weigh (n : StationId) (s : State) (m : StationId) :
    ((heaterSilence n s).st m).weigh = (s.st m).weigh := by
  simp [heaterSilence]
@[simp] theorem driveSilence_weigh (n : StationId) (s : State) (m : StationId) :
    ((driveSilence n s).st m).weigh = (s.st m).weigh := by
  unfold driveSilence; split <;> simp
@[simp] theorem lidSilence_weigh (n : StationId) (s : State) (m : StationId) :
    ((lidSilence n s).st m).weigh = (s.st m).weigh := by
  unfold lidSilence; (repeat' split) <;> simp
@[simp] theorem roleHeard_weigh (n : StationId) (r : Role) (s : State) (m : StationId) :
    ((roleHeard n r s).st m).weigh = (s.st m).weigh := by
  unfold roleHeard; split <;> simp
@[simp] theorem isolateStation_weigh (n : StationId) (s : State) (m : StationId) :
    ((isolateStation n s).st m).weigh = (s.st m).weigh := by
  unfold isolateStation; split <;> simp
@[simp] theorem refreshLid_weigh (n : StationId) (s : State) (m : StationId) :
    ((refreshLid n s).st m).weigh = (s.st m).weigh := by
  unfold refreshLid; (repeat' split) <;> simp
@[simp] theorem sendWeightReport_weigh (n : StationId) (s : State) (m : StationId) :
    ((sendWeightReport n s).st m).weigh = (s.st m).weigh := by
  simp [sendWeightReport]
@[simp] theorem discardUnsent_weigh (k : OwnKind) (s : State) (m : StationId) :
    ((discardUnsent k s).st m).weigh = (s.st m).weigh := by
  simp [discardUnsent]
@[simp] theorem followBinding_weigh (n : StationId) (old new : Binding) (s : State) (m : StationId) :
    ((followBinding n old new s).st m).weigh = (s.st m).weigh := by
  unfold followBinding; (repeat' split) <;> simp
@[simp] theorem setBudget_weigh (w : Nat) (s : State) (m : StationId) :
    ((setBudget w s).st m).weigh = (s.st m).weigh := by
  simp [setBudget]
@[simp] theorem startStation_weigh (n : StationId) (first : Nat) (s : State) (m : StationId) :
    ((startStation n first s).st m).weigh = (s.st m).weigh := by
  simp [startStation]
@[simp] theorem resumeLocking_weigh (n : StationId) (s : State) (m : StationId) :
    ((resumeLocking n s).st m).weigh = (s.st m).weigh := by
  simp [resumeLocking]
@[simp] theorem resumePhase_weigh (n : StationId) (s : State) (m : StationId) :
    ((resumePhase n s).st m).weigh = (s.st m).weigh := by
  simp only [resumePhase]; (repeat' split) <;> simp
@[simp] theorem resumeStation_weigh (n : StationId) (s : State) (m : StationId) :
    ((resumeStation n s).st m).weigh = (s.st m).weigh := by
  unfold resumeStation; split <;> simp
@[simp] theorem adjustHeat_weigh (n : StationId) (before : Option Int) (a : Adjustment) (s : State) (m : StationId) :
    ((adjustHeat n before a s).st m).weigh = (s.st m).weigh := by
  unfold adjustHeat; (repeat' split) <;> simp
@[simp] theorem adjustStation_weigh (n : StationId) (a : Adjustment) (s : State) (m : StationId) :
    ((adjustStation n a s).st m).weigh = (s.st m).weigh := by
  unfold adjustStation; split <;> simp
@[simp] theorem enableNotices_weigh (en : BitVec 16) (s : State) (m : StationId) :
    ((enableNotices en s).st m).weigh = (s.st m).weigh := by
  simp only [enableNotices]; (repeat' split) <;> simp

/-! ### The weigh configuration -/

@[simp] theorem countPort_weighCfg (p : Port) (c : PortCounter) (s : State) (m : StationId) :
    ((countPort p c s).st m).weighCfg = (s.st m).weighCfg := by
  simp [countPort]
@[simp] theorem countStation_weighCfg (n : StationId) (c : StationCounter) (s : State) (m : StationId) :
    ((countStation n c s).st m).weighCfg = (s.st m).weighCfg := by
  unfold countStation; cases n <;> cases m <;> rfl
@[simp] theorem updateDropMode_weighCfg (p : Port) (s : State) (m : StationId) :
    ((updateDropMode p s).st m).weighCfg = (s.st m).weighCfg := by
  simp [updateDropMode]
@[simp] theorem updateDropModes_weighCfg (s : State) (m : StationId) :
    ((updateDropModes s).st m).weighCfg = (s.st m).weighCfg := by
  simp [updateDropModes]
@[simp] theorem originate_weighCfg (k : OwnKind) (dest : NodeId) (payload : List Byte) (s : State) (m : StationId) :
    ((originate k dest payload s).st m).weighCfg = (s.st m).weighCfg := by
  unfold originate; split <;> simp
@[simp] theorem originateNotice_weighCfg (s : State) (m : StationId) :
    ((originateNotice s).st m).weighCfg = (s.st m).weighCfg := by
  simp [originateNotice]
@[simp] theorem setNotice_weighCfg (b : NoticeBit) (s : State) (m : StationId) :
    ((setNotice b s).st m).weighCfg = (s.st m).weighCfg := by
  unfold setNotice; (repeat' split) <;> simp
@[simp] theorem sendHeatSet_weighCfg (n : StationId) (s : State) (m : StationId) :
    ((sendHeatSet n s).st m).weighCfg = (s.st m).weighCfg := by
  unfold sendHeatSet; split <;> simp
@[simp] theorem testGrant_weighCfg (n : StationId) (s : State) (m : StationId) :
    ((testGrant n s).st m).weighCfg = (s.st m).weighCfg := by
  unfold testGrant; split <;> simp
@[simp] theorem recomputeArbiter_weighCfg (s : State) (m : StationId) :
    ((recomputeArbiter s).st m).weighCfg = (s.st m).weighCfg := by
  simp [recomputeArbiter]
@[simp] theorem followDemand_weighCfg (n : StationId) (s : State) (m : StationId) :
    ((followDemand n s).st m).weighCfg = (s.st m).weighCfg := by
  unfold followDemand; split <;> simp
@[simp] theorem setDemand_weighCfg (n : StationId) (d : Nat) (s : State) (m : StationId) :
    ((setDemand n d s).st m).weighCfg = (s.st m).weighCfg := by
  unfold setDemand; split <;> simp
@[simp] theorem setDraw_weighCfg (n : StationId) (w : Nat) (s : State) (m : StationId) :
    ((setDraw n w s).st m).weighCfg = (s.st m).weighCfg := by
  unfold setDraw; split <;> simp
@[simp] theorem sendLidSet_weighCfg (n : StationId) (c : LidCmd) (s : State) (m : StationId) :
    ((sendLidSet n c s).st m).weighCfg = (s.st m).weighCfg := by
  unfold sendLidSet; split <;> simp
@[simp] theorem lockLid_weighCfg (n : StationId) (s : State) (m : StationId) :
    ((lockLid n s).st m).weighCfg = (s.st m).weighCfg := by
  unfold lockLid; split <;> simp
@[simp] theorem testUnlock_weighCfg (n : StationId) (s : State) (m : StationId) :
    ((testUnlock n s).st m).weighCfg = (s.st m).weighCfg := by
  unfold testUnlock; split <;> simp
@[simp] theorem askUnlock_weighCfg (n : StationId) (s : State) (m : StationId) :
    ((askUnlock n s).st m).weighCfg = (s.st m).weighCfg := by
  simp [askUnlock]
@[simp] theorem sendSpeedSet_weighCfg (n : StationId) (s : State) (m : StationId) :
    ((sendSpeedSet n s).st m).weighCfg = (s.st m).weighCfg := by
  unfold sendSpeedSet; split <;> simp
@[simp] theorem recomputeDrive_weighCfg (n : StationId) (s : State) (m : StationId) :
    ((recomputeDrive n s).st m).weighCfg = (s.st m).weighCfg := by
  simp only [recomputeDrive]; (repeat' split) <;> simp
@[simp] theorem recomputeEnvelope_weighCfg (n : StationId) (s : State) (m : StationId) :
    ((recomputeEnvelope n s).st m).weighCfg = (s.st m).weighCfg := by
  simp [recomputeEnvelope]
@[simp] theorem dropManualSpeed_weighCfg (n : StationId) (s : State) (m : StationId) :
    ((dropManualSpeed n s).st m).weighCfg = (s.st m).weighCfg := by
  simp [dropManualSpeed]
@[simp] theorem retestReached_weighCfg (n : StationId) (s : State) (m : StationId) :
    ((retestReached n s).st m).weighCfg = (s.st m).weighCfg := by
  simp [retestReached]
@[simp] theorem adoptTarget_weighCfg (n : StationId) (rule : Adoption) (inSample : Bool) (s : State) (m : StationId) :
    ((adoptTarget n rule inSample s).st m).weighCfg = (s.st m).weighCfg := by
  unfold adoptTarget; (repeat' split) <;> simp
@[simp] theorem stateChanged_weighCfg (n : StationId) (rule : Adoption) (inSample : Bool) (s : State) (m : StationId) :
    ((stateChanged n rule inSample s).st m).weighCfg = (s.st m).weighCfg := by
  simp [stateChanged]
@[simp] theorem followManualHeat_weighCfg (n : StationId) (s : State) (m : StationId) :
    ((followManualHeat n s).st m).weighCfg = (s.st m).weighCfg := by
  unfold followManualHeat; split <;> simp
@[simp] theorem dropManualHeat_weighCfg (n : StationId) (s : State) (m : StationId) :
    ((dropManualHeat n s).st m).weighCfg = (s.st m).weighCfg := by
  simp [dropManualHeat]
@[simp] theorem originateStepReport_weighCfg (n : StationId) (r : StepReport) (s : State) (m : StationId) :
    ((originateStepReport n r s).st m).weighCfg = (s.st m).weighCfg := by
  unfold originateStepReport; split <;> simp
@[simp] theorem endStep_weighCfg (n : StationId) (o : StepOutcome) (s : State) (m : StationId) :
    ((endStep n o s).st m).weighCfg = (s.st m).weighCfg := by
  simp [endStep]
@[simp] theorem furtherFault_weighCfg (n : StationId) (s : State) (m : StationId) :
    ((furtherFault n s).st m).weighCfg = (s.st m).weighCfg := by
  simp [furtherFault]
@[simp] theorem enterFault_weighCfg (n : StationId) (c : FaultCause) (further : Nat) (inSample : Bool) (s : State) (m : StationId) :
    ((enterFault n c further inSample s).st m).weighCfg = (s.st m).weighCfg := by
  unfold enterFault; split <;> simp
@[simp] theorem raiseCause_weighCfg (n : StationId) (c : FaultCause) (carried : Bool) (s : State) (m : StationId) :
    ((raiseCause n c carried s).st m).weighCfg = (s.st m).weighCfg := by
  unfold raiseCause; (repeat' split) <;> simp
@[simp] theorem raiseSilence_weighCfg (n : StationId) (c : FaultCause) (faults : Bool) (s : State) (m : StationId) :
    ((raiseSilence n c faults s).st m).weighCfg = (s.st m).weighCfg := by
  unfold raiseSilence; (repeat' split) <;> simp
@[simp] theorem enterActive_weighCfg (n : StationId) (rule : Adoption) (inSample : Bool) (s : State) (m : StationId) :
    ((enterActive n rule inSample s).st m).weighCfg = (s.st m).weighCfg := by
  simp only [enterActive]; (repeat' split) <;> simp
@[simp] theorem enterBasing_weighCfg (n : StationId) (rule : Adoption) (inSample : Bool) (s : State) (m : StationId) :
    ((enterBasing n rule inSample s).st m).weighCfg = (s.st m).weighCfg := by
  simp [enterBasing]
@[simp] theorem leaveLocking_weighCfg (n : StationId) (rule : Adoption) (inSample : Bool) (s : State) (m : StationId) :
    ((leaveLocking n rule inSample s).st m).weighCfg = (s.st m).weighCfg := by
  unfold leaveLocking; split <;> simp
@[simp] theorem actOnLid_weighCfg (n : StationId) (s : State) (m : StationId) :
    ((actOnLid n s).st m).weighCfg = (s.st m).weighCfg := by
  unfold actOnLid; (repeat' split) <;> simp
@[simp] theorem enterLocking_weighCfg (n : StationId) (after : Phase) (rule : Adoption) (inSample : Bool) (s : State) (m : StationId) :
    ((enterLocking n after rule inSample s).st m).weighCfg = (s.st m).weighCfg := by
  simp [enterLocking]
@[simp] theorem leaveBasing_weighCfg (n : StationId) (s : State) (m : StationId) :
    ((leaveBasing n s).st m).weighCfg = (s.st m).weighCfg := by
  unfold leaveBasing; split <;> simp
@[simp] theorem enterStep_weighCfg (n : StationId) (i : Nat) (old : Option Int) (inSample : Bool) (s : State) (m : StationId) :
    ((enterStep n i old inSample s).st m).weighCfg = (s.st m).weighCfg := by
  simp only [enterStep]; (repeat' split) <;> simp
@[simp] theorem enterIdle_weighCfg (n : StationId) (unlock inSample : Bool) (s : State) (m : StationId) :
    ((enterIdle n unlock inSample s).st m).weighCfg = (s.st m).weighCfg := by
  unfold enterIdle; split <;> simp
@[simp] theorem enterWarming_weighCfg (n : StationId) (old : Option Int) (inSample : Bool) (s : State) (m : StationId) :
    ((enterWarming n old inSample s).st m).weighCfg = (s.st m).weighCfg := by
  simp only [enterWarming]; (repeat' split) <;> simp
@[simp] theorem endRecipe_weighCfg (n : StationId) (rec : StepRecord) (old : Option Int) (inSample : Bool) (s : State) (m : StationId) :
    ((endRecipe n rec old inSample s).st m).weighCfg = (s.st m).weighCfg := by
  unfold endRecipe; split <;> simp
@[simp] theorem finishStep_weighCfg (n : StationId) (o : StepOutcome) (inSample : Bool) (s : State) (m : StationId) :
    ((finishStep n o inSample s).st m).weighCfg = (s.st m).weighCfg := by
  simp only [finishStep]; (repeat' split) <;> simp
@[simp] theorem pauseStation_weighCfg (n : StationId) (why : PauseReason) (s : State) (m : StationId) :
    ((pauseStation n why s).st m).weighCfg = (s.st m).weighCfg := by
  simp [pauseStation]
@[simp] theorem endOp_weighCfg (n : StationId) (o : OpOutcome) (s : State) (m : StationId) :
    ((endOp n o s).st m).weighCfg = (s.st m).weighCfg := by
  simp [endOp]
@[simp] theorem changeTare_weighCfg (n : StationId) (t : Int) (s : State) (m : StationId) :
    ((changeTare n t s).st m).weighCfg = (s.st m).weighCfg := by
  simp [changeTare]
@[simp] theorem weighStep_weighCfg (n : StationId) (s : State) (m : StationId) :
    ((weighStep n s).st m).weighCfg = (s.st m).weighCfg := by
  simp only [weighStep]; (repeat' split) <;> simp
@[simp] theorem thermoFaults_weighCfg (n : StationId) (t : Int) (fault : Bool) (before : HeatContext) (s : State) (m : StationId) :
    ((thermoFaults n t fault before s).st m).weighCfg = (s.st m).weighCfg := by
  simp only [thermoFaults]; (repeat' split) <;> simp
@[simp] theorem tempStep_weighCfg (n : StationId) (t : Int) (s : State) (m : StationId) :
    ((tempStep n t s).st m).weighCfg = (s.st m).weighCfg := by
  simp only [tempStep]; (repeat' split) <;> simp
@[simp] theorem thermoDemand_weighCfg (n : StationId) (t : Int) (grant demand : Nat) (s : State) (m : StationId) :
    ((thermoDemand n t grant demand s).st m).weighCfg = (s.st m).weighCfg := by
  unfold thermoDemand; (repeat' split) <;> simp
@[simp] theorem takeThermoSample_weighCfg (n : StationId) (t : Int) (fault : Bool) (s : State) (m : StationId) :
    ((takeThermoSample n t fault s).st m).weighCfg = (s.st m).weighCfg := by
  unfold takeThermoSample; split <;> simp
@[simp] theorem takeHeatState_weighCfg (n : StationId) (r : HeatReport) (s : State) (m : StationId) :
    ((takeHeatState n r s).st m).weighCfg = (s.st m).weighCfg := by
  unfold takeHeatState; (repeat' split) <;> simp
@[simp] theorem takeDriveState_weighCfg (n : StationId) (r : DriveReport) (s : State) (m : StationId) :
    ((takeDriveState n r s).st m).weighCfg = (s.st m).weighCfg := by
  unfold takeDriveState; (repeat' split) <;> simp
@[simp] theorem takeLidState_weighCfg (n : StationId) (r : LidReport) (s : State) (m : StationId) :
    ((takeLidState n r s).st m).weighCfg = (s.st m).weighCfg := by
  simp only [takeLidState]; (repeat' split) <;> simp
@[simp] theorem manualSpeed_weighCfg (n : StationId) (v : Nat) (dir : Direction) (s : State) (m : StationId) :
    ((manualSpeed n v dir s).st m).weighCfg = (s.st m).weighCfg := by
  simp [manualSpeed]
@[simp] theorem manualHeat_weighCfg (n : StationId) (w : Nat) (s : State) (m : StationId) :
    ((manualHeat n w s).st m).weighCfg = (s.st m).weighCfg := by
  simp [manualHeat]
@[simp] theorem manualLid_weighCfg (n : StationId) (c : LidCmd) (s : State) (m : StationId) :
    ((manualLid n c s).st m).weighCfg = (s.st m).weighCfg := by
  unfold manualLid; split <;> simp
@[simp] theorem weighSilence_weighCfg (n : StationId) (s : State) (m : StationId) :
    ((weighSilence n s).st m).weighCfg = (s.st m).weighCfg := by
  unfold weighSilence; split <;> simp
@[simp] theorem thermoSilence_weighCfg (n : StationId) (s : State) (m : StationId) :
    ((thermoSilence n s).st m).weighCfg = (s.st m).weighCfg := by
  unfold thermoSilence; split <;> simp
@[simp] theorem heaterSilence_weighCfg (n : StationId) (s : State) (m : StationId) :
    ((heaterSilence n s).st m).weighCfg = (s.st m).weighCfg := by
  simp [heaterSilence]
@[simp] theorem driveSilence_weighCfg (n : StationId) (s : State) (m : StationId) :
    ((driveSilence n s).st m).weighCfg = (s.st m).weighCfg := by
  unfold driveSilence; split <;> simp
@[simp] theorem lidSilence_weighCfg (n : StationId) (s : State) (m : StationId) :
    ((lidSilence n s).st m).weighCfg = (s.st m).weighCfg := by
  unfold lidSilence; (repeat' split) <;> simp
@[simp] theorem roleSilent_weighCfg (n : StationId) (r : Role) (s : State) (m : StationId) :
    ((roleSilent n r s).st m).weighCfg = (s.st m).weighCfg := by
  unfold roleSilent; split <;> simp
@[simp] theorem roleHeard_weighCfg (n : StationId) (r : Role) (s : State) (m : StationId) :
    ((roleHeard n r s).st m).weighCfg = (s.st m).weighCfg := by
  unfold roleHeard; split <;> simp
@[simp] theorem isolateStation_weighCfg (n : StationId) (s : State) (m : StationId) :
    ((isolateStation n s).st m).weighCfg = (s.st m).weighCfg := by
  unfold isolateStation; split <;> simp
@[simp] theorem refreshLid_weighCfg (n : StationId) (s : State) (m : StationId) :
    ((refreshLid n s).st m).weighCfg = (s.st m).weighCfg := by
  unfold refreshLid; (repeat' split) <;> simp
@[simp] theorem sendWeightReport_weighCfg (n : StationId) (s : State) (m : StationId) :
    ((sendWeightReport n s).st m).weighCfg = (s.st m).weighCfg := by
  simp [sendWeightReport]
@[simp] theorem discardUnsent_weighCfg (k : OwnKind) (s : State) (m : StationId) :
    ((discardUnsent k s).st m).weighCfg = (s.st m).weighCfg := by
  simp [discardUnsent]
@[simp] theorem forgetRoles_weighCfg (n : StationId) (old new : Binding) (s : State) (m : StationId) :
    ((forgetRoles n old new s).st m).weighCfg = (s.st m).weighCfg := by
  unfold forgetRoles; (repeat' split) <;> simp
@[simp] theorem followBinding_weighCfg (n : StationId) (old new : Binding) (s : State) (m : StationId) :
    ((followBinding n old new s).st m).weighCfg = (s.st m).weighCfg := by
  unfold followBinding; (repeat' split) <;> simp
@[simp] theorem setBudget_weighCfg (w : Nat) (s : State) (m : StationId) :
    ((setBudget w s).st m).weighCfg = (s.st m).weighCfg := by
  simp [setBudget]
@[simp] theorem startStation_weighCfg (n : StationId) (first : Nat) (s : State) (m : StationId) :
    ((startStation n first s).st m).weighCfg = (s.st m).weighCfg := by
  simp [startStation]
@[simp] theorem resumeLocking_weighCfg (n : StationId) (s : State) (m : StationId) :
    ((resumeLocking n s).st m).weighCfg = (s.st m).weighCfg := by
  simp [resumeLocking]
@[simp] theorem resumePhase_weighCfg (n : StationId) (s : State) (m : StationId) :
    ((resumePhase n s).st m).weighCfg = (s.st m).weighCfg := by
  simp only [resumePhase]; (repeat' split) <;> simp
@[simp] theorem resumeStation_weighCfg (n : StationId) (s : State) (m : StationId) :
    ((resumeStation n s).st m).weighCfg = (s.st m).weighCfg := by
  unfold resumeStation; split <;> simp
@[simp] theorem adjustHeat_weighCfg (n : StationId) (before : Option Int) (a : Adjustment) (s : State) (m : StationId) :
    ((adjustHeat n before a s).st m).weighCfg = (s.st m).weighCfg := by
  unfold adjustHeat; (repeat' split) <;> simp
@[simp] theorem adjustStation_weighCfg (n : StationId) (a : Adjustment) (s : State) (m : StationId) :
    ((adjustStation n a s).st m).weighCfg = (s.st m).weighCfg := by
  unfold adjustStation; split <;> simp
@[simp] theorem startCapture_weighCfg (n : StationId) (op : WeighOp) (mass : Option Int) (s : State) (m : StationId) :
    ((startCapture n op mass s).st m).weighCfg = (s.st m).weighCfg := by
  unfold startCapture; split <;> simp
@[simp] theorem enableNotices_weighCfg (en : BitVec 16) (s : State) (m : StationId) :
    ((enableNotices en s).st m).weighCfg = (s.st m).weighCfg := by
  simp only [enableNotices]; (repeat' split) <;> simp

/-! ### The heat context -/

@[simp] theorem countPort_heat (p : Port) (c : PortCounter) (s : State) (m : StationId) :
    ((countPort p c s).st m).heat = (s.st m).heat := by
  simp [countPort]
@[simp] theorem countStation_heat (n : StationId) (c : StationCounter) (s : State) (m : StationId) :
    ((countStation n c s).st m).heat = (s.st m).heat := by
  unfold countStation; cases n <;> cases m <;> rfl
@[simp] theorem updateDropMode_heat (p : Port) (s : State) (m : StationId) :
    ((updateDropMode p s).st m).heat = (s.st m).heat := by
  simp [updateDropMode]
@[simp] theorem updateDropModes_heat (s : State) (m : StationId) :
    ((updateDropModes s).st m).heat = (s.st m).heat := by
  simp [updateDropModes]
@[simp] theorem originate_heat (k : OwnKind) (dest : NodeId) (payload : List Byte) (s : State) (m : StationId) :
    ((originate k dest payload s).st m).heat = (s.st m).heat := by
  unfold originate; split <;> simp
@[simp] theorem originateNotice_heat (s : State) (m : StationId) :
    ((originateNotice s).st m).heat = (s.st m).heat := by
  simp [originateNotice]
@[simp] theorem setNotice_heat (b : NoticeBit) (s : State) (m : StationId) :
    ((setNotice b s).st m).heat = (s.st m).heat := by
  unfold setNotice; (repeat' split) <;> simp
@[simp] theorem sendHeatSet_heat (n : StationId) (s : State) (m : StationId) :
    ((sendHeatSet n s).st m).heat = (s.st m).heat := by
  unfold sendHeatSet; split <;> simp
@[simp] theorem testGrant_heat (n : StationId) (s : State) (m : StationId) :
    ((testGrant n s).st m).heat = (s.st m).heat := by
  unfold testGrant; split <;> simp
@[simp] theorem recomputeArbiter_heat (s : State) (m : StationId) :
    ((recomputeArbiter s).st m).heat = (s.st m).heat := by
  simp [recomputeArbiter]
@[simp] theorem followDemand_heat (n : StationId) (s : State) (m : StationId) :
    ((followDemand n s).st m).heat = (s.st m).heat := by
  unfold followDemand; split <;> simp
@[simp] theorem setDraw_heat (n : StationId) (w : Nat) (s : State) (m : StationId) :
    ((setDraw n w s).st m).heat = (s.st m).heat := by
  unfold setDraw; split <;> simp
@[simp] theorem sendLidSet_heat (n : StationId) (c : LidCmd) (s : State) (m : StationId) :
    ((sendLidSet n c s).st m).heat = (s.st m).heat := by
  unfold sendLidSet; split <;> simp
@[simp] theorem lockLid_heat (n : StationId) (s : State) (m : StationId) :
    ((lockLid n s).st m).heat = (s.st m).heat := by
  unfold lockLid; split <;> simp
@[simp] theorem testUnlock_heat (n : StationId) (s : State) (m : StationId) :
    ((testUnlock n s).st m).heat = (s.st m).heat := by
  unfold testUnlock; split <;> simp
@[simp] theorem askUnlock_heat (n : StationId) (s : State) (m : StationId) :
    ((askUnlock n s).st m).heat = (s.st m).heat := by
  simp [askUnlock]
@[simp] theorem sendSpeedSet_heat (n : StationId) (s : State) (m : StationId) :
    ((sendSpeedSet n s).st m).heat = (s.st m).heat := by
  unfold sendSpeedSet; split <;> simp
@[simp] theorem recomputeDrive_heat (n : StationId) (s : State) (m : StationId) :
    ((recomputeDrive n s).st m).heat = (s.st m).heat := by
  simp only [recomputeDrive]; (repeat' split) <;> simp
@[simp] theorem recomputeEnvelope_heat (n : StationId) (s : State) (m : StationId) :
    ((recomputeEnvelope n s).st m).heat = (s.st m).heat := by
  simp [recomputeEnvelope]
@[simp] theorem dropManualSpeed_heat (n : StationId) (s : State) (m : StationId) :
    ((dropManualSpeed n s).st m).heat = (s.st m).heat := by
  simp [dropManualSpeed]
@[simp] theorem originateStepReport_heat (n : StationId) (r : StepReport) (s : State) (m : StationId) :
    ((originateStepReport n r s).st m).heat = (s.st m).heat := by
  unfold originateStepReport; split <;> simp
@[simp] theorem endStep_heat (n : StationId) (o : StepOutcome) (s : State) (m : StationId) :
    ((endStep n o s).st m).heat = (s.st m).heat := by
  simp [endStep]
@[simp] theorem furtherFault_heat (n : StationId) (s : State) (m : StationId) :
    ((furtherFault n s).st m).heat = (s.st m).heat := by
  simp [furtherFault]
@[simp] theorem endOp_heat (n : StationId) (o : OpOutcome) (s : State) (m : StationId) :
    ((endOp n o s).st m).heat = (s.st m).heat := by
  simp [endOp]
@[simp] theorem changeTare_heat (n : StationId) (t : Int) (s : State) (m : StationId) :
    ((changeTare n t s).st m).heat = (s.st m).heat := by
  simp [changeTare]
@[simp] theorem manualSpeed_heat (n : StationId) (v : Nat) (dir : Direction) (s : State) (m : StationId) :
    ((manualSpeed n v dir s).st m).heat = (s.st m).heat := by
  simp [manualSpeed]
@[simp] theorem manualLid_heat (n : StationId) (c : LidCmd) (s : State) (m : StationId) :
    ((manualLid n c s).st m).heat = (s.st m).heat := by
  unfold manualLid; split <;> simp
@[simp] theorem roleHeard_heat (n : StationId) (r : Role) (s : State) (m : StationId) :
    ((roleHeard n r s).st m).heat = (s.st m).heat := by
  unfold roleHeard; split <;> simp
@[simp] theorem refreshLid_heat (n : StationId) (s : State) (m : StationId) :
    ((refreshLid n s).st m).heat = (s.st m).heat := by
  unfold refreshLid; (repeat' split) <;> simp
@[simp] theorem sendWeightReport_heat (n : StationId) (s : State) (m : StationId) :
    ((sendWeightReport n s).st m).heat = (s.st m).heat := by
  simp [sendWeightReport]
@[simp] theorem discardUnsent_heat (k : OwnKind) (s : State) (m : StationId) :
    ((discardUnsent k s).st m).heat = (s.st m).heat := by
  simp [discardUnsent]
@[simp] theorem setBudget_heat (w : Nat) (s : State) (m : StationId) :
    ((setBudget w s).st m).heat = (s.st m).heat := by
  simp [setBudget]
@[simp] theorem startCapture_heat (n : StationId) (op : WeighOp) (mass : Option Int) (s : State) (m : StationId) :
    ((startCapture n op mass s).st m).heat = (s.st m).heat := by
  unfold startCapture; split <;> simp
@[simp] theorem enableNotices_heat (en : BitVec 16) (s : State) (m : StationId) :
    ((enableNotices en s).st m).heat = (s.st m).heat := by
  simp only [enableNotices]; (repeat' split) <;> simp

/-! ### The arbiter -/

@[simp] theorem countPort_arbiter (p : Port) (c : PortCounter) (s : State) :
    (countPort p c s).arbiter = s.arbiter := by
  simp [countPort]
@[simp] theorem countStation_arbiter (n : StationId) (c : StationCounter) (s : State) :
    (countStation n c s).arbiter = s.arbiter := by
  unfold countStation; cases n <;> rfl
@[simp] theorem updateDropMode_arbiter (p : Port) (s : State) :
    (updateDropMode p s).arbiter = s.arbiter := by
  simp [updateDropMode]
@[simp] theorem updateDropModes_arbiter (s : State) :
    (updateDropModes s).arbiter = s.arbiter := by
  simp [updateDropModes]
@[simp] theorem originate_arbiter (k : OwnKind) (dest : NodeId) (payload : List Byte) (s : State) :
    (originate k dest payload s).arbiter = s.arbiter := by
  unfold originate; split <;> simp
@[simp] theorem originateNotice_arbiter (s : State) :
    (originateNotice s).arbiter = s.arbiter := by
  simp [originateNotice]
@[simp] theorem setNotice_arbiter (b : NoticeBit) (s : State) :
    (setNotice b s).arbiter = s.arbiter := by
  unfold setNotice; (repeat' split) <;> simp
@[simp] theorem sendLidSet_arbiter (n : StationId) (c : LidCmd) (s : State) :
    (sendLidSet n c s).arbiter = s.arbiter := by
  unfold sendLidSet; split <;> simp
@[simp] theorem lockLid_arbiter (n : StationId) (s : State) :
    (lockLid n s).arbiter = s.arbiter := by
  unfold lockLid; split <;> simp
@[simp] theorem testUnlock_arbiter (n : StationId) (s : State) :
    (testUnlock n s).arbiter = s.arbiter := by
  unfold testUnlock; split <;> simp
@[simp] theorem askUnlock_arbiter (n : StationId) (s : State) :
    (askUnlock n s).arbiter = s.arbiter := by
  simp [askUnlock]
@[simp] theorem sendSpeedSet_arbiter (n : StationId) (s : State) :
    (sendSpeedSet n s).arbiter = s.arbiter := by
  unfold sendSpeedSet; split <;> simp
@[simp] theorem recomputeDrive_arbiter (n : StationId) (s : State) :
    (recomputeDrive n s).arbiter = s.arbiter := by
  simp only [recomputeDrive]; (repeat' split) <;> simp
@[simp] theorem recomputeEnvelope_arbiter (n : StationId) (s : State) :
    (recomputeEnvelope n s).arbiter = s.arbiter := by
  simp [recomputeEnvelope]
@[simp] theorem dropManualSpeed_arbiter (n : StationId) (s : State) :
    (dropManualSpeed n s).arbiter = s.arbiter := by
  simp [dropManualSpeed]
@[simp] theorem retestReached_arbiter (n : StationId) (s : State) :
    (retestReached n s).arbiter = s.arbiter := by
  simp [retestReached]
@[simp] theorem originateStepReport_arbiter (n : StationId) (r : StepReport) (s : State) :
    (originateStepReport n r s).arbiter = s.arbiter := by
  unfold originateStepReport; split <;> simp
@[simp] theorem endStep_arbiter (n : StationId) (o : StepOutcome) (s : State) :
    (endStep n o s).arbiter = s.arbiter := by
  simp [endStep]
@[simp] theorem furtherFault_arbiter (n : StationId) (s : State) :
    (furtherFault n s).arbiter = s.arbiter := by
  simp [furtherFault]
@[simp] theorem endOp_arbiter (n : StationId) (o : OpOutcome) (s : State) :
    (endOp n o s).arbiter = s.arbiter := by
  simp [endOp]
@[simp] theorem changeTare_arbiter (n : StationId) (t : Int) (s : State) :
    (changeTare n t s).arbiter = s.arbiter := by
  simp [changeTare]
@[simp] theorem completeZero_arbiter (n : StationId) (s : State) :
    (completeZero n s).arbiter = s.arbiter := by
  simp [completeZero]
@[simp] theorem completeCalibrate_arbiter (n : StationId) (s : State) :
    (completeCalibrate n s).arbiter = s.arbiter := by
  simp only [completeCalibrate]; (repeat' split) <;> simp
@[simp] theorem advanceOp_arbiter (n : StationId) (x : WeighSample) (s : State) :
    (advanceOp n x s).arbiter = s.arbiter := by
  simp only [advanceOp]; (repeat' split) <;> simp
@[simp] theorem manualSpeed_arbiter (n : StationId) (v : Nat) (dir : Direction) (s : State) :
    (manualSpeed n v dir s).arbiter = s.arbiter := by
  simp [manualSpeed]
@[simp] theorem manualLid_arbiter (n : StationId) (c : LidCmd) (s : State) :
    (manualLid n c s).arbiter = s.arbiter := by
  unfold manualLid; split <;> simp
@[simp] theorem refreshLid_arbiter (n : StationId) (s : State) :
    (refreshLid n s).arbiter = s.arbiter := by
  unfold refreshLid; (repeat' split) <;> simp
@[simp] theorem sendWeightReport_arbiter (n : StationId) (s : State) :
    (sendWeightReport n s).arbiter = s.arbiter := by
  simp [sendWeightReport]
@[simp] theorem discardUnsent_arbiter (k : OwnKind) (s : State) :
    (discardUnsent k s).arbiter = s.arbiter := by
  simp [discardUnsent]
@[simp] theorem startCapture_arbiter (n : StationId) (op : WeighOp) (mass : Option Int) (s : State) :
    (startCapture n op mass s).arbiter = s.arbiter := by
  unfold startCapture; split <;> simp
@[simp] theorem enableNotices_arbiter (en : BitVec 16) (s : State) :
    (enableNotices en s).arbiter = s.arbiter := by
  simp only [enableNotices]; (repeat' split) <;> simp

/-! ### The notice set -/

@[simp] theorem countPort_notices (p : Port) (c : PortCounter) (s : State) :
    (countPort p c s).notices = s.notices := by
  simp [countPort]
@[simp] theorem countStation_notices (n : StationId) (c : StationCounter) (s : State) :
    (countStation n c s).notices = s.notices := by
  unfold countStation; cases n <;> rfl
@[simp] theorem updateDropMode_notices (p : Port) (s : State) :
    (updateDropMode p s).notices = s.notices := by
  simp [updateDropMode]
@[simp] theorem updateDropModes_notices (s : State) :
    (updateDropModes s).notices = s.notices := by
  simp [updateDropModes]
@[simp] theorem originate_notices (k : OwnKind) (dest : NodeId) (payload : List Byte) (s : State) :
    (originate k dest payload s).notices = s.notices := by
  unfold originate; split <;> simp
@[simp] theorem originateNotice_notices (s : State) :
    (originateNotice s).notices = s.notices := by
  simp [originateNotice]
@[simp] theorem sendHeatSet_notices (n : StationId) (s : State) :
    (sendHeatSet n s).notices = s.notices := by
  unfold sendHeatSet; split <;> simp
@[simp] theorem testGrant_notices (n : StationId) (s : State) :
    (testGrant n s).notices = s.notices := by
  unfold testGrant; split <;> simp
@[simp] theorem recomputeArbiter_notices (s : State) :
    (recomputeArbiter s).notices = s.notices := by
  simp [recomputeArbiter]
@[simp] theorem followDemand_notices (n : StationId) (s : State) :
    (followDemand n s).notices = s.notices := by
  unfold followDemand; split <;> simp
@[simp] theorem setDemand_notices (n : StationId) (d : Nat) (s : State) :
    (setDemand n d s).notices = s.notices := by
  unfold setDemand; split <;> simp
@[simp] theorem setDraw_notices (n : StationId) (w : Nat) (s : State) :
    (setDraw n w s).notices = s.notices := by
  unfold setDraw; split <;> simp
@[simp] theorem sendLidSet_notices (n : StationId) (c : LidCmd) (s : State) :
    (sendLidSet n c s).notices = s.notices := by
  unfold sendLidSet; split <;> simp
@[simp] theorem lockLid_notices (n : StationId) (s : State) :
    (lockLid n s).notices = s.notices := by
  unfold lockLid; split <;> simp
@[simp] theorem testUnlock_notices (n : StationId) (s : State) :
    (testUnlock n s).notices = s.notices := by
  unfold testUnlock; split <;> simp
@[simp] theorem askUnlock_notices (n : StationId) (s : State) :
    (askUnlock n s).notices = s.notices := by
  simp [askUnlock]
@[simp] theorem sendSpeedSet_notices (n : StationId) (s : State) :
    (sendSpeedSet n s).notices = s.notices := by
  unfold sendSpeedSet; split <;> simp
@[simp] theorem recomputeDrive_notices (n : StationId) (s : State) :
    (recomputeDrive n s).notices = s.notices := by
  simp only [recomputeDrive]; (repeat' split) <;> simp
@[simp] theorem recomputeEnvelope_notices (n : StationId) (s : State) :
    (recomputeEnvelope n s).notices = s.notices := by
  simp [recomputeEnvelope]
@[simp] theorem dropManualSpeed_notices (n : StationId) (s : State) :
    (dropManualSpeed n s).notices = s.notices := by
  simp [dropManualSpeed]
@[simp] theorem retestReached_notices (n : StationId) (s : State) :
    (retestReached n s).notices = s.notices := by
  simp [retestReached]
@[simp] theorem adoptTarget_notices (n : StationId) (rule : Adoption) (inSample : Bool) (s : State) :
    (adoptTarget n rule inSample s).notices = s.notices := by
  unfold adoptTarget; (repeat' split) <;> simp
@[simp] theorem stateChanged_notices (n : StationId) (rule : Adoption) (inSample : Bool) (s : State) :
    (stateChanged n rule inSample s).notices = s.notices := by
  simp [stateChanged]
@[simp] theorem followManualHeat_notices (n : StationId) (s : State) :
    (followManualHeat n s).notices = s.notices := by
  unfold followManualHeat; split <;> simp
@[simp] theorem dropManualHeat_notices (n : StationId) (s : State) :
    (dropManualHeat n s).notices = s.notices := by
  simp [dropManualHeat]
@[simp] theorem originateStepReport_notices (n : StationId) (r : StepReport) (s : State) :
    (originateStepReport n r s).notices = s.notices := by
  unfold originateStepReport; split <;> simp
@[simp] theorem enterBasing_notices (n : StationId) (rule : Adoption) (inSample : Bool) (s : State) :
    (enterBasing n rule inSample s).notices = s.notices := by
  simp [enterBasing]
@[simp] theorem enterIdle_notices (n : StationId) (unlock inSample : Bool) (s : State) :
    (enterIdle n unlock inSample s).notices = s.notices := by
  unfold enterIdle; split <;> simp
@[simp] theorem changeTare_notices (n : StationId) (t : Int) (s : State) :
    (changeTare n t s).notices = s.notices := by
  simp [changeTare]
@[simp] theorem thermoDemand_notices (n : StationId) (t : Int) (grant demand : Nat) (s : State) :
    (thermoDemand n t grant demand s).notices = s.notices := by
  unfold thermoDemand; (repeat' split) <;> simp
@[simp] theorem manualSpeed_notices (n : StationId) (v : Nat) (dir : Direction) (s : State) :
    (manualSpeed n v dir s).notices = s.notices := by
  simp [manualSpeed]
@[simp] theorem manualHeat_notices (n : StationId) (w : Nat) (s : State) :
    (manualHeat n w s).notices = s.notices := by
  simp [manualHeat]
@[simp] theorem manualLid_notices (n : StationId) (c : LidCmd) (s : State) :
    (manualLid n c s).notices = s.notices := by
  unfold manualLid; split <;> simp
@[simp] theorem roleHeard_notices (n : StationId) (r : Role) (s : State) :
    (roleHeard n r s).notices = s.notices := by
  unfold roleHeard; split <;> simp
@[simp] theorem refreshLid_notices (n : StationId) (s : State) :
    (refreshLid n s).notices = s.notices := by
  unfold refreshLid; (repeat' split) <;> simp
@[simp] theorem sendWeightReport_notices (n : StationId) (s : State) :
    (sendWeightReport n s).notices = s.notices := by
  simp [sendWeightReport]
@[simp] theorem discardUnsent_notices (k : OwnKind) (s : State) :
    (discardUnsent k s).notices = s.notices := by
  simp [discardUnsent]
@[simp] theorem forgetRoles_notices (n : StationId) (old new : Binding) (s : State) :
    (forgetRoles n old new s).notices = s.notices := by
  unfold forgetRoles; (repeat' split) <;> simp
@[simp] theorem followBinding_notices (n : StationId) (old new : Binding) (s : State) :
    (followBinding n old new s).notices = s.notices := by
  unfold followBinding; (repeat' split) <;> simp
@[simp] theorem setBudget_notices (w : Nat) (s : State) :
    (setBudget w s).notices = s.notices := by
  simp [setBudget]

/-! ### The other station -/

@[simp] theorem st_modSt_other (s : State) (n : StationId) (f : Station → Station) : (s.modSt n f).st (otherStation n) = s.st (otherStation n) := by cases n <;> rfl
@[simp] theorem st_modRun_other (s : State) (n : StationId) (f) : (s.modRun n f).st (otherStation n) = s.st (otherStation n) := by cases n <;> rfl
@[simp] theorem st_modDrive_other (s : State) (n : StationId) (f) : (s.modDrive n f).st (otherStation n) = s.st (otherStation n) := by cases n <;> rfl
@[simp] theorem st_modWeigh_other (s : State) (n : StationId) (f) : (s.modWeigh n f).st (otherStation n) = s.st (otherStation n) := by cases n <;> rfl
@[simp] theorem st_modHeat_other (s : State) (n : StationId) (f) : (s.modHeat n f).st (otherStation n) = s.st (otherStation n) := by cases n <;> rfl
@[simp] theorem st_countStation_other (s : State) (n : StationId) (c) : (countStation n c s).st (otherStation n) = s.st (otherStation n) := by cases n <;> rfl
@[simp] theorem st_modPort' (s : State) (p : Port) (f m) : (s.modPort p f).st m = s.st m := by cases p <;> cases m <;> rfl
@[simp] theorem st_modSide' (s : State) (p ) (f m) : (s.modSide p f).st m = s.st m := by cases p <;> cases m <;> rfl
@[simp] theorem st_countPort (s : State) (p c m) : (countPort p c s).st m = s.st m := by cases p <;> cases m <;> rfl
@[simp] theorem st_updateDropMode (s : State) (p m) : (updateDropMode p s).st m = s.st m := by cases p <;> cases m <;> rfl
@[simp] theorem st_originate (s : State) (k d pl m) : (originate k d pl s).st m = s.st m := by unfold originate; split <;> simp
@[simp] theorem st_originateNotice (s : State) (m) : (originateNotice s).st m = s.st m := by simp [originateNotice]
@[simp] theorem st_setNotice (s : State) (b m) : (setNotice b s).st m = s.st m := by unfold setNotice; (repeat' split) <;> simp
@[simp] theorem st_sendHeatSet (s : State) (n m) : (sendHeatSet n s).st m = s.st m := by unfold sendHeatSet; split <;> simp
@[simp] theorem st_testGrant (s : State) (n m) : (testGrant n s).st m = s.st m := by unfold testGrant; split <;> simp
@[simp] theorem st_recomputeArbiter (s : State) (m) : (recomputeArbiter s).st m = s.st m := by simp [recomputeArbiter]
@[simp] theorem st_sendLidSet (s : State) (n c m) : (sendLidSet n c s).st m = s.st m := by unfold sendLidSet; split <;> simp
@[simp] theorem st_sendSpeedSet (s : State) (n m) : (sendSpeedSet n s).st m = s.st m := by unfold sendSpeedSet; split <;> simp
@[simp] theorem st_followDemand (s : State) (n m) : (followDemand n s).st m = s.st m := by unfold followDemand; split <;> simp
@[simp] theorem st_setDraw (s : State) (n w m) : (setDraw n w s).st m = s.st m := by unfold setDraw; split <;> simp
@[simp] theorem st_discardUnsent (s : State) (k m) : (discardUnsent k s).st m = s.st m := by simp [discardUnsent]
@[simp] theorem st_refreshLid (s : State) (n m) : (refreshLid n s).st m = s.st m := by unfold refreshLid; (repeat' split) <;> simp
@[simp] theorem st_sendWeightReport (s : State) (n m) : (sendWeightReport n s).st m = s.st m := by simp [sendWeightReport]
@[simp] theorem setDemand_other (n : StationId) (d : Nat) (s : State) :
    (setDemand n d s).st (otherStation n) = s.st (otherStation n) := by
  unfold setDemand; split <;> simp
@[simp] theorem lockLid_other (n : StationId) (s : State) :
    (lockLid n s).st (otherStation n) = s.st (otherStation n) := by
  unfold lockLid; split <;> simp
@[simp] theorem testUnlock_other (n : StationId) (s : State) :
    (testUnlock n s).st (otherStation n) = s.st (otherStation n) := by
  unfold testUnlock; split <;> simp
@[simp] theorem askUnlock_other (n : StationId) (s : State) :
    (askUnlock n s).st (otherStation n) = s.st (otherStation n) := by
  simp [askUnlock]
@[simp] theorem recomputeDrive_other (n : StationId) (s : State) :
    (recomputeDrive n s).st (otherStation n) = s.st (otherStation n) := by
  simp only [recomputeDrive]; (repeat' split) <;> simp
@[simp] theorem recomputeEnvelope_other (n : StationId) (s : State) :
    (recomputeEnvelope n s).st (otherStation n) = s.st (otherStation n) := by
  simp [recomputeEnvelope]
@[simp] theorem dropManualSpeed_other (n : StationId) (s : State) :
    (dropManualSpeed n s).st (otherStation n) = s.st (otherStation n) := by
  simp [dropManualSpeed]
@[simp] theorem retestReached_other (n : StationId) (s : State) :
    (retestReached n s).st (otherStation n) = s.st (otherStation n) := by
  simp [retestReached]
@[simp] theorem adoptTarget_other (n : StationId) (rule : Adoption) (inSample : Bool) (s : State) :
    (adoptTarget n rule inSample s).st (otherStation n) = s.st (otherStation n) := by
  unfold adoptTarget; (repeat' split) <;> simp
@[simp] theorem stateChanged_other (n : StationId) (rule : Adoption) (inSample : Bool) (s : State) :
    (stateChanged n rule inSample s).st (otherStation n) = s.st (otherStation n) := by
  simp [stateChanged]
@[simp] theorem followManualHeat_other (n : StationId) (s : State) :
    (followManualHeat n s).st (otherStation n) = s.st (otherStation n) := by
  unfold followManualHeat; split <;> simp
@[simp] theorem dropManualHeat_other (n : StationId) (s : State) :
    (dropManualHeat n s).st (otherStation n) = s.st (otherStation n) := by
  simp [dropManualHeat]
@[simp] theorem originateStepReport_other (n : StationId) (r : StepReport) (s : State) :
    (originateStepReport n r s).st (otherStation n) = s.st (otherStation n) := by
  unfold originateStepReport; split <;> simp
@[simp] theorem endStep_other (n : StationId) (o : StepOutcome) (s : State) :
    (endStep n o s).st (otherStation n) = s.st (otherStation n) := by
  simp [endStep]
@[simp] theorem furtherFault_other (n : StationId) (s : State) :
    (furtherFault n s).st (otherStation n) = s.st (otherStation n) := by
  simp [furtherFault]
@[simp] theorem enterFault_other (n : StationId) (c : FaultCause) (further : Nat) (inSample : Bool) (s : State) :
    (enterFault n c further inSample s).st (otherStation n) = s.st (otherStation n) := by
  unfold enterFault; split <;> simp
@[simp] theorem raiseCause_other (n : StationId) (c : FaultCause) (carried : Bool) (s : State) :
    (raiseCause n c carried s).st (otherStation n) = s.st (otherStation n) := by
  unfold raiseCause; (repeat' split) <;> simp
@[simp] theorem raiseSilence_other (n : StationId) (c : FaultCause) (faults : Bool) (s : State) :
    (raiseSilence n c faults s).st (otherStation n) = s.st (otherStation n) := by
  unfold raiseSilence; (repeat' split) <;> simp
@[simp] theorem enterActive_other (n : StationId) (rule : Adoption) (inSample : Bool) (s : State) :
    (enterActive n rule inSample s).st (otherStation n) = s.st (otherStation n) := by
  simp only [enterActive]; (repeat' split) <;> simp
@[simp] theorem enterBasing_other (n : StationId) (rule : Adoption) (inSample : Bool) (s : State) :
    (enterBasing n rule inSample s).st (otherStation n) = s.st (otherStation n) := by
  simp [enterBasing]
@[simp] theorem leaveLocking_other (n : StationId) (rule : Adoption) (inSample : Bool) (s : State) :
    (leaveLocking n rule inSample s).st (otherStation n) = s.st (otherStation n) := by
  unfold leaveLocking; split <;> simp
@[simp] theorem actOnLid_other (n : StationId) (s : State) :
    (actOnLid n s).st (otherStation n) = s.st (otherStation n) := by
  unfold actOnLid; (repeat' split) <;> simp
@[simp] theorem enterLocking_other (n : StationId) (after : Phase) (rule : Adoption) (inSample : Bool) (s : State) :
    (enterLocking n after rule inSample s).st (otherStation n) = s.st (otherStation n) := by
  simp [enterLocking]
@[simp] theorem leaveBasing_other (n : StationId) (s : State) :
    (leaveBasing n s).st (otherStation n) = s.st (otherStation n) := by
  unfold leaveBasing; split <;> simp
@[simp] theorem enterStep_other (n : StationId) (i : Nat) (old : Option Int) (inSample : Bool) (s : State) :
    (enterStep n i old inSample s).st (otherStation n) = s.st (otherStation n) := by
  simp only [enterStep]; (repeat' split) <;> simp
@[simp] theorem enterIdle_other (n : StationId) (unlock inSample : Bool) (s : State) :
    (enterIdle n unlock inSample s).st (otherStation n) = s.st (otherStation n) := by
  unfold enterIdle; split <;> simp
@[simp] theorem enterWarming_other (n : StationId) (old : Option Int) (inSample : Bool) (s : State) :
    (enterWarming n old inSample s).st (otherStation n) = s.st (otherStation n) := by
  simp only [enterWarming]; (repeat' split) <;> simp
@[simp] theorem endRecipe_other (n : StationId) (rec : StepRecord) (old : Option Int) (inSample : Bool) (s : State) :
    (endRecipe n rec old inSample s).st (otherStation n) = s.st (otherStation n) := by
  unfold endRecipe; split <;> simp
@[simp] theorem finishStep_other (n : StationId) (o : StepOutcome) (inSample : Bool) (s : State) :
    (finishStep n o inSample s).st (otherStation n) = s.st (otherStation n) := by
  simp only [finishStep]; (repeat' split) <;> simp
@[simp] theorem pauseStation_other (n : StationId) (why : PauseReason) (s : State) :
    (pauseStation n why s).st (otherStation n) = s.st (otherStation n) := by
  simp [pauseStation]
@[simp] theorem endOp_other (n : StationId) (o : OpOutcome) (s : State) :
    (endOp n o s).st (otherStation n) = s.st (otherStation n) := by
  simp [endOp]
@[simp] theorem changeTare_other (n : StationId) (t : Int) (s : State) :
    (changeTare n t s).st (otherStation n) = s.st (otherStation n) := by
  simp [changeTare]
@[simp] theorem weighStep_other (n : StationId) (s : State) :
    (weighStep n s).st (otherStation n) = s.st (otherStation n) := by
  simp only [weighStep]; (repeat' split) <;> simp
@[simp] theorem completeZero_other (n : StationId) (s : State) :
    (completeZero n s).st (otherStation n) = s.st (otherStation n) := by
  simp [completeZero]
@[simp] theorem completeCalibrate_other (n : StationId) (s : State) :
    (completeCalibrate n s).st (otherStation n) = s.st (otherStation n) := by
  simp only [completeCalibrate]; (repeat' split) <;> simp
@[simp] theorem advanceOp_other (n : StationId) (x : WeighSample) (s : State) :
    (advanceOp n x s).st (otherStation n) = s.st (otherStation n) := by
  simp only [advanceOp]; (repeat' split) <;> simp
@[simp] theorem acceptSample_other (n : StationId) (x : WeighSample) (s : State) :
    (acceptSample n x s).st (otherStation n) = s.st (otherStation n) := by
  simp [acceptSample]
@[simp] theorem takeWeighSample_other (n : StationId) (x : WeighSample) (s : State) :
    (takeWeighSample n x s).st (otherStation n) = s.st (otherStation n) := by
  unfold takeWeighSample; (repeat' split) <;> simp
@[simp] theorem thermoFaults_other (n : StationId) (t : Int) (fault : Bool) (before : HeatContext) (s : State) :
    (thermoFaults n t fault before s).st (otherStation n) = s.st (otherStation n) := by
  simp only [thermoFaults]; (repeat' split) <;> simp
@[simp] theorem tempStep_other (n : StationId) (t : Int) (s : State) :
    (tempStep n t s).st (otherStation n) = s.st (otherStation n) := by
  simp only [tempStep]; (repeat' split) <;> simp
@[simp] theorem thermoDemand_other (n : StationId) (t : Int) (grant demand : Nat) (s : State) :
    (thermoDemand n t grant demand s).st (otherStation n) = s.st (otherStation n) := by
  unfold thermoDemand; (repeat' split) <;> simp
@[simp] theorem takeThermoSample_other (n : StationId) (t : Int) (fault : Bool) (s : State) :
    (takeThermoSample n t fault s).st (otherStation n) = s.st (otherStation n) := by
  unfold takeThermoSample; split <;> simp
@[simp] theorem takeHeatState_other (n : StationId) (r : HeatReport) (s : State) :
    (takeHeatState n r s).st (otherStation n) = s.st (otherStation n) := by
  unfold takeHeatState; (repeat' split) <;> simp
@[simp] theorem takeDriveState_other (n : StationId) (r : DriveReport) (s : State) :
    (takeDriveState n r s).st (otherStation n) = s.st (otherStation n) := by
  unfold takeDriveState; (repeat' split) <;> simp
@[simp] theorem takeLidState_other (n : StationId) (r : LidReport) (s : State) :
    (takeLidState n r s).st (otherStation n) = s.st (otherStation n) := by
  simp only [takeLidState]; (repeat' split) <;> simp
@[simp] theorem manualSpeed_other (n : StationId) (v : Nat) (dir : Direction) (s : State) :
    (manualSpeed n v dir s).st (otherStation n) = s.st (otherStation n) := by
  simp [manualSpeed]
@[simp] theorem manualHeat_other (n : StationId) (w : Nat) (s : State) :
    (manualHeat n w s).st (otherStation n) = s.st (otherStation n) := by
  simp [manualHeat]
@[simp] theorem manualLid_other (n : StationId) (c : LidCmd) (s : State) :
    (manualLid n c s).st (otherStation n) = s.st (otherStation n) := by
  unfold manualLid; split <;> simp
@[simp] theorem weighSilence_other (n : StationId) (s : State) :
    (weighSilence n s).st (otherStation n) = s.st (otherStation n) := by
  unfold weighSilence; split <;> simp
@[simp] theorem thermoSilence_other (n : StationId) (s : State) :
    (thermoSilence n s).st (otherStation n) = s.st (otherStation n) := by
  unfold thermoSilence; split <;> simp
@[simp] theorem heaterSilence_other (n : StationId) (s : State) :
    (heaterSilence n s).st (otherStation n) = s.st (otherStation n) := by
  simp [heaterSilence]
@[simp] theorem driveSilence_other (n : StationId) (s : State) :
    (driveSilence n s).st (otherStation n) = s.st (otherStation n) := by
  unfold driveSilence; split <;> simp
@[simp] theorem lidSilence_other (n : StationId) (s : State) :
    (lidSilence n s).st (otherStation n) = s.st (otherStation n) := by
  unfold lidSilence; (repeat' split) <;> simp
@[simp] theorem roleSilent_other (n : StationId) (r : Role) (s : State) :
    (roleSilent n r s).st (otherStation n) = s.st (otherStation n) := by
  unfold roleSilent; split <;> simp
@[simp] theorem roleHeard_other (n : StationId) (r : Role) (s : State) :
    (roleHeard n r s).st (otherStation n) = s.st (otherStation n) := by
  unfold roleHeard; split <;> simp
@[simp] theorem isolateStation_other (n : StationId) (s : State) :
    (isolateStation n s).st (otherStation n) = s.st (otherStation n) := by
  unfold isolateStation; split <;> simp
@[simp] theorem forgetRoles_other (n : StationId) (old new : Binding) (s : State) :
    (forgetRoles n old new s).st (otherStation n) = s.st (otherStation n) := by
  unfold forgetRoles; (repeat' split) <;> simp
@[simp] theorem followBinding_other (n : StationId) (old new : Binding) (s : State) :
    (followBinding n old new s).st (otherStation n) = s.st (otherStation n) := by
  unfold followBinding; (repeat' split) <;> simp
@[simp] theorem startStation_other (n : StationId) (first : Nat) (s : State) :
    (startStation n first s).st (otherStation n) = s.st (otherStation n) := by
  simp [startStation]
@[simp] theorem resumeLocking_other (n : StationId) (s : State) :
    (resumeLocking n s).st (otherStation n) = s.st (otherStation n) := by
  simp [resumeLocking]
@[simp] theorem resumePhase_other (n : StationId) (s : State) :
    (resumePhase n s).st (otherStation n) = s.st (otherStation n) := by
  simp only [resumePhase]; (repeat' split) <;> simp
@[simp] theorem resumeStation_other (n : StationId) (s : State) :
    (resumeStation n s).st (otherStation n) = s.st (otherStation n) := by
  unfold resumeStation; split <;> simp
@[simp] theorem adjustHeat_other (n : StationId) (before : Option Int) (a : Adjustment) (s : State) :
    (adjustHeat n before a s).st (otherStation n) = s.st (otherStation n) := by
  unfold adjustHeat; (repeat' split) <;> simp
@[simp] theorem adjustStation_other (n : StationId) (a : Adjustment) (s : State) :
    (adjustStation n a s).st (otherStation n) = s.st (otherStation n) := by
  unfold adjustStation; split <;> simp
@[simp] theorem startCapture_other (n : StationId) (op : WeighOp) (mass : Option Int) (s : State) :
    (startCapture n op mass s).st (otherStation n) = s.st (otherStation n) := by
  unfold startCapture; split <;> simp

end Sys2Proof.Machine
end

