-- ==== Sys2Proof/Laws/Held.lean ====
section
/-! SUPPORT. The held counts of the transit pool (R155) under the station and notice operations: none of them touches a
transit frame. -/

namespace Sys2Proof.Machine

open Sys2Proof

theorem held_congr {s t : State} (hc : t.control.entries.countP (Queued.fromPort r) = s.control.entries.countP (Queued.fromPort r))
    (ha : t.appliance.entries.countP (Queued.fromPort r) = s.appliance.entries.countP (Queued.fromPort r)) : t.held r = s.held r := by
  simp [State.held, State.entries, hc, ha]
@[simp] theorem held_modSt (s : State) (n f r) : (s.modSt n f).held r = s.held r := by cases n <;> rfl
@[simp] theorem held_modRun (s : State) (n f r) : (s.modRun n f).held r = s.held r := by cases n <;> rfl
@[simp] theorem held_modDrive (s : State) (n f r) : (s.modDrive n f).held r = s.held r := by cases n <;> rfl
@[simp] theorem held_modWeigh (s : State) (n f r) : (s.modWeigh n f).held r = s.held r := by cases n <;> rfl
@[simp] theorem held_modHeat (s : State) (n f r) : (s.modHeat n f).held r = s.held r := by cases n <;> rfl
@[simp] theorem held_modSide (s : State) (n f r) : (s.modSide n f).held r = s.held r := by cases n <;> rfl
@[simp] theorem held_setArbiter (s : State) (b : Arbiter) (r) : ({ s with arbiter := b } : State).held r = s.held r := rfl
@[simp] theorem held_setNotices (s : State) (b : Notices) (r) : ({ s with notices := b } : State).held r = s.held r := rfl
theorem held_modPort (s : State) (p f r) (h : (f (s.port p)).entries.countP (Queued.fromPort r) = (s.port p).entries.countP (Queued.fromPort r)) :
    (s.modPort p f).held r = s.held r := by
  cases p <;> exact held_congr (by first | exact h | rfl) (by first | exact h | rfl)
theorem countP_rewriteFirst (k : OwnKind) (f : Frame) (r) (l : List Queued) :
    (rewriteFirst (Queued.isKind k) f l).countP (Queued.fromPort r) = l.countP (Queued.fromPort r) := by
  induction l with
  | nil => rfl
  | cons e l ih => unfold rewriteFirst; split <;> simp [List.countP_cons, ih, Queued.fromPort]
theorem countP_joinQueue (k : OwnKind) (f : Frame) (r) (l : List Queued) :
    (joinQueue k f l).countP (Queued.fromPort r) = l.countP (Queued.fromPort r) := by
  unfold joinQueue; split
  · exact countP_rewriteFirst k f r l
  · simp [Queued.fromPort]
theorem countP_modQueue (q : PortState) (c f) (P : Queued → Bool) (h : (f (q.queue c)).countP P = (q.queue c).countP P) :
    (q.modQueue c f).entries.countP P = q.entries.countP P := by
  cases c <;> simp_all [PortState.entries, PortState.modQueue, PortState.queue, PortState.engine]
@[simp] theorem held_countPort (p c r) (s : State) : (countPort p c s).held r = s.held r := held_modPort s _ _ _ rfl
@[simp] theorem held_countStation (p c r) (s : State) : (countStation p c s).held r = s.held r := held_modSt s _ _ _ 
@[simp] theorem held_updateDropMode (p r) (s : State) : (updateDropMode p s).held r = s.held r := held_modPort s _ _ _ rfl
@[simp] theorem held_updateDropModes (r) (s : State) : (updateDropModes s).held r = s.held r := by simp [updateDropModes]
@[simp] theorem held_originate (k d pl r) (s : State) : (originate k d pl s).held r = s.held r := by
  unfold originate; split
  · simp
  · exact held_modPort s _ _ _ (countP_modQueue _ _ _ _ (countP_joinQueue _ _ _ _))
@[simp] theorem held_originateNotice (r) (s : State) : (originateNotice s).held r = s.held r := by simp [originateNotice]
@[simp] theorem held_setNotice (b r) (s : State) : (setNotice b s).held r = s.held r := by
  unfold setNotice; (repeat' split) <;> simp
@[simp] theorem held_discardUnsent (k r) (s : State) : (discardUnsent k s).held r = s.held r := by
  refine held_modPort s _ _ _ (countP_modQueue _ _ _ _ ?_)
  rw [List.countP_filter]; congr 1; funext e
  cases h : Queued.fromPort r e <;> simp_all [Queued.fromPort, Queued.isKind]
@[simp] theorem held_sendHeatSet (n : StationId) (s : State) (r' : Port) :
    ((sendHeatSet n s).held r') = s.held r' := by
  unfold sendHeatSet; split <;> simp
@[simp] theorem held_testGrant (n : StationId) (s : State) (r' : Port) :
    ((testGrant n s).held r') = s.held r' := by
  unfold testGrant; split <;> simp
@[simp] theorem held_recomputeArbiter (s : State) (r' : Port) :
    ((recomputeArbiter  s).held r') = s.held r' := by
  simp [recomputeArbiter]
@[simp] theorem held_followDemand (n : StationId) (s : State) (r' : Port) :
    ((followDemand n s).held r') = s.held r' := by
  unfold followDemand; split <;> simp
@[simp] theorem held_setDemand (n : StationId) (d : Nat) (s : State) (r' : Port) :
    ((setDemand n d s).held r') = s.held r' := by
  unfold setDemand; split <;> simp
@[simp] theorem held_setDraw (n : StationId) (w : Nat) (s : State) (r' : Port) :
    ((setDraw n w s).held r') = s.held r' := by
  unfold setDraw; split <;> simp
@[simp] theorem held_sendLidSet (n : StationId) (c : LidCmd) (s : State) (r' : Port) :
    ((sendLidSet n c s).held r') = s.held r' := by
  unfold sendLidSet; split <;> simp
@[simp] theorem held_lockLid (n : StationId) (s : State) (r' : Port) :
    ((lockLid n s).held r') = s.held r' := by
  unfold lockLid; split <;> simp
@[simp] theorem held_testUnlock (n : StationId) (s : State) (r' : Port) :
    ((testUnlock n s).held r') = s.held r' := by
  unfold testUnlock; split <;> simp
@[simp] theorem held_askUnlock (n : StationId) (s : State) (r' : Port) :
    ((askUnlock n s).held r') = s.held r' := by
  simp [askUnlock]
@[simp] theorem held_sendSpeedSet (n : StationId) (s : State) (r' : Port) :
    ((sendSpeedSet n s).held r') = s.held r' := by
  unfold sendSpeedSet; split <;> simp
@[simp] theorem held_recomputeDrive (n : StationId) (s : State) (r' : Port) :
    ((recomputeDrive n s).held r') = s.held r' := by
  simp only [recomputeDrive]; (repeat' split) <;> simp
@[simp] theorem held_recomputeEnvelope (n : StationId) (s : State) (r' : Port) :
    ((recomputeEnvelope n s).held r') = s.held r' := by
  simp [recomputeEnvelope]
@[simp] theorem held_dropManualSpeed (n : StationId) (s : State) (r' : Port) :
    ((dropManualSpeed n s).held r') = s.held r' := by
  simp [dropManualSpeed]
@[simp] theorem held_retestReached (n : StationId) (s : State) (r' : Port) :
    ((retestReached n s).held r') = s.held r' := by
  simp [retestReached]
@[simp] theorem held_adoptTarget (n : StationId) (rule : Adoption) (inSample : Bool) (s : State) (r' : Port) :
    ((adoptTarget n rule inSample s).held r') = s.held r' := by
  unfold adoptTarget; (repeat' split) <;> simp
@[simp] theorem held_stateChanged (n : StationId) (rule : Adoption) (inSample : Bool) (s : State) (r' : Port) :
    ((stateChanged n rule inSample s).held r') = s.held r' := by
  simp [stateChanged]
@[simp] theorem held_followManualHeat (n : StationId) (s : State) (r' : Port) :
    ((followManualHeat n s).held r') = s.held r' := by
  unfold followManualHeat; split <;> simp
@[simp] theorem held_dropManualHeat (n : StationId) (s : State) (r' : Port) :
    ((dropManualHeat n s).held r') = s.held r' := by
  simp [dropManualHeat]
@[simp] theorem held_originateStepReport (n : StationId) (r : StepReport) (s : State) (r' : Port) :
    ((originateStepReport n r s).held r') = s.held r' := by
  unfold originateStepReport; split <;> simp
@[simp] theorem held_endStep (n : StationId) (o : StepOutcome) (s : State) (r' : Port) :
    ((endStep n o s).held r') = s.held r' := by
  simp [endStep]
@[simp] theorem held_furtherFault (n : StationId) (s : State) (r' : Port) :
    ((furtherFault n s).held r') = s.held r' := by
  simp [furtherFault]
@[simp] theorem held_enterFault (n : StationId) (c : FaultCause) (further : Nat) (inSample : Bool) (s : State) (r' : Port) :
    ((enterFault n c further inSample s).held r') = s.held r' := by
  unfold enterFault; split <;> simp
@[simp] theorem held_raiseCause (n : StationId) (c : FaultCause) (carried : Bool) (s : State) (r' : Port) :
    ((raiseCause n c carried s).held r') = s.held r' := by
  unfold raiseCause; (repeat' split) <;> simp
@[simp] theorem held_raiseSilence (n : StationId) (c : FaultCause) (faults : Bool) (s : State) (r' : Port) :
    ((raiseSilence n c faults s).held r') = s.held r' := by
  unfold raiseSilence; (repeat' split) <;> simp
@[simp] theorem held_enterActive (n : StationId) (rule : Adoption) (inSample : Bool) (s : State) (r' : Port) :
    ((enterActive n rule inSample s).held r') = s.held r' := by
  simp only [enterActive]; (repeat' split) <;> simp
@[simp] theorem held_enterBasing (n : StationId) (rule : Adoption) (inSample : Bool) (s : State) (r' : Port) :
    ((enterBasing n rule inSample s).held r') = s.held r' := by
  simp [enterBasing]
@[simp] theorem held_leaveLocking (n : StationId) (rule : Adoption) (inSample : Bool) (s : State) (r' : Port) :
    ((leaveLocking n rule inSample s).held r') = s.held r' := by
  unfold leaveLocking; split <;> simp
@[simp] theorem held_actOnLid (n : StationId) (s : State) (r' : Port) :
    ((actOnLid n s).held r') = s.held r' := by
  unfold actOnLid; (repeat' split) <;> simp
@[simp] theorem held_enterLocking (n : StationId) (after : Phase) (rule : Adoption) (inSample : Bool) (s : State) (r' : Port) :
    ((enterLocking n after rule inSample s).held r') = s.held r' := by
  simp [enterLocking]
@[simp] theorem held_leaveBasing (n : StationId) (s : State) (r' : Port) :
    ((leaveBasing n s).held r') = s.held r' := by
  unfold leaveBasing; split <;> simp
@[simp] theorem held_enterStep (n : StationId) (i : Nat) (old : Option Int) (inSample : Bool) (s : State) (r' : Port) :
    ((enterStep n i old inSample s).held r') = s.held r' := by
  simp only [enterStep]; (repeat' split) <;> simp
@[simp] theorem held_enterIdle (n : StationId) (unlock inSample : Bool) (s : State) (r' : Port) :
    ((enterIdle n unlock inSample s).held r') = s.held r' := by
  unfold enterIdle; split <;> simp
@[simp] theorem held_enterWarming (n : StationId) (old : Option Int) (inSample : Bool) (s : State) (r' : Port) :
    ((enterWarming n old inSample s).held r') = s.held r' := by
  simp only [enterWarming]; (repeat' split) <;> simp
@[simp] theorem held_endRecipe (n : StationId) (rec : StepRecord) (old : Option Int) (inSample : Bool) (s : State) (r' : Port) :
    ((endRecipe n rec old inSample s).held r') = s.held r' := by
  unfold endRecipe; split <;> simp
@[simp] theorem held_finishStep (n : StationId) (o : StepOutcome) (inSample : Bool) (s : State) (r' : Port) :
    ((finishStep n o inSample s).held r') = s.held r' := by
  simp only [finishStep]; (repeat' split) <;> simp
@[simp] theorem held_pauseStation (n : StationId) (why : PauseReason) (s : State) (r' : Port) :
    ((pauseStation n why s).held r') = s.held r' := by
  simp [pauseStation]
@[simp] theorem held_endOp (n : StationId) (o : OpOutcome) (s : State) (r' : Port) :
    ((endOp n o s).held r') = s.held r' := by
  simp [endOp]
@[simp] theorem held_changeTare (n : StationId) (t : Int) (s : State) (r' : Port) :
    ((changeTare n t s).held r') = s.held r' := by
  simp [changeTare]
@[simp] theorem held_weighStep (n : StationId) (s : State) (r' : Port) :
    ((weighStep n s).held r') = s.held r' := by
  simp only [weighStep]; (repeat' split) <;> simp
@[simp] theorem held_completeZero (n : StationId) (s : State) (r' : Port) :
    ((completeZero n s).held r') = s.held r' := by
  simp [completeZero]
@[simp] theorem held_completeCalibrate (n : StationId) (s : State) (r' : Port) :
    ((completeCalibrate n s).held r') = s.held r' := by
  simp only [completeCalibrate]; (repeat' split) <;> simp
@[simp] theorem held_advanceOp (n : StationId) (x : WeighSample) (s : State) (r' : Port) :
    ((advanceOp n x s).held r') = s.held r' := by
  simp only [advanceOp]; (repeat' split) <;> simp
@[simp] theorem held_acceptSample (n : StationId) (x : WeighSample) (s : State) (r' : Port) :
    ((acceptSample n x s).held r') = s.held r' := by
  simp [acceptSample]
@[simp] theorem held_takeWeighSample (n : StationId) (x : WeighSample) (s : State) (r' : Port) :
    ((takeWeighSample n x s).held r') = s.held r' := by
  unfold takeWeighSample; (repeat' split) <;> simp
@[simp] theorem held_thermoFaults (n : StationId) (t : Int) (fault : Bool) (before : HeatContext) (s : State) (r' : Port) :
    ((thermoFaults n t fault before s).held r') = s.held r' := by
  simp only [thermoFaults]; (repeat' split) <;> simp
@[simp] theorem held_tempStep (n : StationId) (t : Int) (s : State) (r' : Port) :
    ((tempStep n t s).held r') = s.held r' := by
  simp only [tempStep]; (repeat' split) <;> simp
@[simp] theorem held_thermoDemand (n : StationId) (t : Int) (grant demand : Nat) (s : State) (r' : Port) :
    ((thermoDemand n t grant demand s).held r') = s.held r' := by
  unfold thermoDemand; (repeat' split) <;> simp
@[simp] theorem held_takeThermoSample (n : StationId) (t : Int) (fault : Bool) (s : State) (r' : Port) :
    ((takeThermoSample n t fault s).held r') = s.held r' := by
  unfold takeThermoSample; split <;> simp
@[simp] theorem held_takeHeatState (n : StationId) (r : HeatReport) (s : State) (r' : Port) :
    ((takeHeatState n r s).held r') = s.held r' := by
  unfold takeHeatState; (repeat' split) <;> simp
@[simp] theorem held_takeDriveState (n : StationId) (r : DriveReport) (s : State) (r' : Port) :
    ((takeDriveState n r s).held r') = s.held r' := by
  unfold takeDriveState; (repeat' split) <;> simp
@[simp] theorem held_takeLidState (n : StationId) (r : LidReport) (s : State) (r' : Port) :
    ((takeLidState n r s).held r') = s.held r' := by
  simp only [takeLidState]; (repeat' split) <;> simp
@[simp] theorem held_manualSpeed (n : StationId) (v : Nat) (dir : Direction) (s : State) (r' : Port) :
    ((manualSpeed n v dir s).held r') = s.held r' := by
  simp [manualSpeed]
@[simp] theorem held_manualHeat (n : StationId) (w : Nat) (s : State) (r' : Port) :
    ((manualHeat n w s).held r') = s.held r' := by
  simp [manualHeat]
@[simp] theorem held_manualLid (n : StationId) (c : LidCmd) (s : State) (r' : Port) :
    ((manualLid n c s).held r') = s.held r' := by
  unfold manualLid; split <;> simp
@[simp] theorem held_weighSilence (n : StationId) (s : State) (r' : Port) :
    ((weighSilence n s).held r') = s.held r' := by
  unfold weighSilence; split <;> simp
@[simp] theorem held_thermoSilence (n : StationId) (s : State) (r' : Port) :
    ((thermoSilence n s).held r') = s.held r' := by
  unfold thermoSilence; split <;> simp
@[simp] theorem held_heaterSilence (n : StationId) (s : State) (r' : Port) :
    ((heaterSilence n s).held r') = s.held r' := by
  simp [heaterSilence]
@[simp] theorem held_driveSilence (n : StationId) (s : State) (r' : Port) :
    ((driveSilence n s).held r') = s.held r' := by
  unfold driveSilence; split <;> simp
@[simp] theorem held_lidSilence (n : StationId) (s : State) (r' : Port) :
    ((lidSilence n s).held r') = s.held r' := by
  unfold lidSilence; (repeat' split) <;> simp
@[simp] theorem held_roleSilent (n : StationId) (r : Role) (s : State) (r' : Port) :
    ((roleSilent n r s).held r') = s.held r' := by
  unfold roleSilent; split <;> simp
@[simp] theorem held_roleHeard (n : StationId) (r : Role) (s : State) (r' : Port) :
    ((roleHeard n r s).held r') = s.held r' := by
  unfold roleHeard; split <;> simp
@[simp] theorem held_isolateStation (n : StationId) (s : State) (r' : Port) :
    ((isolateStation n s).held r') = s.held r' := by
  unfold isolateStation; split <;> simp
@[simp] theorem held_refreshLid (n : StationId) (s : State) (r' : Port) :
    ((refreshLid n s).held r') = s.held r' := by
  unfold refreshLid; (repeat' split) <;> simp
@[simp] theorem held_sendWeightReport (n : StationId) (s : State) (r' : Port) :
    ((sendWeightReport n s).held r') = s.held r' := by
  simp [sendWeightReport]
@[simp] theorem held_forgetRoles (n : StationId) (old new : Binding) (s : State) (r' : Port) :
    ((forgetRoles n old new s).held r') = s.held r' := by
  unfold forgetRoles; (repeat' split) <;> simp
@[simp] theorem held_followBinding (n : StationId) (old new : Binding) (s : State) (r' : Port) :
    ((followBinding n old new s).held r') = s.held r' := by
  unfold followBinding; (repeat' split) <;> simp
@[simp] theorem held_setBudget (w : Nat) (s : State) (r' : Port) :
    ((setBudget w s).held r') = s.held r' := by
  simp [setBudget]
@[simp] theorem held_startStation (n : StationId) (first : Nat) (s : State) (r' : Port) :
    ((startStation n first s).held r') = s.held r' := by
  simp [startStation]
@[simp] theorem held_resumeLocking (n : StationId) (s : State) (r' : Port) :
    ((resumeLocking n s).held r') = s.held r' := by
  simp [resumeLocking]
@[simp] theorem held_resumePhase (n : StationId) (s : State) (r' : Port) :
    ((resumePhase n s).held r') = s.held r' := by
  simp only [resumePhase]; (repeat' split) <;> simp
@[simp] theorem held_resumeStation (n : StationId) (s : State) (r' : Port) :
    ((resumeStation n s).held r') = s.held r' := by
  unfold resumeStation; split <;> simp
@[simp] theorem held_adjustHeat (n : StationId) (before : Option Int) (a : Adjustment) (s : State) (r' : Port) :
    ((adjustHeat n before a s).held r') = s.held r' := by
  unfold adjustHeat; (repeat' split) <;> simp
@[simp] theorem held_adjustStation (n : StationId) (a : Adjustment) (s : State) (r' : Port) :
    ((adjustStation n a s).held r') = s.held r' := by
  unfold adjustStation; split <;> simp
@[simp] theorem held_startCapture (n : StationId) (op : WeighOp) (mass : Option Int) (s : State) (r' : Port) :
    ((startCapture n op mass s).held r') = s.held r' := by
  unfold startCapture; split <;> simp
@[simp] theorem held_enableNotices (en : BitVec 16) (s : State) (r' : Port) :
    ((enableNotices en s).held r') = s.held r' := by
  simp only [enableNotices]; (repeat' split) <;> simp

end Sys2Proof.Machine
end

