-- ==== Sys2Proof/Laws/Tables.lean ====
section
/-! SUPPORT. What follows from a kept outline: the node table, the bindings, limits and step tables, the silence of a role and
the health of a port read as before. One lemma for each operation and reading. -/

namespace Sys2Proof.Machine

open Sys2Proof

theorem st_outline_of {s t : State} (h : t.outline = s.outline) (m : StationId) :
    (t.st m).outline = (s.st m).outline := by
  cases m
  · exact (congrArg State.station0 h :)
  · exact (congrArg State.station1 h :)

theorem port_outline_of {s t : State} (h : t.outline = s.outline) (p : Port) :
    (t.port p).outline = (s.port p).outline := by
  cases p
  · exact (congrArg State.control h :)
  · exact (congrArg State.appliance h :)

theorem nodes_of {s t : State} (h : t.outline = s.outline) : t.nodes = s.nodes := (congrArg State.nodes h :)

theorem ownNode_of {s t : State} (h : t.outline = s.outline) : t.ownNode = s.ownNode := (congrArg State.ownNode h :)

theorem inReset_of {s t : State} (h : t.outline = s.outline) : t.inReset = s.inReset := (congrArg State.inReset h :)

theorem requests_of {s t : State} (h : t.outline = s.outline) : t.requests = s.requests := (congrArg State.requests h :)

theorem routes_of {s t : State} (h : t.outline = s.outline) : t.routes = s.routes := (congrArg State.routes h :)

theorem pending_of {s t : State} (h : t.outline = s.outline) : t.pending = s.pending := (congrArg State.pending h :)

theorem binding_of {s t : State} (h : t.outline = s.outline) (m : StationId) : (t.st m).binding = (s.st m).binding :=
  (congrArg Station.binding (st_outline_of h m) :)

theorem limits_of {s t : State} (h : t.outline = s.outline) (m : StationId) : (t.st m).limits = (s.st m).limits :=
  (congrArg Station.limits (st_outline_of h m) :)

theorem steps_of {s t : State} (h : t.outline = s.outline) (m : StationId) : (t.st m).steps = (s.st m).steps :=
  (congrArg Station.steps (st_outline_of h m) :)

theorem recipeLength_of {s t : State} (h : t.outline = s.outline) (m : StationId) :
    (t.st m).recipeLength = (s.st m).recipeLength :=
  (congrArg Station.recipeLength (st_outline_of h m) :)

theorem lockHolder_of {s t : State} (h : t.outline = s.outline) (m : StationId) :
    (t.st m).lockHolder = (s.st m).lockHolder :=
  (congrArg Station.lockHolder (st_outline_of h m) :)

theorem heatCfg_of {s t : State} (h : t.outline = s.outline) (m : StationId) : (t.st m).heatCfg = (s.st m).heatCfg :=
  (congrArg Station.heatCfg (st_outline_of h m) :)

theorem health_of {s t : State} (h : t.outline = s.outline) (p : Port) : (t.port p).health = (s.port p).health :=
  (congrArg PortState.health (port_outline_of h p) :)

theorem activity_of {s t : State} (h : t.outline = s.outline) (p : Port) : (t.port p).activity = (s.port p).activity :=
  (congrArg PortState.activity (port_outline_of h p) :)

theorem cfg_of {s t : State} (h : t.outline = s.outline) (p : Port) : (t.port p).cfg = (s.port p).cfg :=
  (congrArg PortState.cfg (port_outline_of h p) :)

theorem nodeIndex_of {s t : State} (h : t.outline = s.outline) (k : NodeId) : t.nodeIndex k = s.nodeIndex k := by
  simp [State.nodeIndex, nodes_of h]

theorem nodeEntry_of {s t : State} (h : t.outline = s.outline) (k : NodeId) : t.nodeEntry k = s.nodeEntry k := by
  have hi : t.entryAt = s.entryAt := by funext i; simp [State.entryAt, nodes_of h]
  simp [State.nodeEntry, State.nodeIndex, nodes_of h, hi]

theorem silent_of {s t : State} (h : t.outline = s.outline) (m : StationId) (r : Role) : t.silent m r = s.silent m r := by
  simp [State.silent, nodeEntry_of h, binding_of h]

theorem isolated_of {s t : State} (h : t.outline = s.outline) : t.applianceIsolated = s.applianceIsolated := by
  simp only [State.applianceIsolated]; rw [show t.appliance.health = s.appliance.health from health_of h .appliance]

@[simp] theorem modRun_silent (s : State) (n : StationId) (f : RunContext → RunContext) (m : StationId) (r : Role) :
    (s.modRun n f).silent m r = s.silent m r :=
  silent_of (outline_modRun s n f) m r

@[simp] theorem modRun_applianceIsolated (s : State) (n : StationId) (f : RunContext → RunContext) :
    (s.modRun n f).applianceIsolated = s.applianceIsolated :=
  isolated_of (outline_modRun s n f)

@[simp] theorem modDrive_silent (s : State) (n : StationId) (f : DriveContext → DriveContext) (m : StationId) (r : Role) :
    (s.modDrive n f).silent m r = s.silent m r :=
  silent_of (outline_modDrive s n f) m r

@[simp] theorem modDrive_applianceIsolated (s : State) (n : StationId) (f : DriveContext → DriveContext) :
    (s.modDrive n f).applianceIsolated = s.applianceIsolated :=
  isolated_of (outline_modDrive s n f)

@[simp] theorem modWeigh_silent (s : State) (n : StationId) (f : WeighContext → WeighContext) (m : StationId) (r : Role) :
    (s.modWeigh n f).silent m r = s.silent m r :=
  silent_of (outline_modWeigh s n f) m r

@[simp] theorem modWeigh_applianceIsolated (s : State) (n : StationId) (f : WeighContext → WeighContext) :
    (s.modWeigh n f).applianceIsolated = s.applianceIsolated :=
  isolated_of (outline_modWeigh s n f)

@[simp] theorem modHeat_silent (s : State) (n : StationId) (f : HeatContext → HeatContext) (m : StationId) (r : Role) :
    (s.modHeat n f).silent m r = s.silent m r :=
  silent_of (outline_modHeat s n f) m r

@[simp] theorem modHeat_applianceIsolated (s : State) (n : StationId) (f : HeatContext → HeatContext) :
    (s.modHeat n f).applianceIsolated = s.applianceIsolated :=
  isolated_of (outline_modHeat s n f)

/-! ### `silent` -/

@[simp] theorem countPort_silent (p : Port) (c : PortCounter) (s : State) (m : StationId) (role : Role) :
    (countPort p c s).silent m role = s.silent m role :=
  silent_of (countPort_outline _ _ s) m role
@[simp] theorem countStation_silent (n : StationId) (c : StationCounter) (s : State) (m : StationId) (role : Role) :
    (countStation n c s).silent m role = s.silent m role :=
  silent_of (countStation_outline _ _ s) m role
@[simp] theorem updateDropMode_silent (p : Port) (s : State) (m : StationId) (role : Role) :
    (updateDropMode p s).silent m role = s.silent m role :=
  silent_of (updateDropMode_outline _ s) m role
@[simp] theorem updateDropModes_silent (s : State) (m : StationId) (role : Role) :
    (updateDropModes s).silent m role = s.silent m role :=
  silent_of (updateDropModes_outline s) m role
@[simp] theorem originate_silent (k : OwnKind) (dest : NodeId) (payload : List Byte) (s : State) (m : StationId) (role : Role) :
    (originate k dest payload s).silent m role = s.silent m role :=
  silent_of (originate_outline _ _ _ s) m role
@[simp] theorem originateNotice_silent (s : State) (m : StationId) (role : Role) :
    (originateNotice s).silent m role = s.silent m role :=
  silent_of (originateNotice_outline s) m role
@[simp] theorem setNotice_silent (b : NoticeBit) (s : State) (m : StationId) (role : Role) :
    (setNotice b s).silent m role = s.silent m role :=
  silent_of (setNotice_outline _ s) m role
@[simp] theorem sendHeatSet_silent (n : StationId) (s : State) (m : StationId) (role : Role) :
    (sendHeatSet n s).silent m role = s.silent m role :=
  silent_of (sendHeatSet_outline _ s) m role
@[simp] theorem testGrant_silent (n : StationId) (s : State) (m : StationId) (role : Role) :
    (testGrant n s).silent m role = s.silent m role :=
  silent_of (testGrant_outline _ s) m role
@[simp] theorem recomputeArbiter_silent (s : State) (m : StationId) (role : Role) :
    (recomputeArbiter s).silent m role = s.silent m role :=
  silent_of (recomputeArbiter_outline s) m role
@[simp] theorem followDemand_silent (n : StationId) (s : State) (m : StationId) (role : Role) :
    (followDemand n s).silent m role = s.silent m role :=
  silent_of (followDemand_outline _ s) m role
@[simp] theorem setDemand_silent (n : StationId) (d : Nat) (s : State) (m : StationId) (role : Role) :
    (setDemand n d s).silent m role = s.silent m role :=
  silent_of (setDemand_outline _ _ s) m role
@[simp] theorem setDraw_silent (n : StationId) (w : Nat) (s : State) (m : StationId) (role : Role) :
    (setDraw n w s).silent m role = s.silent m role :=
  silent_of (setDraw_outline _ _ s) m role
@[simp] theorem sendLidSet_silent (n : StationId) (c : LidCmd) (s : State) (m : StationId) (role : Role) :
    (sendLidSet n c s).silent m role = s.silent m role :=
  silent_of (sendLidSet_outline _ _ s) m role
@[simp] theorem lockLid_silent (n : StationId) (s : State) (m : StationId) (role : Role) :
    (lockLid n s).silent m role = s.silent m role :=
  silent_of (lockLid_outline _ s) m role
@[simp] theorem testUnlock_silent (n : StationId) (s : State) (m : StationId) (role : Role) :
    (testUnlock n s).silent m role = s.silent m role :=
  silent_of (testUnlock_outline _ s) m role
@[simp] theorem askUnlock_silent (n : StationId) (s : State) (m : StationId) (role : Role) :
    (askUnlock n s).silent m role = s.silent m role :=
  silent_of (askUnlock_outline _ s) m role
@[simp] theorem sendSpeedSet_silent (n : StationId) (s : State) (m : StationId) (role : Role) :
    (sendSpeedSet n s).silent m role = s.silent m role :=
  silent_of (sendSpeedSet_outline _ s) m role
@[simp] theorem recomputeDrive_silent (n : StationId) (s : State) (m : StationId) (role : Role) :
    (recomputeDrive n s).silent m role = s.silent m role :=
  silent_of (recomputeDrive_outline _ s) m role
@[simp] theorem recomputeEnvelope_silent (n : StationId) (s : State) (m : StationId) (role : Role) :
    (recomputeEnvelope n s).silent m role = s.silent m role :=
  silent_of (recomputeEnvelope_outline _ s) m role
@[simp] theorem dropManualSpeed_silent (n : StationId) (s : State) (m : StationId) (role : Role) :
    (dropManualSpeed n s).silent m role = s.silent m role :=
  silent_of (dropManualSpeed_outline _ s) m role
@[simp] theorem retestReached_silent (n : StationId) (s : State) (m : StationId) (role : Role) :
    (retestReached n s).silent m role = s.silent m role :=
  silent_of (retestReached_outline _ s) m role
@[simp] theorem adoptTarget_silent (n : StationId) (rule : Adoption) (inSample : Bool) (s : State) (m : StationId) (role : Role) :
    (adoptTarget n rule inSample s).silent m role = s.silent m role :=
  silent_of (adoptTarget_outline _ _ _ s) m role
@[simp] theorem stateChanged_silent (n : StationId) (rule : Adoption) (inSample : Bool) (s : State) (m : StationId) (role : Role) :
    (stateChanged n rule inSample s).silent m role = s.silent m role :=
  silent_of (stateChanged_outline _ _ _ s) m role
@[simp] theorem followManualHeat_silent (n : StationId) (s : State) (m : StationId) (role : Role) :
    (followManualHeat n s).silent m role = s.silent m role :=
  silent_of (followManualHeat_outline _ s) m role
@[simp] theorem dropManualHeat_silent (n : StationId) (s : State) (m : StationId) (role : Role) :
    (dropManualHeat n s).silent m role = s.silent m role :=
  silent_of (dropManualHeat_outline _ s) m role
@[simp] theorem originateStepReport_silent (n : StationId) (r : StepReport) (s : State) (m : StationId) (role : Role) :
    (originateStepReport n r s).silent m role = s.silent m role :=
  silent_of (originateStepReport_outline _ _ s) m role
@[simp] theorem endStep_silent (n : StationId) (o : StepOutcome) (s : State) (m : StationId) (role : Role) :
    (endStep n o s).silent m role = s.silent m role :=
  silent_of (endStep_outline _ _ s) m role
@[simp] theorem furtherFault_silent (n : StationId) (s : State) (m : StationId) (role : Role) :
    (furtherFault n s).silent m role = s.silent m role :=
  silent_of (furtherFault_outline _ s) m role
@[simp] theorem enterFault_silent (n : StationId) (c : FaultCause) (further : Nat) (inSample : Bool) (s : State) (m : StationId) (role : Role) :
    (enterFault n c further inSample s).silent m role = s.silent m role :=
  silent_of (enterFault_outline _ _ _ _ s) m role
@[simp] theorem raiseCause_silent (n : StationId) (c : FaultCause) (carried : Bool) (s : State) (m : StationId) (role : Role) :
    (raiseCause n c carried s).silent m role = s.silent m role :=
  silent_of (raiseCause_outline _ _ _ s) m role
@[simp] theorem raiseSilence_silent (n : StationId) (c : FaultCause) (faults : Bool) (s : State) (m : StationId) (role : Role) :
    (raiseSilence n c faults s).silent m role = s.silent m role :=
  silent_of (raiseSilence_outline _ _ _ s) m role
@[simp] theorem enterActive_silent (n : StationId) (rule : Adoption) (inSample : Bool) (s : State) (m : StationId) (role : Role) :
    (enterActive n rule inSample s).silent m role = s.silent m role :=
  silent_of (enterActive_outline _ _ _ s) m role
@[simp] theorem enterBasing_silent (n : StationId) (rule : Adoption) (inSample : Bool) (s : State) (m : StationId) (role : Role) :
    (enterBasing n rule inSample s).silent m role = s.silent m role :=
  silent_of (enterBasing_outline _ _ _ s) m role
@[simp] theorem leaveLocking_silent (n : StationId) (rule : Adoption) (inSample : Bool) (s : State) (m : StationId) (role : Role) :
    (leaveLocking n rule inSample s).silent m role = s.silent m role :=
  silent_of (leaveLocking_outline _ _ _ s) m role
@[simp] theorem actOnLid_silent (n : StationId) (s : State) (m : StationId) (role : Role) :
    (actOnLid n s).silent m role = s.silent m role :=
  silent_of (actOnLid_outline _ s) m role
@[simp] theorem enterLocking_silent (n : StationId) (after : Phase) (rule : Adoption) (inSample : Bool) (s : State) (m : StationId) (role : Role) :
    (enterLocking n after rule inSample s).silent m role = s.silent m role :=
  silent_of (enterLocking_outline _ _ _ _ s) m role
@[simp] theorem leaveBasing_silent (n : StationId) (s : State) (m : StationId) (role : Role) :
    (leaveBasing n s).silent m role = s.silent m role :=
  silent_of (leaveBasing_outline _ s) m role
@[simp] theorem enterStep_silent (n : StationId) (i : Nat) (old : Option Int) (inSample : Bool) (s : State) (m : StationId) (role : Role) :
    (enterStep n i old inSample s).silent m role = s.silent m role :=
  silent_of (enterStep_outline _ _ _ _ s) m role
@[simp] theorem enterIdle_silent (n : StationId) (unlock inSample : Bool) (s : State) (m : StationId) (role : Role) :
    (enterIdle n unlock inSample s).silent m role = s.silent m role :=
  silent_of (enterIdle_outline _ _ _ s) m role
@[simp] theorem enterWarming_silent (n : StationId) (old : Option Int) (inSample : Bool) (s : State) (m : StationId) (role : Role) :
    (enterWarming n old inSample s).silent m role = s.silent m role :=
  silent_of (enterWarming_outline _ _ _ s) m role
@[simp] theorem endRecipe_silent (n : StationId) (rec : StepRecord) (old : Option Int) (inSample : Bool) (s : State) (m : StationId) (role : Role) :
    (endRecipe n rec old inSample s).silent m role = s.silent m role :=
  silent_of (endRecipe_outline _ _ _ _ s) m role
@[simp] theorem finishStep_silent (n : StationId) (o : StepOutcome) (inSample : Bool) (s : State) (m : StationId) (role : Role) :
    (finishStep n o inSample s).silent m role = s.silent m role :=
  silent_of (finishStep_outline _ _ _ s) m role
@[simp] theorem pauseStation_silent (n : StationId) (why : PauseReason) (s : State) (m : StationId) (role : Role) :
    (pauseStation n why s).silent m role = s.silent m role :=
  silent_of (pauseStation_outline _ _ s) m role
@[simp] theorem endOp_silent (n : StationId) (o : OpOutcome) (s : State) (m : StationId) (role : Role) :
    (endOp n o s).silent m role = s.silent m role :=
  silent_of (endOp_outline _ _ s) m role
@[simp] theorem changeTare_silent (n : StationId) (t : Int) (s : State) (m : StationId) (role : Role) :
    (changeTare n t s).silent m role = s.silent m role :=
  silent_of (changeTare_outline _ _ s) m role
@[simp] theorem weighStep_silent (n : StationId) (s : State) (m : StationId) (role : Role) :
    (weighStep n s).silent m role = s.silent m role :=
  silent_of (weighStep_outline _ s) m role
@[simp] theorem completeZero_silent (n : StationId) (s : State) (m : StationId) (role : Role) :
    (completeZero n s).silent m role = s.silent m role :=
  silent_of (completeZero_outline _ s) m role
@[simp] theorem completeCalibrate_silent (n : StationId) (s : State) (m : StationId) (role : Role) :
    (completeCalibrate n s).silent m role = s.silent m role :=
  silent_of (completeCalibrate_outline _ s) m role
@[simp] theorem advanceOp_silent (n : StationId) (x : WeighSample) (s : State) (m : StationId) (role : Role) :
    (advanceOp n x s).silent m role = s.silent m role :=
  silent_of (advanceOp_outline _ _ s) m role
@[simp] theorem acceptSample_silent (n : StationId) (x : WeighSample) (s : State) (m : StationId) (role : Role) :
    (acceptSample n x s).silent m role = s.silent m role :=
  silent_of (acceptSample_outline _ _ s) m role
@[simp] theorem takeWeighSample_silent (n : StationId) (x : WeighSample) (s : State) (m : StationId) (role : Role) :
    (takeWeighSample n x s).silent m role = s.silent m role :=
  silent_of (takeWeighSample_outline _ _ s) m role
@[simp] theorem thermoFaults_silent (n : StationId) (t : Int) (fault : Bool) (before : HeatContext) (s : State) (m : StationId) (role : Role) :
    (thermoFaults n t fault before s).silent m role = s.silent m role :=
  silent_of (thermoFaults_outline _ _ _ _ s) m role
@[simp] theorem tempStep_silent (n : StationId) (t : Int) (s : State) (m : StationId) (role : Role) :
    (tempStep n t s).silent m role = s.silent m role :=
  silent_of (tempStep_outline _ _ s) m role
@[simp] theorem thermoDemand_silent (n : StationId) (t : Int) (grant demand : Nat) (s : State) (m : StationId) (role : Role) :
    (thermoDemand n t grant demand s).silent m role = s.silent m role :=
  silent_of (thermoDemand_outline _ _ _ _ s) m role
@[simp] theorem takeThermoSample_silent (n : StationId) (t : Int) (fault : Bool) (s : State) (m : StationId) (role : Role) :
    (takeThermoSample n t fault s).silent m role = s.silent m role :=
  silent_of (takeThermoSample_outline _ _ _ s) m role
@[simp] theorem takeHeatState_silent (n : StationId) (r : HeatReport) (s : State) (m : StationId) (role : Role) :
    (takeHeatState n r s).silent m role = s.silent m role :=
  silent_of (takeHeatState_outline _ _ s) m role
@[simp] theorem takeDriveState_silent (n : StationId) (r : DriveReport) (s : State) (m : StationId) (role : Role) :
    (takeDriveState n r s).silent m role = s.silent m role :=
  silent_of (takeDriveState_outline _ _ s) m role
@[simp] theorem takeLidState_silent (n : StationId) (r : LidReport) (s : State) (m : StationId) (role : Role) :
    (takeLidState n r s).silent m role = s.silent m role :=
  silent_of (takeLidState_outline _ _ s) m role
@[simp] theorem manualSpeed_silent (n : StationId) (v : Nat) (dir : Direction) (s : State) (m : StationId) (role : Role) :
    (manualSpeed n v dir s).silent m role = s.silent m role :=
  silent_of (manualSpeed_outline _ _ _ s) m role
@[simp] theorem manualHeat_silent (n : StationId) (w : Nat) (s : State) (m : StationId) (role : Role) :
    (manualHeat n w s).silent m role = s.silent m role :=
  silent_of (manualHeat_outline _ _ s) m role
@[simp] theorem manualLid_silent (n : StationId) (c : LidCmd) (s : State) (m : StationId) (role : Role) :
    (manualLid n c s).silent m role = s.silent m role :=
  silent_of (manualLid_outline _ _ s) m role
@[simp] theorem weighSilence_silent (n : StationId) (s : State) (m : StationId) (role : Role) :
    (weighSilence n s).silent m role = s.silent m role :=
  silent_of (weighSilence_outline _ s) m role
@[simp] theorem thermoSilence_silent (n : StationId) (s : State) (m : StationId) (role : Role) :
    (thermoSilence n s).silent m role = s.silent m role :=
  silent_of (thermoSilence_outline _ s) m role
@[simp] theorem heaterSilence_silent (n : StationId) (s : State) (m : StationId) (role : Role) :
    (heaterSilence n s).silent m role = s.silent m role :=
  silent_of (heaterSilence_outline _ s) m role
@[simp] theorem driveSilence_silent (n : StationId) (s : State) (m : StationId) (role : Role) :
    (driveSilence n s).silent m role = s.silent m role :=
  silent_of (driveSilence_outline _ s) m role
@[simp] theorem lidSilence_silent (n : StationId) (s : State) (m : StationId) (role : Role) :
    (lidSilence n s).silent m role = s.silent m role :=
  silent_of (lidSilence_outline _ s) m role
@[simp] theorem roleSilent_silent (n : StationId) (r : Role) (s : State) (m : StationId) (role : Role) :
    (roleSilent n r s).silent m role = s.silent m role :=
  silent_of (roleSilent_outline _ _ s) m role
@[simp] theorem roleHeard_silent (n : StationId) (r : Role) (s : State) (m : StationId) (role : Role) :
    (roleHeard n r s).silent m role = s.silent m role :=
  silent_of (roleHeard_outline _ _ s) m role
@[simp] theorem isolateStation_silent (n : StationId) (s : State) (m : StationId) (role : Role) :
    (isolateStation n s).silent m role = s.silent m role :=
  silent_of (isolateStation_outline _ s) m role
@[simp] theorem refreshLid_silent (n : StationId) (s : State) (m : StationId) (role : Role) :
    (refreshLid n s).silent m role = s.silent m role :=
  silent_of (refreshLid_outline _ s) m role
@[simp] theorem sendWeightReport_silent (n : StationId) (s : State) (m : StationId) (role : Role) :
    (sendWeightReport n s).silent m role = s.silent m role :=
  silent_of (sendWeightReport_outline _ s) m role
@[simp] theorem discardUnsent_silent (k : OwnKind) (s : State) (m : StationId) (role : Role) :
    (discardUnsent k s).silent m role = s.silent m role :=
  silent_of (discardUnsent_outline _ s) m role
@[simp] theorem forgetRoles_silent (n : StationId) (old new : Binding) (s : State) (m : StationId) (role : Role) :
    (forgetRoles n old new s).silent m role = s.silent m role :=
  silent_of (forgetRoles_outline _ _ _ s) m role
@[simp] theorem followBinding_silent (n : StationId) (old new : Binding) (s : State) (m : StationId) (role : Role) :
    (followBinding n old new s).silent m role = s.silent m role :=
  silent_of (followBinding_outline _ _ _ s) m role
@[simp] theorem setBudget_silent (w : Nat) (s : State) (m : StationId) (role : Role) :
    (setBudget w s).silent m role = s.silent m role :=
  silent_of (setBudget_outline _ s) m role
@[simp] theorem startStation_silent (n : StationId) (first : Nat) (s : State) (m : StationId) (role : Role) :
    (startStation n first s).silent m role = s.silent m role :=
  silent_of (startStation_outline _ _ s) m role
@[simp] theorem resumeLocking_silent (n : StationId) (s : State) (m : StationId) (role : Role) :
    (resumeLocking n s).silent m role = s.silent m role :=
  silent_of (resumeLocking_outline _ s) m role
@[simp] theorem resumePhase_silent (n : StationId) (s : State) (m : StationId) (role : Role) :
    (resumePhase n s).silent m role = s.silent m role :=
  silent_of (resumePhase_outline _ s) m role
@[simp] theorem resumeStation_silent (n : StationId) (s : State) (m : StationId) (role : Role) :
    (resumeStation n s).silent m role = s.silent m role :=
  silent_of (resumeStation_outline _ s) m role
@[simp] theorem adjustHeat_silent (n : StationId) (before : Option Int) (a : Adjustment) (s : State) (m : StationId) (role : Role) :
    (adjustHeat n before a s).silent m role = s.silent m role :=
  silent_of (adjustHeat_outline _ _ _ s) m role
@[simp] theorem adjustStation_silent (n : StationId) (a : Adjustment) (s : State) (m : StationId) (role : Role) :
    (adjustStation n a s).silent m role = s.silent m role :=
  silent_of (adjustStation_outline _ _ s) m role
@[simp] theorem startCapture_silent (n : StationId) (op : WeighOp) (mass : Option Int) (s : State) (m : StationId) (role : Role) :
    (startCapture n op mass s).silent m role = s.silent m role :=
  silent_of (startCapture_outline _ _ _ s) m role
@[simp] theorem enableNotices_silent (en : BitVec 16) (s : State) (m : StationId) (role : Role) :
    (enableNotices en s).silent m role = s.silent m role :=
  silent_of (enableNotices_outline _ s) m role

/-! ### `applianceIsolated` -/

@[simp] theorem countPort_applianceIsolated (p : Port) (c : PortCounter) (s : State) :
    (countPort p c s).applianceIsolated = s.applianceIsolated :=
  isolated_of (countPort_outline _ _ s)
@[simp] theorem countStation_applianceIsolated (n : StationId) (c : StationCounter) (s : State) :
    (countStation n c s).applianceIsolated = s.applianceIsolated :=
  isolated_of (countStation_outline _ _ s)
@[simp] theorem updateDropMode_applianceIsolated (p : Port) (s : State) :
    (updateDropMode p s).applianceIsolated = s.applianceIsolated :=
  isolated_of (updateDropMode_outline _ s)
@[simp] theorem updateDropModes_applianceIsolated (s : State) :
    (updateDropModes s).applianceIsolated = s.applianceIsolated :=
  isolated_of (updateDropModes_outline s)
@[simp] theorem originate_applianceIsolated (k : OwnKind) (dest : NodeId) (payload : List Byte) (s : State) :
    (originate k dest payload s).applianceIsolated = s.applianceIsolated :=
  isolated_of (originate_outline _ _ _ s)
@[simp] theorem originateNotice_applianceIsolated (s : State) :
    (originateNotice s).applianceIsolated = s.applianceIsolated :=
  isolated_of (originateNotice_outline s)
@[simp] theorem setNotice_applianceIsolated (b : NoticeBit) (s : State) :
    (setNotice b s).applianceIsolated = s.applianceIsolated :=
  isolated_of (setNotice_outline _ s)
@[simp] theorem sendHeatSet_applianceIsolated (n : StationId) (s : State) :
    (sendHeatSet n s).applianceIsolated = s.applianceIsolated :=
  isolated_of (sendHeatSet_outline _ s)
@[simp] theorem testGrant_applianceIsolated (n : StationId) (s : State) :
    (testGrant n s).applianceIsolated = s.applianceIsolated :=
  isolated_of (testGrant_outline _ s)
@[simp] theorem recomputeArbiter_applianceIsolated (s : State) :
    (recomputeArbiter s).applianceIsolated = s.applianceIsolated :=
  isolated_of (recomputeArbiter_outline s)
@[simp] theorem followDemand_applianceIsolated (n : StationId) (s : State) :
    (followDemand n s).applianceIsolated = s.applianceIsolated :=
  isolated_of (followDemand_outline _ s)
@[simp] theorem setDemand_applianceIsolated (n : StationId) (d : Nat) (s : State) :
    (setDemand n d s).applianceIsolated = s.applianceIsolated :=
  isolated_of (setDemand_outline _ _ s)
@[simp] theorem setDraw_applianceIsolated (n : StationId) (w : Nat) (s : State) :
    (setDraw n w s).applianceIsolated = s.applianceIsolated :=
  isolated_of (setDraw_outline _ _ s)
@[simp] theorem sendLidSet_applianceIsolated (n : StationId) (c : LidCmd) (s : State) :
    (sendLidSet n c s).applianceIsolated = s.applianceIsolated :=
  isolated_of (sendLidSet_outline _ _ s)
@[simp] theorem lockLid_applianceIsolated (n : StationId) (s : State) :
    (lockLid n s).applianceIsolated = s.applianceIsolated :=
  isolated_of (lockLid_outline _ s)
@[simp] theorem testUnlock_applianceIsolated (n : StationId) (s : State) :
    (testUnlock n s).applianceIsolated = s.applianceIsolated :=
  isolated_of (testUnlock_outline _ s)
@[simp] theorem askUnlock_applianceIsolated (n : StationId) (s : State) :
    (askUnlock n s).applianceIsolated = s.applianceIsolated :=
  isolated_of (askUnlock_outline _ s)
@[simp] theorem sendSpeedSet_applianceIsolated (n : StationId) (s : State) :
    (sendSpeedSet n s).applianceIsolated = s.applianceIsolated :=
  isolated_of (sendSpeedSet_outline _ s)
@[simp] theorem recomputeDrive_applianceIsolated (n : StationId) (s : State) :
    (recomputeDrive n s).applianceIsolated = s.applianceIsolated :=
  isolated_of (recomputeDrive_outline _ s)
@[simp] theorem recomputeEnvelope_applianceIsolated (n : StationId) (s : State) :
    (recomputeEnvelope n s).applianceIsolated = s.applianceIsolated :=
  isolated_of (recomputeEnvelope_outline _ s)
@[simp] theorem dropManualSpeed_applianceIsolated (n : StationId) (s : State) :
    (dropManualSpeed n s).applianceIsolated = s.applianceIsolated :=
  isolated_of (dropManualSpeed_outline _ s)
@[simp] theorem retestReached_applianceIsolated (n : StationId) (s : State) :
    (retestReached n s).applianceIsolated = s.applianceIsolated :=
  isolated_of (retestReached_outline _ s)
@[simp] theorem adoptTarget_applianceIsolated (n : StationId) (rule : Adoption) (inSample : Bool) (s : State) :
    (adoptTarget n rule inSample s).applianceIsolated = s.applianceIsolated :=
  isolated_of (adoptTarget_outline _ _ _ s)
@[simp] theorem stateChanged_applianceIsolated (n : StationId) (rule : Adoption) (inSample : Bool) (s : State) :
    (stateChanged n rule inSample s).applianceIsolated = s.applianceIsolated :=
  isolated_of (stateChanged_outline _ _ _ s)
@[simp] theorem followManualHeat_applianceIsolated (n : StationId) (s : State) :
    (followManualHeat n s).applianceIsolated = s.applianceIsolated :=
  isolated_of (followManualHeat_outline _ s)
@[simp] theorem dropManualHeat_applianceIsolated (n : StationId) (s : State) :
    (dropManualHeat n s).applianceIsolated = s.applianceIsolated :=
  isolated_of (dropManualHeat_outline _ s)
@[simp] theorem originateStepReport_applianceIsolated (n : StationId) (r : StepReport) (s : State) :
    (originateStepReport n r s).applianceIsolated = s.applianceIsolated :=
  isolated_of (originateStepReport_outline _ _ s)
@[simp] theorem endStep_applianceIsolated (n : StationId) (o : StepOutcome) (s : State) :
    (endStep n o s).applianceIsolated = s.applianceIsolated :=
  isolated_of (endStep_outline _ _ s)
@[simp] theorem furtherFault_applianceIsolated (n : StationId) (s : State) :
    (furtherFault n s).applianceIsolated = s.applianceIsolated :=
  isolated_of (furtherFault_outline _ s)
@[simp] theorem enterFault_applianceIsolated (n : StationId) (c : FaultCause) (further : Nat) (inSample : Bool) (s : State) :
    (enterFault n c further inSample s).applianceIsolated = s.applianceIsolated :=
  isolated_of (enterFault_outline _ _ _ _ s)
@[simp] theorem raiseCause_applianceIsolated (n : StationId) (c : FaultCause) (carried : Bool) (s : State) :
    (raiseCause n c carried s).applianceIsolated = s.applianceIsolated :=
  isolated_of (raiseCause_outline _ _ _ s)
@[simp] theorem raiseSilence_applianceIsolated (n : StationId) (c : FaultCause) (faults : Bool) (s : State) :
    (raiseSilence n c faults s).applianceIsolated = s.applianceIsolated :=
  isolated_of (raiseSilence_outline _ _ _ s)
@[simp] theorem enterActive_applianceIsolated (n : StationId) (rule : Adoption) (inSample : Bool) (s : State) :
    (enterActive n rule inSample s).applianceIsolated = s.applianceIsolated :=
  isolated_of (enterActive_outline _ _ _ s)
@[simp] theorem enterBasing_applianceIsolated (n : StationId) (rule : Adoption) (inSample : Bool) (s : State) :
    (enterBasing n rule inSample s).applianceIsolated = s.applianceIsolated :=
  isolated_of (enterBasing_outline _ _ _ s)
@[simp] theorem leaveLocking_applianceIsolated (n : StationId) (rule : Adoption) (inSample : Bool) (s : State) :
    (leaveLocking n rule inSample s).applianceIsolated = s.applianceIsolated :=
  isolated_of (leaveLocking_outline _ _ _ s)
@[simp] theorem actOnLid_applianceIsolated (n : StationId) (s : State) :
    (actOnLid n s).applianceIsolated = s.applianceIsolated :=
  isolated_of (actOnLid_outline _ s)
@[simp] theorem enterLocking_applianceIsolated (n : StationId) (after : Phase) (rule : Adoption) (inSample : Bool) (s : State) :
    (enterLocking n after rule inSample s).applianceIsolated = s.applianceIsolated :=
  isolated_of (enterLocking_outline _ _ _ _ s)
@[simp] theorem leaveBasing_applianceIsolated (n : StationId) (s : State) :
    (leaveBasing n s).applianceIsolated = s.applianceIsolated :=
  isolated_of (leaveBasing_outline _ s)
@[simp] theorem enterStep_applianceIsolated (n : StationId) (i : Nat) (old : Option Int) (inSample : Bool) (s : State) :
    (enterStep n i old inSample s).applianceIsolated = s.applianceIsolated :=
  isolated_of (enterStep_outline _ _ _ _ s)
@[simp] theorem enterIdle_applianceIsolated (n : StationId) (unlock inSample : Bool) (s : State) :
    (enterIdle n unlock inSample s).applianceIsolated = s.applianceIsolated :=
  isolated_of (enterIdle_outline _ _ _ s)
@[simp] theorem enterWarming_applianceIsolated (n : StationId) (old : Option Int) (inSample : Bool) (s : State) :
    (enterWarming n old inSample s).applianceIsolated = s.applianceIsolated :=
  isolated_of (enterWarming_outline _ _ _ s)
@[simp] theorem endRecipe_applianceIsolated (n : StationId) (rec : StepRecord) (old : Option Int) (inSample : Bool) (s : State) :
    (endRecipe n rec old inSample s).applianceIsolated = s.applianceIsolated :=
  isolated_of (endRecipe_outline _ _ _ _ s)
@[simp] theorem finishStep_applianceIsolated (n : StationId) (o : StepOutcome) (inSample : Bool) (s : State) :
    (finishStep n o inSample s).applianceIsolated = s.applianceIsolated :=
  isolated_of (finishStep_outline _ _ _ s)
@[simp] theorem pauseStation_applianceIsolated (n : StationId) (why : PauseReason) (s : State) :
    (pauseStation n why s).applianceIsolated = s.applianceIsolated :=
  isolated_of (pauseStation_outline _ _ s)
@[simp] theorem endOp_applianceIsolated (n : StationId) (o : OpOutcome) (s : State) :
    (endOp n o s).applianceIsolated = s.applianceIsolated :=
  isolated_of (endOp_outline _ _ s)
@[simp] theorem changeTare_applianceIsolated (n : StationId) (t : Int) (s : State) :
    (changeTare n t s).applianceIsolated = s.applianceIsolated :=
  isolated_of (changeTare_outline _ _ s)
@[simp] theorem weighStep_applianceIsolated (n : StationId) (s : State) :
    (weighStep n s).applianceIsolated = s.applianceIsolated :=
  isolated_of (weighStep_outline _ s)
@[simp] theorem completeZero_applianceIsolated (n : StationId) (s : State) :
    (completeZero n s).applianceIsolated = s.applianceIsolated :=
  isolated_of (completeZero_outline _ s)
@[simp] theorem completeCalibrate_applianceIsolated (n : StationId) (s : State) :
    (completeCalibrate n s).applianceIsolated = s.applianceIsolated :=
  isolated_of (completeCalibrate_outline _ s)
@[simp] theorem advanceOp_applianceIsolated (n : StationId) (x : WeighSample) (s : State) :
    (advanceOp n x s).applianceIsolated = s.applianceIsolated :=
  isolated_of (advanceOp_outline _ _ s)
@[simp] theorem acceptSample_applianceIsolated (n : StationId) (x : WeighSample) (s : State) :
    (acceptSample n x s).applianceIsolated = s.applianceIsolated :=
  isolated_of (acceptSample_outline _ _ s)
@[simp] theorem takeWeighSample_applianceIsolated (n : StationId) (x : WeighSample) (s : State) :
    (takeWeighSample n x s).applianceIsolated = s.applianceIsolated :=
  isolated_of (takeWeighSample_outline _ _ s)
@[simp] theorem thermoFaults_applianceIsolated (n : StationId) (t : Int) (fault : Bool) (before : HeatContext) (s : State) :
    (thermoFaults n t fault before s).applianceIsolated = s.applianceIsolated :=
  isolated_of (thermoFaults_outline _ _ _ _ s)
@[simp] theorem tempStep_applianceIsolated (n : StationId) (t : Int) (s : State) :
    (tempStep n t s).applianceIsolated = s.applianceIsolated :=
  isolated_of (tempStep_outline _ _ s)
@[simp] theorem thermoDemand_applianceIsolated (n : StationId) (t : Int) (grant demand : Nat) (s : State) :
    (thermoDemand n t grant demand s).applianceIsolated = s.applianceIsolated :=
  isolated_of (thermoDemand_outline _ _ _ _ s)
@[simp] theorem takeThermoSample_applianceIsolated (n : StationId) (t : Int) (fault : Bool) (s : State) :
    (takeThermoSample n t fault s).applianceIsolated = s.applianceIsolated :=
  isolated_of (takeThermoSample_outline _ _ _ s)
@[simp] theorem takeHeatState_applianceIsolated (n : StationId) (r : HeatReport) (s : State) :
    (takeHeatState n r s).applianceIsolated = s.applianceIsolated :=
  isolated_of (takeHeatState_outline _ _ s)
@[simp] theorem takeDriveState_applianceIsolated (n : StationId) (r : DriveReport) (s : State) :
    (takeDriveState n r s).applianceIsolated = s.applianceIsolated :=
  isolated_of (takeDriveState_outline _ _ s)
@[simp] theorem takeLidState_applianceIsolated (n : StationId) (r : LidReport) (s : State) :
    (takeLidState n r s).applianceIsolated = s.applianceIsolated :=
  isolated_of (takeLidState_outline _ _ s)
@[simp] theorem manualSpeed_applianceIsolated (n : StationId) (v : Nat) (dir : Direction) (s : State) :
    (manualSpeed n v dir s).applianceIsolated = s.applianceIsolated :=
  isolated_of (manualSpeed_outline _ _ _ s)
@[simp] theorem manualHeat_applianceIsolated (n : StationId) (w : Nat) (s : State) :
    (manualHeat n w s).applianceIsolated = s.applianceIsolated :=
  isolated_of (manualHeat_outline _ _ s)
@[simp] theorem manualLid_applianceIsolated (n : StationId) (c : LidCmd) (s : State) :
    (manualLid n c s).applianceIsolated = s.applianceIsolated :=
  isolated_of (manualLid_outline _ _ s)
@[simp] theorem weighSilence_applianceIsolated (n : StationId) (s : State) :
    (weighSilence n s).applianceIsolated = s.applianceIsolated :=
  isolated_of (weighSilence_outline _ s)
@[simp] theorem thermoSilence_applianceIsolated (n : StationId) (s : State) :
    (thermoSilence n s).applianceIsolated = s.applianceIsolated :=
  isolated_of (thermoSilence_outline _ s)
@[simp] theorem heaterSilence_applianceIsolated (n : StationId) (s : State) :
    (heaterSilence n s).applianceIsolated = s.applianceIsolated :=
  isolated_of (heaterSilence_outline _ s)
@[simp] theorem driveSilence_applianceIsolated (n : StationId) (s : State) :
    (driveSilence n s).applianceIsolated = s.applianceIsolated :=
  isolated_of (driveSilence_outline _ s)
@[simp] theorem lidSilence_applianceIsolated (n : StationId) (s : State) :
    (lidSilence n s).applianceIsolated = s.applianceIsolated :=
  isolated_of (lidSilence_outline _ s)
@[simp] theorem roleSilent_applianceIsolated (n : StationId) (r : Role) (s : State) :
    (roleSilent n r s).applianceIsolated = s.applianceIsolated :=
  isolated_of (roleSilent_outline _ _ s)
@[simp] theorem roleHeard_applianceIsolated (n : StationId) (r : Role) (s : State) :
    (roleHeard n r s).applianceIsolated = s.applianceIsolated :=
  isolated_of (roleHeard_outline _ _ s)
@[simp] theorem isolateStation_applianceIsolated (n : StationId) (s : State) :
    (isolateStation n s).applianceIsolated = s.applianceIsolated :=
  isolated_of (isolateStation_outline _ s)
@[simp] theorem refreshLid_applianceIsolated (n : StationId) (s : State) :
    (refreshLid n s).applianceIsolated = s.applianceIsolated :=
  isolated_of (refreshLid_outline _ s)
@[simp] theorem sendWeightReport_applianceIsolated (n : StationId) (s : State) :
    (sendWeightReport n s).applianceIsolated = s.applianceIsolated :=
  isolated_of (sendWeightReport_outline _ s)
@[simp] theorem discardUnsent_applianceIsolated (k : OwnKind) (s : State) :
    (discardUnsent k s).applianceIsolated = s.applianceIsolated :=
  isolated_of (discardUnsent_outline _ s)
@[simp] theorem forgetRoles_applianceIsolated (n : StationId) (old new : Binding) (s : State) :
    (forgetRoles n old new s).applianceIsolated = s.applianceIsolated :=
  isolated_of (forgetRoles_outline _ _ _ s)
@[simp] theorem followBinding_applianceIsolated (n : StationId) (old new : Binding) (s : State) :
    (followBinding n old new s).applianceIsolated = s.applianceIsolated :=
  isolated_of (followBinding_outline _ _ _ s)
@[simp] theorem setBudget_applianceIsolated (w : Nat) (s : State) :
    (setBudget w s).applianceIsolated = s.applianceIsolated :=
  isolated_of (setBudget_outline _ s)
@[simp] theorem startStation_applianceIsolated (n : StationId) (first : Nat) (s : State) :
    (startStation n first s).applianceIsolated = s.applianceIsolated :=
  isolated_of (startStation_outline _ _ s)
@[simp] theorem resumeLocking_applianceIsolated (n : StationId) (s : State) :
    (resumeLocking n s).applianceIsolated = s.applianceIsolated :=
  isolated_of (resumeLocking_outline _ s)
@[simp] theorem resumePhase_applianceIsolated (n : StationId) (s : State) :
    (resumePhase n s).applianceIsolated = s.applianceIsolated :=
  isolated_of (resumePhase_outline _ s)
@[simp] theorem resumeStation_applianceIsolated (n : StationId) (s : State) :
    (resumeStation n s).applianceIsolated = s.applianceIsolated :=
  isolated_of (resumeStation_outline _ s)
@[simp] theorem adjustHeat_applianceIsolated (n : StationId) (before : Option Int) (a : Adjustment) (s : State) :
    (adjustHeat n before a s).applianceIsolated = s.applianceIsolated :=
  isolated_of (adjustHeat_outline _ _ _ s)
@[simp] theorem adjustStation_applianceIsolated (n : StationId) (a : Adjustment) (s : State) :
    (adjustStation n a s).applianceIsolated = s.applianceIsolated :=
  isolated_of (adjustStation_outline _ _ s)
@[simp] theorem startCapture_applianceIsolated (n : StationId) (op : WeighOp) (mass : Option Int) (s : State) :
    (startCapture n op mass s).applianceIsolated = s.applianceIsolated :=
  isolated_of (startCapture_outline _ _ _ s)
@[simp] theorem enableNotices_applianceIsolated (en : BitVec 16) (s : State) :
    (enableNotices en s).applianceIsolated = s.applianceIsolated :=
  isolated_of (enableNotices_outline _ s)

/-! ### `nodes` -/

@[simp] theorem countPort_nodes (p : Port) (c : PortCounter) (s : State) :
    (countPort p c s).nodes = s.nodes :=
  nodes_of (countPort_outline _ _ s)
@[simp] theorem countStation_nodes (n : StationId) (c : StationCounter) (s : State) :
    (countStation n c s).nodes = s.nodes :=
  nodes_of (countStation_outline _ _ s)
@[simp] theorem updateDropMode_nodes (p : Port) (s : State) :
    (updateDropMode p s).nodes = s.nodes :=
  nodes_of (updateDropMode_outline _ s)
@[simp] theorem updateDropModes_nodes (s : State) :
    (updateDropModes s).nodes = s.nodes :=
  nodes_of (updateDropModes_outline s)
@[simp] theorem originate_nodes (k : OwnKind) (dest : NodeId) (payload : List Byte) (s : State) :
    (originate k dest payload s).nodes = s.nodes :=
  nodes_of (originate_outline _ _ _ s)
@[simp] theorem originateNotice_nodes (s : State) :
    (originateNotice s).nodes = s.nodes :=
  nodes_of (originateNotice_outline s)
@[simp] theorem setNotice_nodes (b : NoticeBit) (s : State) :
    (setNotice b s).nodes = s.nodes :=
  nodes_of (setNotice_outline _ s)
@[simp] theorem sendHeatSet_nodes (n : StationId) (s : State) :
    (sendHeatSet n s).nodes = s.nodes :=
  nodes_of (sendHeatSet_outline _ s)
@[simp] theorem testGrant_nodes (n : StationId) (s : State) :
    (testGrant n s).nodes = s.nodes :=
  nodes_of (testGrant_outline _ s)
@[simp] theorem recomputeArbiter_nodes (s : State) :
    (recomputeArbiter s).nodes = s.nodes :=
  nodes_of (recomputeArbiter_outline s)
@[simp] theorem followDemand_nodes (n : StationId) (s : State) :
    (followDemand n s).nodes = s.nodes :=
  nodes_of (followDemand_outline _ s)
@[simp] theorem setDemand_nodes (n : StationId) (d : Nat) (s : State) :
    (setDemand n d s).nodes = s.nodes :=
  nodes_of (setDemand_outline _ _ s)
@[simp] theorem setDraw_nodes (n : StationId) (w : Nat) (s : State) :
    (setDraw n w s).nodes = s.nodes :=
  nodes_of (setDraw_outline _ _ s)
@[simp] theorem sendLidSet_nodes (n : StationId) (c : LidCmd) (s : State) :
    (sendLidSet n c s).nodes = s.nodes :=
  nodes_of (sendLidSet_outline _ _ s)
@[simp] theorem lockLid_nodes (n : StationId) (s : State) :
    (lockLid n s).nodes = s.nodes :=
  nodes_of (lockLid_outline _ s)
@[simp] theorem testUnlock_nodes (n : StationId) (s : State) :
    (testUnlock n s).nodes = s.nodes :=
  nodes_of (testUnlock_outline _ s)
@[simp] theorem askUnlock_nodes (n : StationId) (s : State) :
    (askUnlock n s).nodes = s.nodes :=
  nodes_of (askUnlock_outline _ s)
@[simp] theorem sendSpeedSet_nodes (n : StationId) (s : State) :
    (sendSpeedSet n s).nodes = s.nodes :=
  nodes_of (sendSpeedSet_outline _ s)
@[simp] theorem recomputeDrive_nodes (n : StationId) (s : State) :
    (recomputeDrive n s).nodes = s.nodes :=
  nodes_of (recomputeDrive_outline _ s)
@[simp] theorem recomputeEnvelope_nodes (n : StationId) (s : State) :
    (recomputeEnvelope n s).nodes = s.nodes :=
  nodes_of (recomputeEnvelope_outline _ s)
@[simp] theorem dropManualSpeed_nodes (n : StationId) (s : State) :
    (dropManualSpeed n s).nodes = s.nodes :=
  nodes_of (dropManualSpeed_outline _ s)
@[simp] theorem retestReached_nodes (n : StationId) (s : State) :
    (retestReached n s).nodes = s.nodes :=
  nodes_of (retestReached_outline _ s)
@[simp] theorem adoptTarget_nodes (n : StationId) (rule : Adoption) (inSample : Bool) (s : State) :
    (adoptTarget n rule inSample s).nodes = s.nodes :=
  nodes_of (adoptTarget_outline _ _ _ s)
@[simp] theorem stateChanged_nodes (n : StationId) (rule : Adoption) (inSample : Bool) (s : State) :
    (stateChanged n rule inSample s).nodes = s.nodes :=
  nodes_of (stateChanged_outline _ _ _ s)
@[simp] theorem followManualHeat_nodes (n : StationId) (s : State) :
    (followManualHeat n s).nodes = s.nodes :=
  nodes_of (followManualHeat_outline _ s)
@[simp] theorem dropManualHeat_nodes (n : StationId) (s : State) :
    (dropManualHeat n s).nodes = s.nodes :=
  nodes_of (dropManualHeat_outline _ s)
@[simp] theorem originateStepReport_nodes (n : StationId) (r : StepReport) (s : State) :
    (originateStepReport n r s).nodes = s.nodes :=
  nodes_of (originateStepReport_outline _ _ s)
@[simp] theorem endStep_nodes (n : StationId) (o : StepOutcome) (s : State) :
    (endStep n o s).nodes = s.nodes :=
  nodes_of (endStep_outline _ _ s)
@[simp] theorem furtherFault_nodes (n : StationId) (s : State) :
    (furtherFault n s).nodes = s.nodes :=
  nodes_of (furtherFault_outline _ s)
@[simp] theorem enterFault_nodes (n : StationId) (c : FaultCause) (further : Nat) (inSample : Bool) (s : State) :
    (enterFault n c further inSample s).nodes = s.nodes :=
  nodes_of (enterFault_outline _ _ _ _ s)
@[simp] theorem raiseCause_nodes (n : StationId) (c : FaultCause) (carried : Bool) (s : State) :
    (raiseCause n c carried s).nodes = s.nodes :=
  nodes_of (raiseCause_outline _ _ _ s)
@[simp] theorem raiseSilence_nodes (n : StationId) (c : FaultCause) (faults : Bool) (s : State) :
    (raiseSilence n c faults s).nodes = s.nodes :=
  nodes_of (raiseSilence_outline _ _ _ s)
@[simp] theorem enterActive_nodes (n : StationId) (rule : Adoption) (inSample : Bool) (s : State) :
    (enterActive n rule inSample s).nodes = s.nodes :=
  nodes_of (enterActive_outline _ _ _ s)
@[simp] theorem enterBasing_nodes (n : StationId) (rule : Adoption) (inSample : Bool) (s : State) :
    (enterBasing n rule inSample s).nodes = s.nodes :=
  nodes_of (enterBasing_outline _ _ _ s)
@[simp] theorem leaveLocking_nodes (n : StationId) (rule : Adoption) (inSample : Bool) (s : State) :
    (leaveLocking n rule inSample s).nodes = s.nodes :=
  nodes_of (leaveLocking_outline _ _ _ s)
@[simp] theorem actOnLid_nodes (n : StationId) (s : State) :
    (actOnLid n s).nodes = s.nodes :=
  nodes_of (actOnLid_outline _ s)
@[simp] theorem enterLocking_nodes (n : StationId) (after : Phase) (rule : Adoption) (inSample : Bool) (s : State) :
    (enterLocking n after rule inSample s).nodes = s.nodes :=
  nodes_of (enterLocking_outline _ _ _ _ s)
@[simp] theorem leaveBasing_nodes (n : StationId) (s : State) :
    (leaveBasing n s).nodes = s.nodes :=
  nodes_of (leaveBasing_outline _ s)
@[simp] theorem enterStep_nodes (n : StationId) (i : Nat) (old : Option Int) (inSample : Bool) (s : State) :
    (enterStep n i old inSample s).nodes = s.nodes :=
  nodes_of (enterStep_outline _ _ _ _ s)
@[simp] theorem enterIdle_nodes (n : StationId) (unlock inSample : Bool) (s : State) :
    (enterIdle n unlock inSample s).nodes = s.nodes :=
  nodes_of (enterIdle_outline _ _ _ s)
@[simp] theorem enterWarming_nodes (n : StationId) (old : Option Int) (inSample : Bool) (s : State) :
    (enterWarming n old inSample s).nodes = s.nodes :=
  nodes_of (enterWarming_outline _ _ _ s)
@[simp] theorem endRecipe_nodes (n : StationId) (rec : StepRecord) (old : Option Int) (inSample : Bool) (s : State) :
    (endRecipe n rec old inSample s).nodes = s.nodes :=
  nodes_of (endRecipe_outline _ _ _ _ s)
@[simp] theorem finishStep_nodes (n : StationId) (o : StepOutcome) (inSample : Bool) (s : State) :
    (finishStep n o inSample s).nodes = s.nodes :=
  nodes_of (finishStep_outline _ _ _ s)
@[simp] theorem pauseStation_nodes (n : StationId) (why : PauseReason) (s : State) :
    (pauseStation n why s).nodes = s.nodes :=
  nodes_of (pauseStation_outline _ _ s)
@[simp] theorem endOp_nodes (n : StationId) (o : OpOutcome) (s : State) :
    (endOp n o s).nodes = s.nodes :=
  nodes_of (endOp_outline _ _ s)
@[simp] theorem changeTare_nodes (n : StationId) (t : Int) (s : State) :
    (changeTare n t s).nodes = s.nodes :=
  nodes_of (changeTare_outline _ _ s)
@[simp] theorem weighStep_nodes (n : StationId) (s : State) :
    (weighStep n s).nodes = s.nodes :=
  nodes_of (weighStep_outline _ s)
@[simp] theorem completeZero_nodes (n : StationId) (s : State) :
    (completeZero n s).nodes = s.nodes :=
  nodes_of (completeZero_outline _ s)
@[simp] theorem completeCalibrate_nodes (n : StationId) (s : State) :
    (completeCalibrate n s).nodes = s.nodes :=
  nodes_of (completeCalibrate_outline _ s)
@[simp] theorem advanceOp_nodes (n : StationId) (x : WeighSample) (s : State) :
    (advanceOp n x s).nodes = s.nodes :=
  nodes_of (advanceOp_outline _ _ s)
@[simp] theorem acceptSample_nodes (n : StationId) (x : WeighSample) (s : State) :
    (acceptSample n x s).nodes = s.nodes :=
  nodes_of (acceptSample_outline _ _ s)
@[simp] theorem takeWeighSample_nodes (n : StationId) (x : WeighSample) (s : State) :
    (takeWeighSample n x s).nodes = s.nodes :=
  nodes_of (takeWeighSample_outline _ _ s)
@[simp] theorem thermoFaults_nodes (n : StationId) (t : Int) (fault : Bool) (before : HeatContext) (s : State) :
    (thermoFaults n t fault before s).nodes = s.nodes :=
  nodes_of (thermoFaults_outline _ _ _ _ s)
@[simp] theorem tempStep_nodes (n : StationId) (t : Int) (s : State) :
    (tempStep n t s).nodes = s.nodes :=
  nodes_of (tempStep_outline _ _ s)
@[simp] theorem thermoDemand_nodes (n : StationId) (t : Int) (grant demand : Nat) (s : State) :
    (thermoDemand n t grant demand s).nodes = s.nodes :=
  nodes_of (thermoDemand_outline _ _ _ _ s)
@[simp] theorem takeThermoSample_nodes (n : StationId) (t : Int) (fault : Bool) (s : State) :
    (takeThermoSample n t fault s).nodes = s.nodes :=
  nodes_of (takeThermoSample_outline _ _ _ s)
@[simp] theorem takeHeatState_nodes (n : StationId) (r : HeatReport) (s : State) :
    (takeHeatState n r s).nodes = s.nodes :=
  nodes_of (takeHeatState_outline _ _ s)
@[simp] theorem takeDriveState_nodes (n : StationId) (r : DriveReport) (s : State) :
    (takeDriveState n r s).nodes = s.nodes :=
  nodes_of (takeDriveState_outline _ _ s)
@[simp] theorem takeLidState_nodes (n : StationId) (r : LidReport) (s : State) :
    (takeLidState n r s).nodes = s.nodes :=
  nodes_of (takeLidState_outline _ _ s)
@[simp] theorem manualSpeed_nodes (n : StationId) (v : Nat) (dir : Direction) (s : State) :
    (manualSpeed n v dir s).nodes = s.nodes :=
  nodes_of (manualSpeed_outline _ _ _ s)
@[simp] theorem manualHeat_nodes (n : StationId) (w : Nat) (s : State) :
    (manualHeat n w s).nodes = s.nodes :=
  nodes_of (manualHeat_outline _ _ s)
@[simp] theorem manualLid_nodes (n : StationId) (c : LidCmd) (s : State) :
    (manualLid n c s).nodes = s.nodes :=
  nodes_of (manualLid_outline _ _ s)
@[simp] theorem weighSilence_nodes (n : StationId) (s : State) :
    (weighSilence n s).nodes = s.nodes :=
  nodes_of (weighSilence_outline _ s)
@[simp] theorem thermoSilence_nodes (n : StationId) (s : State) :
    (thermoSilence n s).nodes = s.nodes :=
  nodes_of (thermoSilence_outline _ s)
@[simp] theorem heaterSilence_nodes (n : StationId) (s : State) :
    (heaterSilence n s).nodes = s.nodes :=
  nodes_of (heaterSilence_outline _ s)
@[simp] theorem driveSilence_nodes (n : StationId) (s : State) :
    (driveSilence n s).nodes = s.nodes :=
  nodes_of (driveSilence_outline _ s)
@[simp] theorem lidSilence_nodes (n : StationId) (s : State) :
    (lidSilence n s).nodes = s.nodes :=
  nodes_of (lidSilence_outline _ s)
@[simp] theorem roleSilent_nodes (n : StationId) (r : Role) (s : State) :
    (roleSilent n r s).nodes = s.nodes :=
  nodes_of (roleSilent_outline _ _ s)
@[simp] theorem roleHeard_nodes (n : StationId) (r : Role) (s : State) :
    (roleHeard n r s).nodes = s.nodes :=
  nodes_of (roleHeard_outline _ _ s)
@[simp] theorem isolateStation_nodes (n : StationId) (s : State) :
    (isolateStation n s).nodes = s.nodes :=
  nodes_of (isolateStation_outline _ s)
@[simp] theorem refreshLid_nodes (n : StationId) (s : State) :
    (refreshLid n s).nodes = s.nodes :=
  nodes_of (refreshLid_outline _ s)
@[simp] theorem sendWeightReport_nodes (n : StationId) (s : State) :
    (sendWeightReport n s).nodes = s.nodes :=
  nodes_of (sendWeightReport_outline _ s)
@[simp] theorem discardUnsent_nodes (k : OwnKind) (s : State) :
    (discardUnsent k s).nodes = s.nodes :=
  nodes_of (discardUnsent_outline _ s)
@[simp] theorem forgetRoles_nodes (n : StationId) (old new : Binding) (s : State) :
    (forgetRoles n old new s).nodes = s.nodes :=
  nodes_of (forgetRoles_outline _ _ _ s)
@[simp] theorem followBinding_nodes (n : StationId) (old new : Binding) (s : State) :
    (followBinding n old new s).nodes = s.nodes :=
  nodes_of (followBinding_outline _ _ _ s)
@[simp] theorem setBudget_nodes (w : Nat) (s : State) :
    (setBudget w s).nodes = s.nodes :=
  nodes_of (setBudget_outline _ s)
@[simp] theorem startStation_nodes (n : StationId) (first : Nat) (s : State) :
    (startStation n first s).nodes = s.nodes :=
  nodes_of (startStation_outline _ _ s)
@[simp] theorem resumeLocking_nodes (n : StationId) (s : State) :
    (resumeLocking n s).nodes = s.nodes :=
  nodes_of (resumeLocking_outline _ s)
@[simp] theorem resumePhase_nodes (n : StationId) (s : State) :
    (resumePhase n s).nodes = s.nodes :=
  nodes_of (resumePhase_outline _ s)
@[simp] theorem resumeStation_nodes (n : StationId) (s : State) :
    (resumeStation n s).nodes = s.nodes :=
  nodes_of (resumeStation_outline _ s)
@[simp] theorem adjustHeat_nodes (n : StationId) (before : Option Int) (a : Adjustment) (s : State) :
    (adjustHeat n before a s).nodes = s.nodes :=
  nodes_of (adjustHeat_outline _ _ _ s)
@[simp] theorem adjustStation_nodes (n : StationId) (a : Adjustment) (s : State) :
    (adjustStation n a s).nodes = s.nodes :=
  nodes_of (adjustStation_outline _ _ s)
@[simp] theorem startCapture_nodes (n : StationId) (op : WeighOp) (mass : Option Int) (s : State) :
    (startCapture n op mass s).nodes = s.nodes :=
  nodes_of (startCapture_outline _ _ _ s)
@[simp] theorem enableNotices_nodes (en : BitVec 16) (s : State) :
    (enableNotices en s).nodes = s.nodes :=
  nodes_of (enableNotices_outline _ s)

/-! ### `ownNode` -/

@[simp] theorem countPort_ownNode (p : Port) (c : PortCounter) (s : State) :
    (countPort p c s).ownNode = s.ownNode :=
  ownNode_of (countPort_outline _ _ s)
@[simp] theorem countStation_ownNode (n : StationId) (c : StationCounter) (s : State) :
    (countStation n c s).ownNode = s.ownNode :=
  ownNode_of (countStation_outline _ _ s)
@[simp] theorem updateDropMode_ownNode (p : Port) (s : State) :
    (updateDropMode p s).ownNode = s.ownNode :=
  ownNode_of (updateDropMode_outline _ s)
@[simp] theorem updateDropModes_ownNode (s : State) :
    (updateDropModes s).ownNode = s.ownNode :=
  ownNode_of (updateDropModes_outline s)
@[simp] theorem originate_ownNode (k : OwnKind) (dest : NodeId) (payload : List Byte) (s : State) :
    (originate k dest payload s).ownNode = s.ownNode :=
  ownNode_of (originate_outline _ _ _ s)
@[simp] theorem originateNotice_ownNode (s : State) :
    (originateNotice s).ownNode = s.ownNode :=
  ownNode_of (originateNotice_outline s)
@[simp] theorem setNotice_ownNode (b : NoticeBit) (s : State) :
    (setNotice b s).ownNode = s.ownNode :=
  ownNode_of (setNotice_outline _ s)
@[simp] theorem sendHeatSet_ownNode (n : StationId) (s : State) :
    (sendHeatSet n s).ownNode = s.ownNode :=
  ownNode_of (sendHeatSet_outline _ s)
@[simp] theorem testGrant_ownNode (n : StationId) (s : State) :
    (testGrant n s).ownNode = s.ownNode :=
  ownNode_of (testGrant_outline _ s)
@[simp] theorem recomputeArbiter_ownNode (s : State) :
    (recomputeArbiter s).ownNode = s.ownNode :=
  ownNode_of (recomputeArbiter_outline s)
@[simp] theorem followDemand_ownNode (n : StationId) (s : State) :
    (followDemand n s).ownNode = s.ownNode :=
  ownNode_of (followDemand_outline _ s)
@[simp] theorem setDemand_ownNode (n : StationId) (d : Nat) (s : State) :
    (setDemand n d s).ownNode = s.ownNode :=
  ownNode_of (setDemand_outline _ _ s)
@[simp] theorem setDraw_ownNode (n : StationId) (w : Nat) (s : State) :
    (setDraw n w s).ownNode = s.ownNode :=
  ownNode_of (setDraw_outline _ _ s)
@[simp] theorem sendLidSet_ownNode (n : StationId) (c : LidCmd) (s : State) :
    (sendLidSet n c s).ownNode = s.ownNode :=
  ownNode_of (sendLidSet_outline _ _ s)
@[simp] theorem lockLid_ownNode (n : StationId) (s : State) :
    (lockLid n s).ownNode = s.ownNode :=
  ownNode_of (lockLid_outline _ s)
@[simp] theorem testUnlock_ownNode (n : StationId) (s : State) :
    (testUnlock n s).ownNode = s.ownNode :=
  ownNode_of (testUnlock_outline _ s)
@[simp] theorem askUnlock_ownNode (n : StationId) (s : State) :
    (askUnlock n s).ownNode = s.ownNode :=
  ownNode_of (askUnlock_outline _ s)
@[simp] theorem sendSpeedSet_ownNode (n : StationId) (s : State) :
    (sendSpeedSet n s).ownNode = s.ownNode :=
  ownNode_of (sendSpeedSet_outline _ s)
@[simp] theorem recomputeDrive_ownNode (n : StationId) (s : State) :
    (recomputeDrive n s).ownNode = s.ownNode :=
  ownNode_of (recomputeDrive_outline _ s)
@[simp] theorem recomputeEnvelope_ownNode (n : StationId) (s : State) :
    (recomputeEnvelope n s).ownNode = s.ownNode :=
  ownNode_of (recomputeEnvelope_outline _ s)
@[simp] theorem dropManualSpeed_ownNode (n : StationId) (s : State) :
    (dropManualSpeed n s).ownNode = s.ownNode :=
  ownNode_of (dropManualSpeed_outline _ s)
@[simp] theorem retestReached_ownNode (n : StationId) (s : State) :
    (retestReached n s).ownNode = s.ownNode :=
  ownNode_of (retestReached_outline _ s)
@[simp] theorem adoptTarget_ownNode (n : StationId) (rule : Adoption) (inSample : Bool) (s : State) :
    (adoptTarget n rule inSample s).ownNode = s.ownNode :=
  ownNode_of (adoptTarget_outline _ _ _ s)
@[simp] theorem stateChanged_ownNode (n : StationId) (rule : Adoption) (inSample : Bool) (s : State) :
    (stateChanged n rule inSample s).ownNode = s.ownNode :=
  ownNode_of (stateChanged_outline _ _ _ s)
@[simp] theorem followManualHeat_ownNode (n : StationId) (s : State) :
    (followManualHeat n s).ownNode = s.ownNode :=
  ownNode_of (followManualHeat_outline _ s)
@[simp] theorem dropManualHeat_ownNode (n : StationId) (s : State) :
    (dropManualHeat n s).ownNode = s.ownNode :=
  ownNode_of (dropManualHeat_outline _ s)
@[simp] theorem originateStepReport_ownNode (n : StationId) (r : StepReport) (s : State) :
    (originateStepReport n r s).ownNode = s.ownNode :=
  ownNode_of (originateStepReport_outline _ _ s)
@[simp] theorem endStep_ownNode (n : StationId) (o : StepOutcome) (s : State) :
    (endStep n o s).ownNode = s.ownNode :=
  ownNode_of (endStep_outline _ _ s)
@[simp] theorem furtherFault_ownNode (n : StationId) (s : State) :
    (furtherFault n s).ownNode = s.ownNode :=
  ownNode_of (furtherFault_outline _ s)
@[simp] theorem enterFault_ownNode (n : StationId) (c : FaultCause) (further : Nat) (inSample : Bool) (s : State) :
    (enterFault n c further inSample s).ownNode = s.ownNode :=
  ownNode_of (enterFault_outline _ _ _ _ s)
@[simp] theorem raiseCause_ownNode (n : StationId) (c : FaultCause) (carried : Bool) (s : State) :
    (raiseCause n c carried s).ownNode = s.ownNode :=
  ownNode_of (raiseCause_outline _ _ _ s)
@[simp] theorem raiseSilence_ownNode (n : StationId) (c : FaultCause) (faults : Bool) (s : State) :
    (raiseSilence n c faults s).ownNode = s.ownNode :=
  ownNode_of (raiseSilence_outline _ _ _ s)
@[simp] theorem enterActive_ownNode (n : StationId) (rule : Adoption) (inSample : Bool) (s : State) :
    (enterActive n rule inSample s).ownNode = s.ownNode :=
  ownNode_of (enterActive_outline _ _ _ s)
@[simp] theorem enterBasing_ownNode (n : StationId) (rule : Adoption) (inSample : Bool) (s : State) :
    (enterBasing n rule inSample s).ownNode = s.ownNode :=
  ownNode_of (enterBasing_outline _ _ _ s)
@[simp] theorem leaveLocking_ownNode (n : StationId) (rule : Adoption) (inSample : Bool) (s : State) :
    (leaveLocking n rule inSample s).ownNode = s.ownNode :=
  ownNode_of (leaveLocking_outline _ _ _ s)
@[simp] theorem actOnLid_ownNode (n : StationId) (s : State) :
    (actOnLid n s).ownNode = s.ownNode :=
  ownNode_of (actOnLid_outline _ s)
@[simp] theorem enterLocking_ownNode (n : StationId) (after : Phase) (rule : Adoption) (inSample : Bool) (s : State) :
    (enterLocking n after rule inSample s).ownNode = s.ownNode :=
  ownNode_of (enterLocking_outline _ _ _ _ s)
@[simp] theorem leaveBasing_ownNode (n : StationId) (s : State) :
    (leaveBasing n s).ownNode = s.ownNode :=
  ownNode_of (leaveBasing_outline _ s)
@[simp] theorem enterStep_ownNode (n : StationId) (i : Nat) (old : Option Int) (inSample : Bool) (s : State) :
    (enterStep n i old inSample s).ownNode = s.ownNode :=
  ownNode_of (enterStep_outline _ _ _ _ s)
@[simp] theorem enterIdle_ownNode (n : StationId) (unlock inSample : Bool) (s : State) :
    (enterIdle n unlock inSample s).ownNode = s.ownNode :=
  ownNode_of (enterIdle_outline _ _ _ s)
@[simp] theorem enterWarming_ownNode (n : StationId) (old : Option Int) (inSample : Bool) (s : State) :
    (enterWarming n old inSample s).ownNode = s.ownNode :=
  ownNode_of (enterWarming_outline _ _ _ s)
@[simp] theorem endRecipe_ownNode (n : StationId) (rec : StepRecord) (old : Option Int) (inSample : Bool) (s : State) :
    (endRecipe n rec old inSample s).ownNode = s.ownNode :=
  ownNode_of (endRecipe_outline _ _ _ _ s)
@[simp] theorem finishStep_ownNode (n : StationId) (o : StepOutcome) (inSample : Bool) (s : State) :
    (finishStep n o inSample s).ownNode = s.ownNode :=
  ownNode_of (finishStep_outline _ _ _ s)
@[simp] theorem pauseStation_ownNode (n : StationId) (why : PauseReason) (s : State) :
    (pauseStation n why s).ownNode = s.ownNode :=
  ownNode_of (pauseStation_outline _ _ s)
@[simp] theorem endOp_ownNode (n : StationId) (o : OpOutcome) (s : State) :
    (endOp n o s).ownNode = s.ownNode :=
  ownNode_of (endOp_outline _ _ s)
@[simp] theorem changeTare_ownNode (n : StationId) (t : Int) (s : State) :
    (changeTare n t s).ownNode = s.ownNode :=
  ownNode_of (changeTare_outline _ _ s)
@[simp] theorem weighStep_ownNode (n : StationId) (s : State) :
    (weighStep n s).ownNode = s.ownNode :=
  ownNode_of (weighStep_outline _ s)
@[simp] theorem completeZero_ownNode (n : StationId) (s : State) :
    (completeZero n s).ownNode = s.ownNode :=
  ownNode_of (completeZero_outline _ s)
@[simp] theorem completeCalibrate_ownNode (n : StationId) (s : State) :
    (completeCalibrate n s).ownNode = s.ownNode :=
  ownNode_of (completeCalibrate_outline _ s)
@[simp] theorem advanceOp_ownNode (n : StationId) (x : WeighSample) (s : State) :
    (advanceOp n x s).ownNode = s.ownNode :=
  ownNode_of (advanceOp_outline _ _ s)
@[simp] theorem acceptSample_ownNode (n : StationId) (x : WeighSample) (s : State) :
    (acceptSample n x s).ownNode = s.ownNode :=
  ownNode_of (acceptSample_outline _ _ s)
@[simp] theorem takeWeighSample_ownNode (n : StationId) (x : WeighSample) (s : State) :
    (takeWeighSample n x s).ownNode = s.ownNode :=
  ownNode_of (takeWeighSample_outline _ _ s)
@[simp] theorem thermoFaults_ownNode (n : StationId) (t : Int) (fault : Bool) (before : HeatContext) (s : State) :
    (thermoFaults n t fault before s).ownNode = s.ownNode :=
  ownNode_of (thermoFaults_outline _ _ _ _ s)
@[simp] theorem tempStep_ownNode (n : StationId) (t : Int) (s : State) :
    (tempStep n t s).ownNode = s.ownNode :=
  ownNode_of (tempStep_outline _ _ s)
@[simp] theorem thermoDemand_ownNode (n : StationId) (t : Int) (grant demand : Nat) (s : State) :
    (thermoDemand n t grant demand s).ownNode = s.ownNode :=
  ownNode_of (thermoDemand_outline _ _ _ _ s)
@[simp] theorem takeThermoSample_ownNode (n : StationId) (t : Int) (fault : Bool) (s : State) :
    (takeThermoSample n t fault s).ownNode = s.ownNode :=
  ownNode_of (takeThermoSample_outline _ _ _ s)
@[simp] theorem takeHeatState_ownNode (n : StationId) (r : HeatReport) (s : State) :
    (takeHeatState n r s).ownNode = s.ownNode :=
  ownNode_of (takeHeatState_outline _ _ s)
@[simp] theorem takeDriveState_ownNode (n : StationId) (r : DriveReport) (s : State) :
    (takeDriveState n r s).ownNode = s.ownNode :=
  ownNode_of (takeDriveState_outline _ _ s)
@[simp] theorem takeLidState_ownNode (n : StationId) (r : LidReport) (s : State) :
    (takeLidState n r s).ownNode = s.ownNode :=
  ownNode_of (takeLidState_outline _ _ s)
@[simp] theorem manualSpeed_ownNode (n : StationId) (v : Nat) (dir : Direction) (s : State) :
    (manualSpeed n v dir s).ownNode = s.ownNode :=
  ownNode_of (manualSpeed_outline _ _ _ s)
@[simp] theorem manualHeat_ownNode (n : StationId) (w : Nat) (s : State) :
    (manualHeat n w s).ownNode = s.ownNode :=
  ownNode_of (manualHeat_outline _ _ s)
@[simp] theorem manualLid_ownNode (n : StationId) (c : LidCmd) (s : State) :
    (manualLid n c s).ownNode = s.ownNode :=
  ownNode_of (manualLid_outline _ _ s)
@[simp] theorem weighSilence_ownNode (n : StationId) (s : State) :
    (weighSilence n s).ownNode = s.ownNode :=
  ownNode_of (weighSilence_outline _ s)
@[simp] theorem thermoSilence_ownNode (n : StationId) (s : State) :
    (thermoSilence n s).ownNode = s.ownNode :=
  ownNode_of (thermoSilence_outline _ s)
@[simp] theorem heaterSilence_ownNode (n : StationId) (s : State) :
    (heaterSilence n s).ownNode = s.ownNode :=
  ownNode_of (heaterSilence_outline _ s)
@[simp] theorem driveSilence_ownNode (n : StationId) (s : State) :
    (driveSilence n s).ownNode = s.ownNode :=
  ownNode_of (driveSilence_outline _ s)
@[simp] theorem lidSilence_ownNode (n : StationId) (s : State) :
    (lidSilence n s).ownNode = s.ownNode :=
  ownNode_of (lidSilence_outline _ s)
@[simp] theorem roleSilent_ownNode (n : StationId) (r : Role) (s : State) :
    (roleSilent n r s).ownNode = s.ownNode :=
  ownNode_of (roleSilent_outline _ _ s)
@[simp] theorem roleHeard_ownNode (n : StationId) (r : Role) (s : State) :
    (roleHeard n r s).ownNode = s.ownNode :=
  ownNode_of (roleHeard_outline _ _ s)
@[simp] theorem isolateStation_ownNode (n : StationId) (s : State) :
    (isolateStation n s).ownNode = s.ownNode :=
  ownNode_of (isolateStation_outline _ s)
@[simp] theorem refreshLid_ownNode (n : StationId) (s : State) :
    (refreshLid n s).ownNode = s.ownNode :=
  ownNode_of (refreshLid_outline _ s)
@[simp] theorem sendWeightReport_ownNode (n : StationId) (s : State) :
    (sendWeightReport n s).ownNode = s.ownNode :=
  ownNode_of (sendWeightReport_outline _ s)
@[simp] theorem discardUnsent_ownNode (k : OwnKind) (s : State) :
    (discardUnsent k s).ownNode = s.ownNode :=
  ownNode_of (discardUnsent_outline _ s)
@[simp] theorem forgetRoles_ownNode (n : StationId) (old new : Binding) (s : State) :
    (forgetRoles n old new s).ownNode = s.ownNode :=
  ownNode_of (forgetRoles_outline _ _ _ s)
@[simp] theorem followBinding_ownNode (n : StationId) (old new : Binding) (s : State) :
    (followBinding n old new s).ownNode = s.ownNode :=
  ownNode_of (followBinding_outline _ _ _ s)
@[simp] theorem setBudget_ownNode (w : Nat) (s : State) :
    (setBudget w s).ownNode = s.ownNode :=
  ownNode_of (setBudget_outline _ s)
@[simp] theorem startStation_ownNode (n : StationId) (first : Nat) (s : State) :
    (startStation n first s).ownNode = s.ownNode :=
  ownNode_of (startStation_outline _ _ s)
@[simp] theorem resumeLocking_ownNode (n : StationId) (s : State) :
    (resumeLocking n s).ownNode = s.ownNode :=
  ownNode_of (resumeLocking_outline _ s)
@[simp] theorem resumePhase_ownNode (n : StationId) (s : State) :
    (resumePhase n s).ownNode = s.ownNode :=
  ownNode_of (resumePhase_outline _ s)
@[simp] theorem resumeStation_ownNode (n : StationId) (s : State) :
    (resumeStation n s).ownNode = s.ownNode :=
  ownNode_of (resumeStation_outline _ s)
@[simp] theorem adjustHeat_ownNode (n : StationId) (before : Option Int) (a : Adjustment) (s : State) :
    (adjustHeat n before a s).ownNode = s.ownNode :=
  ownNode_of (adjustHeat_outline _ _ _ s)
@[simp] theorem adjustStation_ownNode (n : StationId) (a : Adjustment) (s : State) :
    (adjustStation n a s).ownNode = s.ownNode :=
  ownNode_of (adjustStation_outline _ _ s)
@[simp] theorem startCapture_ownNode (n : StationId) (op : WeighOp) (mass : Option Int) (s : State) :
    (startCapture n op mass s).ownNode = s.ownNode :=
  ownNode_of (startCapture_outline _ _ _ s)
@[simp] theorem enableNotices_ownNode (en : BitVec 16) (s : State) :
    (enableNotices en s).ownNode = s.ownNode :=
  ownNode_of (enableNotices_outline _ s)

/-! ### `binding` -/

@[simp] theorem countPort_binding (p : Port) (c : PortCounter) (s : State) (m : StationId) :
    ((countPort p c s).st m).binding = (s.st m).binding :=
  binding_of (countPort_outline _ _ s) m
@[simp] theorem countStation_binding (n : StationId) (c : StationCounter) (s : State) (m : StationId) :
    ((countStation n c s).st m).binding = (s.st m).binding :=
  binding_of (countStation_outline _ _ s) m
@[simp] theorem updateDropMode_binding (p : Port) (s : State) (m : StationId) :
    ((updateDropMode p s).st m).binding = (s.st m).binding :=
  binding_of (updateDropMode_outline _ s) m
@[simp] theorem updateDropModes_binding (s : State) (m : StationId) :
    ((updateDropModes s).st m).binding = (s.st m).binding :=
  binding_of (updateDropModes_outline s) m
@[simp] theorem originate_binding (k : OwnKind) (dest : NodeId) (payload : List Byte) (s : State) (m : StationId) :
    ((originate k dest payload s).st m).binding = (s.st m).binding :=
  binding_of (originate_outline _ _ _ s) m
@[simp] theorem originateNotice_binding (s : State) (m : StationId) :
    ((originateNotice s).st m).binding = (s.st m).binding :=
  binding_of (originateNotice_outline s) m
@[simp] theorem setNotice_binding (b : NoticeBit) (s : State) (m : StationId) :
    ((setNotice b s).st m).binding = (s.st m).binding :=
  binding_of (setNotice_outline _ s) m
@[simp] theorem sendHeatSet_binding (n : StationId) (s : State) (m : StationId) :
    ((sendHeatSet n s).st m).binding = (s.st m).binding :=
  binding_of (sendHeatSet_outline _ s) m
@[simp] theorem testGrant_binding (n : StationId) (s : State) (m : StationId) :
    ((testGrant n s).st m).binding = (s.st m).binding :=
  binding_of (testGrant_outline _ s) m
@[simp] theorem recomputeArbiter_binding (s : State) (m : StationId) :
    ((recomputeArbiter s).st m).binding = (s.st m).binding :=
  binding_of (recomputeArbiter_outline s) m
@[simp] theorem followDemand_binding (n : StationId) (s : State) (m : StationId) :
    ((followDemand n s).st m).binding = (s.st m).binding :=
  binding_of (followDemand_outline _ s) m
@[simp] theorem setDemand_binding (n : StationId) (d : Nat) (s : State) (m : StationId) :
    ((setDemand n d s).st m).binding = (s.st m).binding :=
  binding_of (setDemand_outline _ _ s) m
@[simp] theorem setDraw_binding (n : StationId) (w : Nat) (s : State) (m : StationId) :
    ((setDraw n w s).st m).binding = (s.st m).binding :=
  binding_of (setDraw_outline _ _ s) m
@[simp] theorem sendLidSet_binding (n : StationId) (c : LidCmd) (s : State) (m : StationId) :
    ((sendLidSet n c s).st m).binding = (s.st m).binding :=
  binding_of (sendLidSet_outline _ _ s) m
@[simp] theorem lockLid_binding (n : StationId) (s : State) (m : StationId) :
    ((lockLid n s).st m).binding = (s.st m).binding :=
  binding_of (lockLid_outline _ s) m
@[simp] theorem testUnlock_binding (n : StationId) (s : State) (m : StationId) :
    ((testUnlock n s).st m).binding = (s.st m).binding :=
  binding_of (testUnlock_outline _ s) m
@[simp] theorem askUnlock_binding (n : StationId) (s : State) (m : StationId) :
    ((askUnlock n s).st m).binding = (s.st m).binding :=
  binding_of (askUnlock_outline _ s) m
@[simp] theorem sendSpeedSet_binding (n : StationId) (s : State) (m : StationId) :
    ((sendSpeedSet n s).st m).binding = (s.st m).binding :=
  binding_of (sendSpeedSet_outline _ s) m
@[simp] theorem recomputeDrive_binding (n : StationId) (s : State) (m : StationId) :
    ((recomputeDrive n s).st m).binding = (s.st m).binding :=
  binding_of (recomputeDrive_outline _ s) m
@[simp] theorem recomputeEnvelope_binding (n : StationId) (s : State) (m : StationId) :
    ((recomputeEnvelope n s).st m).binding = (s.st m).binding :=
  binding_of (recomputeEnvelope_outline _ s) m
@[simp] theorem dropManualSpeed_binding (n : StationId) (s : State) (m : StationId) :
    ((dropManualSpeed n s).st m).binding = (s.st m).binding :=
  binding_of (dropManualSpeed_outline _ s) m
@[simp] theorem retestReached_binding (n : StationId) (s : State) (m : StationId) :
    ((retestReached n s).st m).binding = (s.st m).binding :=
  binding_of (retestReached_outline _ s) m
@[simp] theorem adoptTarget_binding (n : StationId) (rule : Adoption) (inSample : Bool) (s : State) (m : StationId) :
    ((adoptTarget n rule inSample s).st m).binding = (s.st m).binding :=
  binding_of (adoptTarget_outline _ _ _ s) m
@[simp] theorem stateChanged_binding (n : StationId) (rule : Adoption) (inSample : Bool) (s : State) (m : StationId) :
    ((stateChanged n rule inSample s).st m).binding = (s.st m).binding :=
  binding_of (stateChanged_outline _ _ _ s) m
@[simp] theorem followManualHeat_binding (n : StationId) (s : State) (m : StationId) :
    ((followManualHeat n s).st m).binding = (s.st m).binding :=
  binding_of (followManualHeat_outline _ s) m
@[simp] theorem dropManualHeat_binding (n : StationId) (s : State) (m : StationId) :
    ((dropManualHeat n s).st m).binding = (s.st m).binding :=
  binding_of (dropManualHeat_outline _ s) m
@[simp] theorem originateStepReport_binding (n : StationId) (r : StepReport) (s : State) (m : StationId) :
    ((originateStepReport n r s).st m).binding = (s.st m).binding :=
  binding_of (originateStepReport_outline _ _ s) m
@[simp] theorem endStep_binding (n : StationId) (o : StepOutcome) (s : State) (m : StationId) :
    ((endStep n o s).st m).binding = (s.st m).binding :=
  binding_of (endStep_outline _ _ s) m
@[simp] theorem furtherFault_binding (n : StationId) (s : State) (m : StationId) :
    ((furtherFault n s).st m).binding = (s.st m).binding :=
  binding_of (furtherFault_outline _ s) m
@[simp] theorem enterFault_binding (n : StationId) (c : FaultCause) (further : Nat) (inSample : Bool) (s : State) (m : StationId) :
    ((enterFault n c further inSample s).st m).binding = (s.st m).binding :=
  binding_of (enterFault_outline _ _ _ _ s) m
@[simp] theorem raiseCause_binding (n : StationId) (c : FaultCause) (carried : Bool) (s : State) (m : StationId) :
    ((raiseCause n c carried s).st m).binding = (s.st m).binding :=
  binding_of (raiseCause_outline _ _ _ s) m
@[simp] theorem raiseSilence_binding (n : StationId) (c : FaultCause) (faults : Bool) (s : State) (m : StationId) :
    ((raiseSilence n c faults s).st m).binding = (s.st m).binding :=
  binding_of (raiseSilence_outline _ _ _ s) m
@[simp] theorem enterActive_binding (n : StationId) (rule : Adoption) (inSample : Bool) (s : State) (m : StationId) :
    ((enterActive n rule inSample s).st m).binding = (s.st m).binding :=
  binding_of (enterActive_outline _ _ _ s) m
@[simp] theorem enterBasing_binding (n : StationId) (rule : Adoption) (inSample : Bool) (s : State) (m : StationId) :
    ((enterBasing n rule inSample s).st m).binding = (s.st m).binding :=
  binding_of (enterBasing_outline _ _ _ s) m
@[simp] theorem leaveLocking_binding (n : StationId) (rule : Adoption) (inSample : Bool) (s : State) (m : StationId) :
    ((leaveLocking n rule inSample s).st m).binding = (s.st m).binding :=
  binding_of (leaveLocking_outline _ _ _ s) m
@[simp] theorem actOnLid_binding (n : StationId) (s : State) (m : StationId) :
    ((actOnLid n s).st m).binding = (s.st m).binding :=
  binding_of (actOnLid_outline _ s) m
@[simp] theorem enterLocking_binding (n : StationId) (after : Phase) (rule : Adoption) (inSample : Bool) (s : State) (m : StationId) :
    ((enterLocking n after rule inSample s).st m).binding = (s.st m).binding :=
  binding_of (enterLocking_outline _ _ _ _ s) m
@[simp] theorem leaveBasing_binding (n : StationId) (s : State) (m : StationId) :
    ((leaveBasing n s).st m).binding = (s.st m).binding :=
  binding_of (leaveBasing_outline _ s) m
@[simp] theorem enterStep_binding (n : StationId) (i : Nat) (old : Option Int) (inSample : Bool) (s : State) (m : StationId) :
    ((enterStep n i old inSample s).st m).binding = (s.st m).binding :=
  binding_of (enterStep_outline _ _ _ _ s) m
@[simp] theorem enterIdle_binding (n : StationId) (unlock inSample : Bool) (s : State) (m : StationId) :
    ((enterIdle n unlock inSample s).st m).binding = (s.st m).binding :=
  binding_of (enterIdle_outline _ _ _ s) m
@[simp] theorem enterWarming_binding (n : StationId) (old : Option Int) (inSample : Bool) (s : State) (m : StationId) :
    ((enterWarming n old inSample s).st m).binding = (s.st m).binding :=
  binding_of (enterWarming_outline _ _ _ s) m
@[simp] theorem endRecipe_binding (n : StationId) (rec : StepRecord) (old : Option Int) (inSample : Bool) (s : State) (m : StationId) :
    ((endRecipe n rec old inSample s).st m).binding = (s.st m).binding :=
  binding_of (endRecipe_outline _ _ _ _ s) m
@[simp] theorem finishStep_binding (n : StationId) (o : StepOutcome) (inSample : Bool) (s : State) (m : StationId) :
    ((finishStep n o inSample s).st m).binding = (s.st m).binding :=
  binding_of (finishStep_outline _ _ _ s) m
@[simp] theorem pauseStation_binding (n : StationId) (why : PauseReason) (s : State) (m : StationId) :
    ((pauseStation n why s).st m).binding = (s.st m).binding :=
  binding_of (pauseStation_outline _ _ s) m
@[simp] theorem endOp_binding (n : StationId) (o : OpOutcome) (s : State) (m : StationId) :
    ((endOp n o s).st m).binding = (s.st m).binding :=
  binding_of (endOp_outline _ _ s) m
@[simp] theorem changeTare_binding (n : StationId) (t : Int) (s : State) (m : StationId) :
    ((changeTare n t s).st m).binding = (s.st m).binding :=
  binding_of (changeTare_outline _ _ s) m
@[simp] theorem weighStep_binding (n : StationId) (s : State) (m : StationId) :
    ((weighStep n s).st m).binding = (s.st m).binding :=
  binding_of (weighStep_outline _ s) m
@[simp] theorem completeZero_binding (n : StationId) (s : State) (m : StationId) :
    ((completeZero n s).st m).binding = (s.st m).binding :=
  binding_of (completeZero_outline _ s) m
@[simp] theorem completeCalibrate_binding (n : StationId) (s : State) (m : StationId) :
    ((completeCalibrate n s).st m).binding = (s.st m).binding :=
  binding_of (completeCalibrate_outline _ s) m
@[simp] theorem advanceOp_binding (n : StationId) (x : WeighSample) (s : State) (m : StationId) :
    ((advanceOp n x s).st m).binding = (s.st m).binding :=
  binding_of (advanceOp_outline _ _ s) m
@[simp] theorem acceptSample_binding (n : StationId) (x : WeighSample) (s : State) (m : StationId) :
    ((acceptSample n x s).st m).binding = (s.st m).binding :=
  binding_of (acceptSample_outline _ _ s) m
@[simp] theorem takeWeighSample_binding (n : StationId) (x : WeighSample) (s : State) (m : StationId) :
    ((takeWeighSample n x s).st m).binding = (s.st m).binding :=
  binding_of (takeWeighSample_outline _ _ s) m
@[simp] theorem thermoFaults_binding (n : StationId) (t : Int) (fault : Bool) (before : HeatContext) (s : State) (m : StationId) :
    ((thermoFaults n t fault before s).st m).binding = (s.st m).binding :=
  binding_of (thermoFaults_outline _ _ _ _ s) m
@[simp] theorem tempStep_binding (n : StationId) (t : Int) (s : State) (m : StationId) :
    ((tempStep n t s).st m).binding = (s.st m).binding :=
  binding_of (tempStep_outline _ _ s) m
@[simp] theorem thermoDemand_binding (n : StationId) (t : Int) (grant demand : Nat) (s : State) (m : StationId) :
    ((thermoDemand n t grant demand s).st m).binding = (s.st m).binding :=
  binding_of (thermoDemand_outline _ _ _ _ s) m
@[simp] theorem takeThermoSample_binding (n : StationId) (t : Int) (fault : Bool) (s : State) (m : StationId) :
    ((takeThermoSample n t fault s).st m).binding = (s.st m).binding :=
  binding_of (takeThermoSample_outline _ _ _ s) m
@[simp] theorem takeHeatState_binding (n : StationId) (r : HeatReport) (s : State) (m : StationId) :
    ((takeHeatState n r s).st m).binding = (s.st m).binding :=
  binding_of (takeHeatState_outline _ _ s) m
@[simp] theorem takeDriveState_binding (n : StationId) (r : DriveReport) (s : State) (m : StationId) :
    ((takeDriveState n r s).st m).binding = (s.st m).binding :=
  binding_of (takeDriveState_outline _ _ s) m
@[simp] theorem takeLidState_binding (n : StationId) (r : LidReport) (s : State) (m : StationId) :
    ((takeLidState n r s).st m).binding = (s.st m).binding :=
  binding_of (takeLidState_outline _ _ s) m
@[simp] theorem manualSpeed_binding (n : StationId) (v : Nat) (dir : Direction) (s : State) (m : StationId) :
    ((manualSpeed n v dir s).st m).binding = (s.st m).binding :=
  binding_of (manualSpeed_outline _ _ _ s) m
@[simp] theorem manualHeat_binding (n : StationId) (w : Nat) (s : State) (m : StationId) :
    ((manualHeat n w s).st m).binding = (s.st m).binding :=
  binding_of (manualHeat_outline _ _ s) m
@[simp] theorem manualLid_binding (n : StationId) (c : LidCmd) (s : State) (m : StationId) :
    ((manualLid n c s).st m).binding = (s.st m).binding :=
  binding_of (manualLid_outline _ _ s) m
@[simp] theorem weighSilence_binding (n : StationId) (s : State) (m : StationId) :
    ((weighSilence n s).st m).binding = (s.st m).binding :=
  binding_of (weighSilence_outline _ s) m
@[simp] theorem thermoSilence_binding (n : StationId) (s : State) (m : StationId) :
    ((thermoSilence n s).st m).binding = (s.st m).binding :=
  binding_of (thermoSilence_outline _ s) m
@[simp] theorem heaterSilence_binding (n : StationId) (s : State) (m : StationId) :
    ((heaterSilence n s).st m).binding = (s.st m).binding :=
  binding_of (heaterSilence_outline _ s) m
@[simp] theorem driveSilence_binding (n : StationId) (s : State) (m : StationId) :
    ((driveSilence n s).st m).binding = (s.st m).binding :=
  binding_of (driveSilence_outline _ s) m
@[simp] theorem lidSilence_binding (n : StationId) (s : State) (m : StationId) :
    ((lidSilence n s).st m).binding = (s.st m).binding :=
  binding_of (lidSilence_outline _ s) m
@[simp] theorem roleSilent_binding (n : StationId) (r : Role) (s : State) (m : StationId) :
    ((roleSilent n r s).st m).binding = (s.st m).binding :=
  binding_of (roleSilent_outline _ _ s) m
@[simp] theorem roleHeard_binding (n : StationId) (r : Role) (s : State) (m : StationId) :
    ((roleHeard n r s).st m).binding = (s.st m).binding :=
  binding_of (roleHeard_outline _ _ s) m
@[simp] theorem isolateStation_binding (n : StationId) (s : State) (m : StationId) :
    ((isolateStation n s).st m).binding = (s.st m).binding :=
  binding_of (isolateStation_outline _ s) m
@[simp] theorem refreshLid_binding (n : StationId) (s : State) (m : StationId) :
    ((refreshLid n s).st m).binding = (s.st m).binding :=
  binding_of (refreshLid_outline _ s) m
@[simp] theorem sendWeightReport_binding (n : StationId) (s : State) (m : StationId) :
    ((sendWeightReport n s).st m).binding = (s.st m).binding :=
  binding_of (sendWeightReport_outline _ s) m
@[simp] theorem discardUnsent_binding (k : OwnKind) (s : State) (m : StationId) :
    ((discardUnsent k s).st m).binding = (s.st m).binding :=
  binding_of (discardUnsent_outline _ s) m
@[simp] theorem forgetRoles_binding (n : StationId) (old new : Binding) (s : State) (m : StationId) :
    ((forgetRoles n old new s).st m).binding = (s.st m).binding :=
  binding_of (forgetRoles_outline _ _ _ s) m
@[simp] theorem followBinding_binding (n : StationId) (old new : Binding) (s : State) (m : StationId) :
    ((followBinding n old new s).st m).binding = (s.st m).binding :=
  binding_of (followBinding_outline _ _ _ s) m
@[simp] theorem setBudget_binding (w : Nat) (s : State) (m : StationId) :
    ((setBudget w s).st m).binding = (s.st m).binding :=
  binding_of (setBudget_outline _ s) m
@[simp] theorem startStation_binding (n : StationId) (first : Nat) (s : State) (m : StationId) :
    ((startStation n first s).st m).binding = (s.st m).binding :=
  binding_of (startStation_outline _ _ s) m
@[simp] theorem resumeLocking_binding (n : StationId) (s : State) (m : StationId) :
    ((resumeLocking n s).st m).binding = (s.st m).binding :=
  binding_of (resumeLocking_outline _ s) m
@[simp] theorem resumePhase_binding (n : StationId) (s : State) (m : StationId) :
    ((resumePhase n s).st m).binding = (s.st m).binding :=
  binding_of (resumePhase_outline _ s) m
@[simp] theorem resumeStation_binding (n : StationId) (s : State) (m : StationId) :
    ((resumeStation n s).st m).binding = (s.st m).binding :=
  binding_of (resumeStation_outline _ s) m
@[simp] theorem adjustHeat_binding (n : StationId) (before : Option Int) (a : Adjustment) (s : State) (m : StationId) :
    ((adjustHeat n before a s).st m).binding = (s.st m).binding :=
  binding_of (adjustHeat_outline _ _ _ s) m
@[simp] theorem adjustStation_binding (n : StationId) (a : Adjustment) (s : State) (m : StationId) :
    ((adjustStation n a s).st m).binding = (s.st m).binding :=
  binding_of (adjustStation_outline _ _ s) m
@[simp] theorem startCapture_binding (n : StationId) (op : WeighOp) (mass : Option Int) (s : State) (m : StationId) :
    ((startCapture n op mass s).st m).binding = (s.st m).binding :=
  binding_of (startCapture_outline _ _ _ s) m
@[simp] theorem enableNotices_binding (en : BitVec 16) (s : State) (m : StationId) :
    ((enableNotices en s).st m).binding = (s.st m).binding :=
  binding_of (enableNotices_outline _ s) m

/-! ### `limits` -/

@[simp] theorem countPort_limits (p : Port) (c : PortCounter) (s : State) (m : StationId) :
    ((countPort p c s).st m).limits = (s.st m).limits :=
  limits_of (countPort_outline _ _ s) m
@[simp] theorem countStation_limits (n : StationId) (c : StationCounter) (s : State) (m : StationId) :
    ((countStation n c s).st m).limits = (s.st m).limits :=
  limits_of (countStation_outline _ _ s) m
@[simp] theorem updateDropMode_limits (p : Port) (s : State) (m : StationId) :
    ((updateDropMode p s).st m).limits = (s.st m).limits :=
  limits_of (updateDropMode_outline _ s) m
@[simp] theorem updateDropModes_limits (s : State) (m : StationId) :
    ((updateDropModes s).st m).limits = (s.st m).limits :=
  limits_of (updateDropModes_outline s) m
@[simp] theorem originate_limits (k : OwnKind) (dest : NodeId) (payload : List Byte) (s : State) (m : StationId) :
    ((originate k dest payload s).st m).limits = (s.st m).limits :=
  limits_of (originate_outline _ _ _ s) m
@[simp] theorem originateNotice_limits (s : State) (m : StationId) :
    ((originateNotice s).st m).limits = (s.st m).limits :=
  limits_of (originateNotice_outline s) m
@[simp] theorem setNotice_limits (b : NoticeBit) (s : State) (m : StationId) :
    ((setNotice b s).st m).limits = (s.st m).limits :=
  limits_of (setNotice_outline _ s) m
@[simp] theorem sendHeatSet_limits (n : StationId) (s : State) (m : StationId) :
    ((sendHeatSet n s).st m).limits = (s.st m).limits :=
  limits_of (sendHeatSet_outline _ s) m
@[simp] theorem testGrant_limits (n : StationId) (s : State) (m : StationId) :
    ((testGrant n s).st m).limits = (s.st m).limits :=
  limits_of (testGrant_outline _ s) m
@[simp] theorem recomputeArbiter_limits (s : State) (m : StationId) :
    ((recomputeArbiter s).st m).limits = (s.st m).limits :=
  limits_of (recomputeArbiter_outline s) m
@[simp] theorem followDemand_limits (n : StationId) (s : State) (m : StationId) :
    ((followDemand n s).st m).limits = (s.st m).limits :=
  limits_of (followDemand_outline _ s) m
@[simp] theorem setDemand_limits (n : StationId) (d : Nat) (s : State) (m : StationId) :
    ((setDemand n d s).st m).limits = (s.st m).limits :=
  limits_of (setDemand_outline _ _ s) m
@[simp] theorem setDraw_limits (n : StationId) (w : Nat) (s : State) (m : StationId) :
    ((setDraw n w s).st m).limits = (s.st m).limits :=
  limits_of (setDraw_outline _ _ s) m
@[simp] theorem sendLidSet_limits (n : StationId) (c : LidCmd) (s : State) (m : StationId) :
    ((sendLidSet n c s).st m).limits = (s.st m).limits :=
  limits_of (sendLidSet_outline _ _ s) m
@[simp] theorem lockLid_limits (n : StationId) (s : State) (m : StationId) :
    ((lockLid n s).st m).limits = (s.st m).limits :=
  limits_of (lockLid_outline _ s) m
@[simp] theorem testUnlock_limits (n : StationId) (s : State) (m : StationId) :
    ((testUnlock n s).st m).limits = (s.st m).limits :=
  limits_of (testUnlock_outline _ s) m
@[simp] theorem askUnlock_limits (n : StationId) (s : State) (m : StationId) :
    ((askUnlock n s).st m).limits = (s.st m).limits :=
  limits_of (askUnlock_outline _ s) m
@[simp] theorem sendSpeedSet_limits (n : StationId) (s : State) (m : StationId) :
    ((sendSpeedSet n s).st m).limits = (s.st m).limits :=
  limits_of (sendSpeedSet_outline _ s) m
@[simp] theorem recomputeDrive_limits (n : StationId) (s : State) (m : StationId) :
    ((recomputeDrive n s).st m).limits = (s.st m).limits :=
  limits_of (recomputeDrive_outline _ s) m
@[simp] theorem recomputeEnvelope_limits (n : StationId) (s : State) (m : StationId) :
    ((recomputeEnvelope n s).st m).limits = (s.st m).limits :=
  limits_of (recomputeEnvelope_outline _ s) m
@[simp] theorem dropManualSpeed_limits (n : StationId) (s : State) (m : StationId) :
    ((dropManualSpeed n s).st m).limits = (s.st m).limits :=
  limits_of (dropManualSpeed_outline _ s) m
@[simp] theorem retestReached_limits (n : StationId) (s : State) (m : StationId) :
    ((retestReached n s).st m).limits = (s.st m).limits :=
  limits_of (retestReached_outline _ s) m
@[simp] theorem adoptTarget_limits (n : StationId) (rule : Adoption) (inSample : Bool) (s : State) (m : StationId) :
    ((adoptTarget n rule inSample s).st m).limits = (s.st m).limits :=
  limits_of (adoptTarget_outline _ _ _ s) m
@[simp] theorem stateChanged_limits (n : StationId) (rule : Adoption) (inSample : Bool) (s : State) (m : StationId) :
    ((stateChanged n rule inSample s).st m).limits = (s.st m).limits :=
  limits_of (stateChanged_outline _ _ _ s) m
@[simp] theorem followManualHeat_limits (n : StationId) (s : State) (m : StationId) :
    ((followManualHeat n s).st m).limits = (s.st m).limits :=
  limits_of (followManualHeat_outline _ s) m
@[simp] theorem dropManualHeat_limits (n : StationId) (s : State) (m : StationId) :
    ((dropManualHeat n s).st m).limits = (s.st m).limits :=
  limits_of (dropManualHeat_outline _ s) m
@[simp] theorem originateStepReport_limits (n : StationId) (r : StepReport) (s : State) (m : StationId) :
    ((originateStepReport n r s).st m).limits = (s.st m).limits :=
  limits_of (originateStepReport_outline _ _ s) m
@[simp] theorem endStep_limits (n : StationId) (o : StepOutcome) (s : State) (m : StationId) :
    ((endStep n o s).st m).limits = (s.st m).limits :=
  limits_of (endStep_outline _ _ s) m
@[simp] theorem furtherFault_limits (n : StationId) (s : State) (m : StationId) :
    ((furtherFault n s).st m).limits = (s.st m).limits :=
  limits_of (furtherFault_outline _ s) m
@[simp] theorem enterFault_limits (n : StationId) (c : FaultCause) (further : Nat) (inSample : Bool) (s : State) (m : StationId) :
    ((enterFault n c further inSample s).st m).limits = (s.st m).limits :=
  limits_of (enterFault_outline _ _ _ _ s) m
@[simp] theorem raiseCause_limits (n : StationId) (c : FaultCause) (carried : Bool) (s : State) (m : StationId) :
    ((raiseCause n c carried s).st m).limits = (s.st m).limits :=
  limits_of (raiseCause_outline _ _ _ s) m
@[simp] theorem raiseSilence_limits (n : StationId) (c : FaultCause) (faults : Bool) (s : State) (m : StationId) :
    ((raiseSilence n c faults s).st m).limits = (s.st m).limits :=
  limits_of (raiseSilence_outline _ _ _ s) m
@[simp] theorem enterActive_limits (n : StationId) (rule : Adoption) (inSample : Bool) (s : State) (m : StationId) :
    ((enterActive n rule inSample s).st m).limits = (s.st m).limits :=
  limits_of (enterActive_outline _ _ _ s) m
@[simp] theorem enterBasing_limits (n : StationId) (rule : Adoption) (inSample : Bool) (s : State) (m : StationId) :
    ((enterBasing n rule inSample s).st m).limits = (s.st m).limits :=
  limits_of (enterBasing_outline _ _ _ s) m
@[simp] theorem leaveLocking_limits (n : StationId) (rule : Adoption) (inSample : Bool) (s : State) (m : StationId) :
    ((leaveLocking n rule inSample s).st m).limits = (s.st m).limits :=
  limits_of (leaveLocking_outline _ _ _ s) m
@[simp] theorem actOnLid_limits (n : StationId) (s : State) (m : StationId) :
    ((actOnLid n s).st m).limits = (s.st m).limits :=
  limits_of (actOnLid_outline _ s) m
@[simp] theorem enterLocking_limits (n : StationId) (after : Phase) (rule : Adoption) (inSample : Bool) (s : State) (m : StationId) :
    ((enterLocking n after rule inSample s).st m).limits = (s.st m).limits :=
  limits_of (enterLocking_outline _ _ _ _ s) m
@[simp] theorem leaveBasing_limits (n : StationId) (s : State) (m : StationId) :
    ((leaveBasing n s).st m).limits = (s.st m).limits :=
  limits_of (leaveBasing_outline _ s) m
@[simp] theorem enterStep_limits (n : StationId) (i : Nat) (old : Option Int) (inSample : Bool) (s : State) (m : StationId) :
    ((enterStep n i old inSample s).st m).limits = (s.st m).limits :=
  limits_of (enterStep_outline _ _ _ _ s) m
@[simp] theorem enterIdle_limits (n : StationId) (unlock inSample : Bool) (s : State) (m : StationId) :
    ((enterIdle n unlock inSample s).st m).limits = (s.st m).limits :=
  limits_of (enterIdle_outline _ _ _ s) m
@[simp] theorem enterWarming_limits (n : StationId) (old : Option Int) (inSample : Bool) (s : State) (m : StationId) :
    ((enterWarming n old inSample s).st m).limits = (s.st m).limits :=
  limits_of (enterWarming_outline _ _ _ s) m
@[simp] theorem endRecipe_limits (n : StationId) (rec : StepRecord) (old : Option Int) (inSample : Bool) (s : State) (m : StationId) :
    ((endRecipe n rec old inSample s).st m).limits = (s.st m).limits :=
  limits_of (endRecipe_outline _ _ _ _ s) m
@[simp] theorem finishStep_limits (n : StationId) (o : StepOutcome) (inSample : Bool) (s : State) (m : StationId) :
    ((finishStep n o inSample s).st m).limits = (s.st m).limits :=
  limits_of (finishStep_outline _ _ _ s) m
@[simp] theorem pauseStation_limits (n : StationId) (why : PauseReason) (s : State) (m : StationId) :
    ((pauseStation n why s).st m).limits = (s.st m).limits :=
  limits_of (pauseStation_outline _ _ s) m
@[simp] theorem endOp_limits (n : StationId) (o : OpOutcome) (s : State) (m : StationId) :
    ((endOp n o s).st m).limits = (s.st m).limits :=
  limits_of (endOp_outline _ _ s) m
@[simp] theorem changeTare_limits (n : StationId) (t : Int) (s : State) (m : StationId) :
    ((changeTare n t s).st m).limits = (s.st m).limits :=
  limits_of (changeTare_outline _ _ s) m
@[simp] theorem weighStep_limits (n : StationId) (s : State) (m : StationId) :
    ((weighStep n s).st m).limits = (s.st m).limits :=
  limits_of (weighStep_outline _ s) m
@[simp] theorem completeZero_limits (n : StationId) (s : State) (m : StationId) :
    ((completeZero n s).st m).limits = (s.st m).limits :=
  limits_of (completeZero_outline _ s) m
@[simp] theorem completeCalibrate_limits (n : StationId) (s : State) (m : StationId) :
    ((completeCalibrate n s).st m).limits = (s.st m).limits :=
  limits_of (completeCalibrate_outline _ s) m
@[simp] theorem advanceOp_limits (n : StationId) (x : WeighSample) (s : State) (m : StationId) :
    ((advanceOp n x s).st m).limits = (s.st m).limits :=
  limits_of (advanceOp_outline _ _ s) m
@[simp] theorem acceptSample_limits (n : StationId) (x : WeighSample) (s : State) (m : StationId) :
    ((acceptSample n x s).st m).limits = (s.st m).limits :=
  limits_of (acceptSample_outline _ _ s) m
@[simp] theorem takeWeighSample_limits (n : StationId) (x : WeighSample) (s : State) (m : StationId) :
    ((takeWeighSample n x s).st m).limits = (s.st m).limits :=
  limits_of (takeWeighSample_outline _ _ s) m
@[simp] theorem thermoFaults_limits (n : StationId) (t : Int) (fault : Bool) (before : HeatContext) (s : State) (m : StationId) :
    ((thermoFaults n t fault before s).st m).limits = (s.st m).limits :=
  limits_of (thermoFaults_outline _ _ _ _ s) m
@[simp] theorem tempStep_limits (n : StationId) (t : Int) (s : State) (m : StationId) :
    ((tempStep n t s).st m).limits = (s.st m).limits :=
  limits_of (tempStep_outline _ _ s) m
@[simp] theorem thermoDemand_limits (n : StationId) (t : Int) (grant demand : Nat) (s : State) (m : StationId) :
    ((thermoDemand n t grant demand s).st m).limits = (s.st m).limits :=
  limits_of (thermoDemand_outline _ _ _ _ s) m
@[simp] theorem takeThermoSample_limits (n : StationId) (t : Int) (fault : Bool) (s : State) (m : StationId) :
    ((takeThermoSample n t fault s).st m).limits = (s.st m).limits :=
  limits_of (takeThermoSample_outline _ _ _ s) m
@[simp] theorem takeHeatState_limits (n : StationId) (r : HeatReport) (s : State) (m : StationId) :
    ((takeHeatState n r s).st m).limits = (s.st m).limits :=
  limits_of (takeHeatState_outline _ _ s) m
@[simp] theorem takeDriveState_limits (n : StationId) (r : DriveReport) (s : State) (m : StationId) :
    ((takeDriveState n r s).st m).limits = (s.st m).limits :=
  limits_of (takeDriveState_outline _ _ s) m
@[simp] theorem takeLidState_limits (n : StationId) (r : LidReport) (s : State) (m : StationId) :
    ((takeLidState n r s).st m).limits = (s.st m).limits :=
  limits_of (takeLidState_outline _ _ s) m
@[simp] theorem manualSpeed_limits (n : StationId) (v : Nat) (dir : Direction) (s : State) (m : StationId) :
    ((manualSpeed n v dir s).st m).limits = (s.st m).limits :=
  limits_of (manualSpeed_outline _ _ _ s) m
@[simp] theorem manualHeat_limits (n : StationId) (w : Nat) (s : State) (m : StationId) :
    ((manualHeat n w s).st m).limits = (s.st m).limits :=
  limits_of (manualHeat_outline _ _ s) m
@[simp] theorem manualLid_limits (n : StationId) (c : LidCmd) (s : State) (m : StationId) :
    ((manualLid n c s).st m).limits = (s.st m).limits :=
  limits_of (manualLid_outline _ _ s) m
@[simp] theorem weighSilence_limits (n : StationId) (s : State) (m : StationId) :
    ((weighSilence n s).st m).limits = (s.st m).limits :=
  limits_of (weighSilence_outline _ s) m
@[simp] theorem thermoSilence_limits (n : StationId) (s : State) (m : StationId) :
    ((thermoSilence n s).st m).limits = (s.st m).limits :=
  limits_of (thermoSilence_outline _ s) m
@[simp] theorem heaterSilence_limits (n : StationId) (s : State) (m : StationId) :
    ((heaterSilence n s).st m).limits = (s.st m).limits :=
  limits_of (heaterSilence_outline _ s) m
@[simp] theorem driveSilence_limits (n : StationId) (s : State) (m : StationId) :
    ((driveSilence n s).st m).limits = (s.st m).limits :=
  limits_of (driveSilence_outline _ s) m
@[simp] theorem lidSilence_limits (n : StationId) (s : State) (m : StationId) :
    ((lidSilence n s).st m).limits = (s.st m).limits :=
  limits_of (lidSilence_outline _ s) m
@[simp] theorem roleSilent_limits (n : StationId) (r : Role) (s : State) (m : StationId) :
    ((roleSilent n r s).st m).limits = (s.st m).limits :=
  limits_of (roleSilent_outline _ _ s) m
@[simp] theorem roleHeard_limits (n : StationId) (r : Role) (s : State) (m : StationId) :
    ((roleHeard n r s).st m).limits = (s.st m).limits :=
  limits_of (roleHeard_outline _ _ s) m
@[simp] theorem isolateStation_limits (n : StationId) (s : State) (m : StationId) :
    ((isolateStation n s).st m).limits = (s.st m).limits :=
  limits_of (isolateStation_outline _ s) m
@[simp] theorem refreshLid_limits (n : StationId) (s : State) (m : StationId) :
    ((refreshLid n s).st m).limits = (s.st m).limits :=
  limits_of (refreshLid_outline _ s) m
@[simp] theorem sendWeightReport_limits (n : StationId) (s : State) (m : StationId) :
    ((sendWeightReport n s).st m).limits = (s.st m).limits :=
  limits_of (sendWeightReport_outline _ s) m
@[simp] theorem discardUnsent_limits (k : OwnKind) (s : State) (m : StationId) :
    ((discardUnsent k s).st m).limits = (s.st m).limits :=
  limits_of (discardUnsent_outline _ s) m
@[simp] theorem forgetRoles_limits (n : StationId) (old new : Binding) (s : State) (m : StationId) :
    ((forgetRoles n old new s).st m).limits = (s.st m).limits :=
  limits_of (forgetRoles_outline _ _ _ s) m
@[simp] theorem followBinding_limits (n : StationId) (old new : Binding) (s : State) (m : StationId) :
    ((followBinding n old new s).st m).limits = (s.st m).limits :=
  limits_of (followBinding_outline _ _ _ s) m
@[simp] theorem setBudget_limits (w : Nat) (s : State) (m : StationId) :
    ((setBudget w s).st m).limits = (s.st m).limits :=
  limits_of (setBudget_outline _ s) m
@[simp] theorem startStation_limits (n : StationId) (first : Nat) (s : State) (m : StationId) :
    ((startStation n first s).st m).limits = (s.st m).limits :=
  limits_of (startStation_outline _ _ s) m
@[simp] theorem resumeLocking_limits (n : StationId) (s : State) (m : StationId) :
    ((resumeLocking n s).st m).limits = (s.st m).limits :=
  limits_of (resumeLocking_outline _ s) m
@[simp] theorem resumePhase_limits (n : StationId) (s : State) (m : StationId) :
    ((resumePhase n s).st m).limits = (s.st m).limits :=
  limits_of (resumePhase_outline _ s) m
@[simp] theorem resumeStation_limits (n : StationId) (s : State) (m : StationId) :
    ((resumeStation n s).st m).limits = (s.st m).limits :=
  limits_of (resumeStation_outline _ s) m
@[simp] theorem adjustHeat_limits (n : StationId) (before : Option Int) (a : Adjustment) (s : State) (m : StationId) :
    ((adjustHeat n before a s).st m).limits = (s.st m).limits :=
  limits_of (adjustHeat_outline _ _ _ s) m
@[simp] theorem adjustStation_limits (n : StationId) (a : Adjustment) (s : State) (m : StationId) :
    ((adjustStation n a s).st m).limits = (s.st m).limits :=
  limits_of (adjustStation_outline _ _ s) m
@[simp] theorem startCapture_limits (n : StationId) (op : WeighOp) (mass : Option Int) (s : State) (m : StationId) :
    ((startCapture n op mass s).st m).limits = (s.st m).limits :=
  limits_of (startCapture_outline _ _ _ s) m
@[simp] theorem enableNotices_limits (en : BitVec 16) (s : State) (m : StationId) :
    ((enableNotices en s).st m).limits = (s.st m).limits :=
  limits_of (enableNotices_outline _ s) m

/-! ### `steps` -/

@[simp] theorem countPort_steps (p : Port) (c : PortCounter) (s : State) (m : StationId) :
    ((countPort p c s).st m).steps = (s.st m).steps :=
  steps_of (countPort_outline _ _ s) m
@[simp] theorem countStation_steps (n : StationId) (c : StationCounter) (s : State) (m : StationId) :
    ((countStation n c s).st m).steps = (s.st m).steps :=
  steps_of (countStation_outline _ _ s) m
@[simp] theorem updateDropMode_steps (p : Port) (s : State) (m : StationId) :
    ((updateDropMode p s).st m).steps = (s.st m).steps :=
  steps_of (updateDropMode_outline _ s) m
@[simp] theorem updateDropModes_steps (s : State) (m : StationId) :
    ((updateDropModes s).st m).steps = (s.st m).steps :=
  steps_of (updateDropModes_outline s) m
@[simp] theorem originate_steps (k : OwnKind) (dest : NodeId) (payload : List Byte) (s : State) (m : StationId) :
    ((originate k dest payload s).st m).steps = (s.st m).steps :=
  steps_of (originate_outline _ _ _ s) m
@[simp] theorem originateNotice_steps (s : State) (m : StationId) :
    ((originateNotice s).st m).steps = (s.st m).steps :=
  steps_of (originateNotice_outline s) m
@[simp] theorem setNotice_steps (b : NoticeBit) (s : State) (m : StationId) :
    ((setNotice b s).st m).steps = (s.st m).steps :=
  steps_of (setNotice_outline _ s) m
@[simp] theorem sendHeatSet_steps (n : StationId) (s : State) (m : StationId) :
    ((sendHeatSet n s).st m).steps = (s.st m).steps :=
  steps_of (sendHeatSet_outline _ s) m
@[simp] theorem testGrant_steps (n : StationId) (s : State) (m : StationId) :
    ((testGrant n s).st m).steps = (s.st m).steps :=
  steps_of (testGrant_outline _ s) m
@[simp] theorem recomputeArbiter_steps (s : State) (m : StationId) :
    ((recomputeArbiter s).st m).steps = (s.st m).steps :=
  steps_of (recomputeArbiter_outline s) m
@[simp] theorem followDemand_steps (n : StationId) (s : State) (m : StationId) :
    ((followDemand n s).st m).steps = (s.st m).steps :=
  steps_of (followDemand_outline _ s) m
@[simp] theorem setDemand_steps (n : StationId) (d : Nat) (s : State) (m : StationId) :
    ((setDemand n d s).st m).steps = (s.st m).steps :=
  steps_of (setDemand_outline _ _ s) m
@[simp] theorem setDraw_steps (n : StationId) (w : Nat) (s : State) (m : StationId) :
    ((setDraw n w s).st m).steps = (s.st m).steps :=
  steps_of (setDraw_outline _ _ s) m
@[simp] theorem sendLidSet_steps (n : StationId) (c : LidCmd) (s : State) (m : StationId) :
    ((sendLidSet n c s).st m).steps = (s.st m).steps :=
  steps_of (sendLidSet_outline _ _ s) m
@[simp] theorem lockLid_steps (n : StationId) (s : State) (m : StationId) :
    ((lockLid n s).st m).steps = (s.st m).steps :=
  steps_of (lockLid_outline _ s) m
@[simp] theorem testUnlock_steps (n : StationId) (s : State) (m : StationId) :
    ((testUnlock n s).st m).steps = (s.st m).steps :=
  steps_of (testUnlock_outline _ s) m
@[simp] theorem askUnlock_steps (n : StationId) (s : State) (m : StationId) :
    ((askUnlock n s).st m).steps = (s.st m).steps :=
  steps_of (askUnlock_outline _ s) m
@[simp] theorem sendSpeedSet_steps (n : StationId) (s : State) (m : StationId) :
    ((sendSpeedSet n s).st m).steps = (s.st m).steps :=
  steps_of (sendSpeedSet_outline _ s) m
@[simp] theorem recomputeDrive_steps (n : StationId) (s : State) (m : StationId) :
    ((recomputeDrive n s).st m).steps = (s.st m).steps :=
  steps_of (recomputeDrive_outline _ s) m
@[simp] theorem recomputeEnvelope_steps (n : StationId) (s : State) (m : StationId) :
    ((recomputeEnvelope n s).st m).steps = (s.st m).steps :=
  steps_of (recomputeEnvelope_outline _ s) m
@[simp] theorem dropManualSpeed_steps (n : StationId) (s : State) (m : StationId) :
    ((dropManualSpeed n s).st m).steps = (s.st m).steps :=
  steps_of (dropManualSpeed_outline _ s) m
@[simp] theorem retestReached_steps (n : StationId) (s : State) (m : StationId) :
    ((retestReached n s).st m).steps = (s.st m).steps :=
  steps_of (retestReached_outline _ s) m
@[simp] theorem adoptTarget_steps (n : StationId) (rule : Adoption) (inSample : Bool) (s : State) (m : StationId) :
    ((adoptTarget n rule inSample s).st m).steps = (s.st m).steps :=
  steps_of (adoptTarget_outline _ _ _ s) m
@[simp] theorem stateChanged_steps (n : StationId) (rule : Adoption) (inSample : Bool) (s : State) (m : StationId) :
    ((stateChanged n rule inSample s).st m).steps = (s.st m).steps :=
  steps_of (stateChanged_outline _ _ _ s) m
@[simp] theorem followManualHeat_steps (n : StationId) (s : State) (m : StationId) :
    ((followManualHeat n s).st m).steps = (s.st m).steps :=
  steps_of (followManualHeat_outline _ s) m
@[simp] theorem dropManualHeat_steps (n : StationId) (s : State) (m : StationId) :
    ((dropManualHeat n s).st m).steps = (s.st m).steps :=
  steps_of (dropManualHeat_outline _ s) m
@[simp] theorem originateStepReport_steps (n : StationId) (r : StepReport) (s : State) (m : StationId) :
    ((originateStepReport n r s).st m).steps = (s.st m).steps :=
  steps_of (originateStepReport_outline _ _ s) m
@[simp] theorem endStep_steps (n : StationId) (o : StepOutcome) (s : State) (m : StationId) :
    ((endStep n o s).st m).steps = (s.st m).steps :=
  steps_of (endStep_outline _ _ s) m
@[simp] theorem furtherFault_steps (n : StationId) (s : State) (m : StationId) :
    ((furtherFault n s).st m).steps = (s.st m).steps :=
  steps_of (furtherFault_outline _ s) m
@[simp] theorem enterFault_steps (n : StationId) (c : FaultCause) (further : Nat) (inSample : Bool) (s : State) (m : StationId) :
    ((enterFault n c further inSample s).st m).steps = (s.st m).steps :=
  steps_of (enterFault_outline _ _ _ _ s) m
@[simp] theorem raiseCause_steps (n : StationId) (c : FaultCause) (carried : Bool) (s : State) (m : StationId) :
    ((raiseCause n c carried s).st m).steps = (s.st m).steps :=
  steps_of (raiseCause_outline _ _ _ s) m
@[simp] theorem raiseSilence_steps (n : StationId) (c : FaultCause) (faults : Bool) (s : State) (m : StationId) :
    ((raiseSilence n c faults s).st m).steps = (s.st m).steps :=
  steps_of (raiseSilence_outline _ _ _ s) m
@[simp] theorem enterActive_steps (n : StationId) (rule : Adoption) (inSample : Bool) (s : State) (m : StationId) :
    ((enterActive n rule inSample s).st m).steps = (s.st m).steps :=
  steps_of (enterActive_outline _ _ _ s) m
@[simp] theorem enterBasing_steps (n : StationId) (rule : Adoption) (inSample : Bool) (s : State) (m : StationId) :
    ((enterBasing n rule inSample s).st m).steps = (s.st m).steps :=
  steps_of (enterBasing_outline _ _ _ s) m
@[simp] theorem leaveLocking_steps (n : StationId) (rule : Adoption) (inSample : Bool) (s : State) (m : StationId) :
    ((leaveLocking n rule inSample s).st m).steps = (s.st m).steps :=
  steps_of (leaveLocking_outline _ _ _ s) m
@[simp] theorem actOnLid_steps (n : StationId) (s : State) (m : StationId) :
    ((actOnLid n s).st m).steps = (s.st m).steps :=
  steps_of (actOnLid_outline _ s) m
@[simp] theorem enterLocking_steps (n : StationId) (after : Phase) (rule : Adoption) (inSample : Bool) (s : State) (m : StationId) :
    ((enterLocking n after rule inSample s).st m).steps = (s.st m).steps :=
  steps_of (enterLocking_outline _ _ _ _ s) m
@[simp] theorem leaveBasing_steps (n : StationId) (s : State) (m : StationId) :
    ((leaveBasing n s).st m).steps = (s.st m).steps :=
  steps_of (leaveBasing_outline _ s) m
@[simp] theorem enterStep_steps (n : StationId) (i : Nat) (old : Option Int) (inSample : Bool) (s : State) (m : StationId) :
    ((enterStep n i old inSample s).st m).steps = (s.st m).steps :=
  steps_of (enterStep_outline _ _ _ _ s) m
@[simp] theorem enterIdle_steps (n : StationId) (unlock inSample : Bool) (s : State) (m : StationId) :
    ((enterIdle n unlock inSample s).st m).steps = (s.st m).steps :=
  steps_of (enterIdle_outline _ _ _ s) m
@[simp] theorem enterWarming_steps (n : StationId) (old : Option Int) (inSample : Bool) (s : State) (m : StationId) :
    ((enterWarming n old inSample s).st m).steps = (s.st m).steps :=
  steps_of (enterWarming_outline _ _ _ s) m
@[simp] theorem endRecipe_steps (n : StationId) (rec : StepRecord) (old : Option Int) (inSample : Bool) (s : State) (m : StationId) :
    ((endRecipe n rec old inSample s).st m).steps = (s.st m).steps :=
  steps_of (endRecipe_outline _ _ _ _ s) m
@[simp] theorem finishStep_steps (n : StationId) (o : StepOutcome) (inSample : Bool) (s : State) (m : StationId) :
    ((finishStep n o inSample s).st m).steps = (s.st m).steps :=
  steps_of (finishStep_outline _ _ _ s) m
@[simp] theorem pauseStation_steps (n : StationId) (why : PauseReason) (s : State) (m : StationId) :
    ((pauseStation n why s).st m).steps = (s.st m).steps :=
  steps_of (pauseStation_outline _ _ s) m
@[simp] theorem endOp_steps (n : StationId) (o : OpOutcome) (s : State) (m : StationId) :
    ((endOp n o s).st m).steps = (s.st m).steps :=
  steps_of (endOp_outline _ _ s) m
@[simp] theorem changeTare_steps (n : StationId) (t : Int) (s : State) (m : StationId) :
    ((changeTare n t s).st m).steps = (s.st m).steps :=
  steps_of (changeTare_outline _ _ s) m
@[simp] theorem weighStep_steps (n : StationId) (s : State) (m : StationId) :
    ((weighStep n s).st m).steps = (s.st m).steps :=
  steps_of (weighStep_outline _ s) m
@[simp] theorem completeZero_steps (n : StationId) (s : State) (m : StationId) :
    ((completeZero n s).st m).steps = (s.st m).steps :=
  steps_of (completeZero_outline _ s) m
@[simp] theorem completeCalibrate_steps (n : StationId) (s : State) (m : StationId) :
    ((completeCalibrate n s).st m).steps = (s.st m).steps :=
  steps_of (completeCalibrate_outline _ s) m
@[simp] theorem advanceOp_steps (n : StationId) (x : WeighSample) (s : State) (m : StationId) :
    ((advanceOp n x s).st m).steps = (s.st m).steps :=
  steps_of (advanceOp_outline _ _ s) m
@[simp] theorem acceptSample_steps (n : StationId) (x : WeighSample) (s : State) (m : StationId) :
    ((acceptSample n x s).st m).steps = (s.st m).steps :=
  steps_of (acceptSample_outline _ _ s) m
@[simp] theorem takeWeighSample_steps (n : StationId) (x : WeighSample) (s : State) (m : StationId) :
    ((takeWeighSample n x s).st m).steps = (s.st m).steps :=
  steps_of (takeWeighSample_outline _ _ s) m
@[simp] theorem thermoFaults_steps (n : StationId) (t : Int) (fault : Bool) (before : HeatContext) (s : State) (m : StationId) :
    ((thermoFaults n t fault before s).st m).steps = (s.st m).steps :=
  steps_of (thermoFaults_outline _ _ _ _ s) m
@[simp] theorem tempStep_steps (n : StationId) (t : Int) (s : State) (m : StationId) :
    ((tempStep n t s).st m).steps = (s.st m).steps :=
  steps_of (tempStep_outline _ _ s) m
@[simp] theorem thermoDemand_steps (n : StationId) (t : Int) (grant demand : Nat) (s : State) (m : StationId) :
    ((thermoDemand n t grant demand s).st m).steps = (s.st m).steps :=
  steps_of (thermoDemand_outline _ _ _ _ s) m
@[simp] theorem takeThermoSample_steps (n : StationId) (t : Int) (fault : Bool) (s : State) (m : StationId) :
    ((takeThermoSample n t fault s).st m).steps = (s.st m).steps :=
  steps_of (takeThermoSample_outline _ _ _ s) m
@[simp] theorem takeHeatState_steps (n : StationId) (r : HeatReport) (s : State) (m : StationId) :
    ((takeHeatState n r s).st m).steps = (s.st m).steps :=
  steps_of (takeHeatState_outline _ _ s) m
@[simp] theorem takeDriveState_steps (n : StationId) (r : DriveReport) (s : State) (m : StationId) :
    ((takeDriveState n r s).st m).steps = (s.st m).steps :=
  steps_of (takeDriveState_outline _ _ s) m
@[simp] theorem takeLidState_steps (n : StationId) (r : LidReport) (s : State) (m : StationId) :
    ((takeLidState n r s).st m).steps = (s.st m).steps :=
  steps_of (takeLidState_outline _ _ s) m
@[simp] theorem manualSpeed_steps (n : StationId) (v : Nat) (dir : Direction) (s : State) (m : StationId) :
    ((manualSpeed n v dir s).st m).steps = (s.st m).steps :=
  steps_of (manualSpeed_outline _ _ _ s) m
@[simp] theorem manualHeat_steps (n : StationId) (w : Nat) (s : State) (m : StationId) :
    ((manualHeat n w s).st m).steps = (s.st m).steps :=
  steps_of (manualHeat_outline _ _ s) m
@[simp] theorem manualLid_steps (n : StationId) (c : LidCmd) (s : State) (m : StationId) :
    ((manualLid n c s).st m).steps = (s.st m).steps :=
  steps_of (manualLid_outline _ _ s) m
@[simp] theorem weighSilence_steps (n : StationId) (s : State) (m : StationId) :
    ((weighSilence n s).st m).steps = (s.st m).steps :=
  steps_of (weighSilence_outline _ s) m
@[simp] theorem thermoSilence_steps (n : StationId) (s : State) (m : StationId) :
    ((thermoSilence n s).st m).steps = (s.st m).steps :=
  steps_of (thermoSilence_outline _ s) m
@[simp] theorem heaterSilence_steps (n : StationId) (s : State) (m : StationId) :
    ((heaterSilence n s).st m).steps = (s.st m).steps :=
  steps_of (heaterSilence_outline _ s) m
@[simp] theorem driveSilence_steps (n : StationId) (s : State) (m : StationId) :
    ((driveSilence n s).st m).steps = (s.st m).steps :=
  steps_of (driveSilence_outline _ s) m
@[simp] theorem lidSilence_steps (n : StationId) (s : State) (m : StationId) :
    ((lidSilence n s).st m).steps = (s.st m).steps :=
  steps_of (lidSilence_outline _ s) m
@[simp] theorem roleSilent_steps (n : StationId) (r : Role) (s : State) (m : StationId) :
    ((roleSilent n r s).st m).steps = (s.st m).steps :=
  steps_of (roleSilent_outline _ _ s) m
@[simp] theorem roleHeard_steps (n : StationId) (r : Role) (s : State) (m : StationId) :
    ((roleHeard n r s).st m).steps = (s.st m).steps :=
  steps_of (roleHeard_outline _ _ s) m
@[simp] theorem isolateStation_steps (n : StationId) (s : State) (m : StationId) :
    ((isolateStation n s).st m).steps = (s.st m).steps :=
  steps_of (isolateStation_outline _ s) m
@[simp] theorem refreshLid_steps (n : StationId) (s : State) (m : StationId) :
    ((refreshLid n s).st m).steps = (s.st m).steps :=
  steps_of (refreshLid_outline _ s) m
@[simp] theorem sendWeightReport_steps (n : StationId) (s : State) (m : StationId) :
    ((sendWeightReport n s).st m).steps = (s.st m).steps :=
  steps_of (sendWeightReport_outline _ s) m
@[simp] theorem discardUnsent_steps (k : OwnKind) (s : State) (m : StationId) :
    ((discardUnsent k s).st m).steps = (s.st m).steps :=
  steps_of (discardUnsent_outline _ s) m
@[simp] theorem forgetRoles_steps (n : StationId) (old new : Binding) (s : State) (m : StationId) :
    ((forgetRoles n old new s).st m).steps = (s.st m).steps :=
  steps_of (forgetRoles_outline _ _ _ s) m
@[simp] theorem followBinding_steps (n : StationId) (old new : Binding) (s : State) (m : StationId) :
    ((followBinding n old new s).st m).steps = (s.st m).steps :=
  steps_of (followBinding_outline _ _ _ s) m
@[simp] theorem setBudget_steps (w : Nat) (s : State) (m : StationId) :
    ((setBudget w s).st m).steps = (s.st m).steps :=
  steps_of (setBudget_outline _ s) m
@[simp] theorem startStation_steps (n : StationId) (first : Nat) (s : State) (m : StationId) :
    ((startStation n first s).st m).steps = (s.st m).steps :=
  steps_of (startStation_outline _ _ s) m
@[simp] theorem resumeLocking_steps (n : StationId) (s : State) (m : StationId) :
    ((resumeLocking n s).st m).steps = (s.st m).steps :=
  steps_of (resumeLocking_outline _ s) m
@[simp] theorem resumePhase_steps (n : StationId) (s : State) (m : StationId) :
    ((resumePhase n s).st m).steps = (s.st m).steps :=
  steps_of (resumePhase_outline _ s) m
@[simp] theorem resumeStation_steps (n : StationId) (s : State) (m : StationId) :
    ((resumeStation n s).st m).steps = (s.st m).steps :=
  steps_of (resumeStation_outline _ s) m
@[simp] theorem adjustHeat_steps (n : StationId) (before : Option Int) (a : Adjustment) (s : State) (m : StationId) :
    ((adjustHeat n before a s).st m).steps = (s.st m).steps :=
  steps_of (adjustHeat_outline _ _ _ s) m
@[simp] theorem adjustStation_steps (n : StationId) (a : Adjustment) (s : State) (m : StationId) :
    ((adjustStation n a s).st m).steps = (s.st m).steps :=
  steps_of (adjustStation_outline _ _ s) m
@[simp] theorem startCapture_steps (n : StationId) (op : WeighOp) (mass : Option Int) (s : State) (m : StationId) :
    ((startCapture n op mass s).st m).steps = (s.st m).steps :=
  steps_of (startCapture_outline _ _ _ s) m
@[simp] theorem enableNotices_steps (en : BitVec 16) (s : State) (m : StationId) :
    ((enableNotices en s).st m).steps = (s.st m).steps :=
  steps_of (enableNotices_outline _ s) m

/-! ### `heatCfg` -/

@[simp] theorem countPort_heatCfg (p : Port) (c : PortCounter) (s : State) (m : StationId) :
    ((countPort p c s).st m).heatCfg = (s.st m).heatCfg :=
  heatCfg_of (countPort_outline _ _ s) m
@[simp] theorem countStation_heatCfg (n : StationId) (c : StationCounter) (s : State) (m : StationId) :
    ((countStation n c s).st m).heatCfg = (s.st m).heatCfg :=
  heatCfg_of (countStation_outline _ _ s) m
@[simp] theorem updateDropMode_heatCfg (p : Port) (s : State) (m : StationId) :
    ((updateDropMode p s).st m).heatCfg = (s.st m).heatCfg :=
  heatCfg_of (updateDropMode_outline _ s) m
@[simp] theorem updateDropModes_heatCfg (s : State) (m : StationId) :
    ((updateDropModes s).st m).heatCfg = (s.st m).heatCfg :=
  heatCfg_of (updateDropModes_outline s) m
@[simp] theorem originate_heatCfg (k : OwnKind) (dest : NodeId) (payload : List Byte) (s : State) (m : StationId) :
    ((originate k dest payload s).st m).heatCfg = (s.st m).heatCfg :=
  heatCfg_of (originate_outline _ _ _ s) m
@[simp] theorem originateNotice_heatCfg (s : State) (m : StationId) :
    ((originateNotice s).st m).heatCfg = (s.st m).heatCfg :=
  heatCfg_of (originateNotice_outline s) m
@[simp] theorem setNotice_heatCfg (b : NoticeBit) (s : State) (m : StationId) :
    ((setNotice b s).st m).heatCfg = (s.st m).heatCfg :=
  heatCfg_of (setNotice_outline _ s) m
@[simp] theorem sendHeatSet_heatCfg (n : StationId) (s : State) (m : StationId) :
    ((sendHeatSet n s).st m).heatCfg = (s.st m).heatCfg :=
  heatCfg_of (sendHeatSet_outline _ s) m
@[simp] theorem testGrant_heatCfg (n : StationId) (s : State) (m : StationId) :
    ((testGrant n s).st m).heatCfg = (s.st m).heatCfg :=
  heatCfg_of (testGrant_outline _ s) m
@[simp] theorem recomputeArbiter_heatCfg (s : State) (m : StationId) :
    ((recomputeArbiter s).st m).heatCfg = (s.st m).heatCfg :=
  heatCfg_of (recomputeArbiter_outline s) m
@[simp] theorem followDemand_heatCfg (n : StationId) (s : State) (m : StationId) :
    ((followDemand n s).st m).heatCfg = (s.st m).heatCfg :=
  heatCfg_of (followDemand_outline _ s) m
@[simp] theorem setDemand_heatCfg (n : StationId) (d : Nat) (s : State) (m : StationId) :
    ((setDemand n d s).st m).heatCfg = (s.st m).heatCfg :=
  heatCfg_of (setDemand_outline _ _ s) m
@[simp] theorem setDraw_heatCfg (n : StationId) (w : Nat) (s : State) (m : StationId) :
    ((setDraw n w s).st m).heatCfg = (s.st m).heatCfg :=
  heatCfg_of (setDraw_outline _ _ s) m
@[simp] theorem sendLidSet_heatCfg (n : StationId) (c : LidCmd) (s : State) (m : StationId) :
    ((sendLidSet n c s).st m).heatCfg = (s.st m).heatCfg :=
  heatCfg_of (sendLidSet_outline _ _ s) m
@[simp] theorem lockLid_heatCfg (n : StationId) (s : State) (m : StationId) :
    ((lockLid n s).st m).heatCfg = (s.st m).heatCfg :=
  heatCfg_of (lockLid_outline _ s) m
@[simp] theorem testUnlock_heatCfg (n : StationId) (s : State) (m : StationId) :
    ((testUnlock n s).st m).heatCfg = (s.st m).heatCfg :=
  heatCfg_of (testUnlock_outline _ s) m
@[simp] theorem askUnlock_heatCfg (n : StationId) (s : State) (m : StationId) :
    ((askUnlock n s).st m).heatCfg = (s.st m).heatCfg :=
  heatCfg_of (askUnlock_outline _ s) m
@[simp] theorem sendSpeedSet_heatCfg (n : StationId) (s : State) (m : StationId) :
    ((sendSpeedSet n s).st m).heatCfg = (s.st m).heatCfg :=
  heatCfg_of (sendSpeedSet_outline _ s) m
@[simp] theorem recomputeDrive_heatCfg (n : StationId) (s : State) (m : StationId) :
    ((recomputeDrive n s).st m).heatCfg = (s.st m).heatCfg :=
  heatCfg_of (recomputeDrive_outline _ s) m
@[simp] theorem recomputeEnvelope_heatCfg (n : StationId) (s : State) (m : StationId) :
    ((recomputeEnvelope n s).st m).heatCfg = (s.st m).heatCfg :=
  heatCfg_of (recomputeEnvelope_outline _ s) m
@[simp] theorem dropManualSpeed_heatCfg (n : StationId) (s : State) (m : StationId) :
    ((dropManualSpeed n s).st m).heatCfg = (s.st m).heatCfg :=
  heatCfg_of (dropManualSpeed_outline _ s) m
@[simp] theorem retestReached_heatCfg (n : StationId) (s : State) (m : StationId) :
    ((retestReached n s).st m).heatCfg = (s.st m).heatCfg :=
  heatCfg_of (retestReached_outline _ s) m
@[simp] theorem adoptTarget_heatCfg (n : StationId) (rule : Adoption) (inSample : Bool) (s : State) (m : StationId) :
    ((adoptTarget n rule inSample s).st m).heatCfg = (s.st m).heatCfg :=
  heatCfg_of (adoptTarget_outline _ _ _ s) m
@[simp] theorem stateChanged_heatCfg (n : StationId) (rule : Adoption) (inSample : Bool) (s : State) (m : StationId) :
    ((stateChanged n rule inSample s).st m).heatCfg = (s.st m).heatCfg :=
  heatCfg_of (stateChanged_outline _ _ _ s) m
@[simp] theorem followManualHeat_heatCfg (n : StationId) (s : State) (m : StationId) :
    ((followManualHeat n s).st m).heatCfg = (s.st m).heatCfg :=
  heatCfg_of (followManualHeat_outline _ s) m
@[simp] theorem dropManualHeat_heatCfg (n : StationId) (s : State) (m : StationId) :
    ((dropManualHeat n s).st m).heatCfg = (s.st m).heatCfg :=
  heatCfg_of (dropManualHeat_outline _ s) m
@[simp] theorem originateStepReport_heatCfg (n : StationId) (r : StepReport) (s : State) (m : StationId) :
    ((originateStepReport n r s).st m).heatCfg = (s.st m).heatCfg :=
  heatCfg_of (originateStepReport_outline _ _ s) m
@[simp] theorem endStep_heatCfg (n : StationId) (o : StepOutcome) (s : State) (m : StationId) :
    ((endStep n o s).st m).heatCfg = (s.st m).heatCfg :=
  heatCfg_of (endStep_outline _ _ s) m
@[simp] theorem furtherFault_heatCfg (n : StationId) (s : State) (m : StationId) :
    ((furtherFault n s).st m).heatCfg = (s.st m).heatCfg :=
  heatCfg_of (furtherFault_outline _ s) m
@[simp] theorem enterFault_heatCfg (n : StationId) (c : FaultCause) (further : Nat) (inSample : Bool) (s : State) (m : StationId) :
    ((enterFault n c further inSample s).st m).heatCfg = (s.st m).heatCfg :=
  heatCfg_of (enterFault_outline _ _ _ _ s) m
@[simp] theorem raiseCause_heatCfg (n : StationId) (c : FaultCause) (carried : Bool) (s : State) (m : StationId) :
    ((raiseCause n c carried s).st m).heatCfg = (s.st m).heatCfg :=
  heatCfg_of (raiseCause_outline _ _ _ s) m
@[simp] theorem raiseSilence_heatCfg (n : StationId) (c : FaultCause) (faults : Bool) (s : State) (m : StationId) :
    ((raiseSilence n c faults s).st m).heatCfg = (s.st m).heatCfg :=
  heatCfg_of (raiseSilence_outline _ _ _ s) m
@[simp] theorem enterActive_heatCfg (n : StationId) (rule : Adoption) (inSample : Bool) (s : State) (m : StationId) :
    ((enterActive n rule inSample s).st m).heatCfg = (s.st m).heatCfg :=
  heatCfg_of (enterActive_outline _ _ _ s) m
@[simp] theorem enterBasing_heatCfg (n : StationId) (rule : Adoption) (inSample : Bool) (s : State) (m : StationId) :
    ((enterBasing n rule inSample s).st m).heatCfg = (s.st m).heatCfg :=
  heatCfg_of (enterBasing_outline _ _ _ s) m
@[simp] theorem leaveLocking_heatCfg (n : StationId) (rule : Adoption) (inSample : Bool) (s : State) (m : StationId) :
    ((leaveLocking n rule inSample s).st m).heatCfg = (s.st m).heatCfg :=
  heatCfg_of (leaveLocking_outline _ _ _ s) m
@[simp] theorem actOnLid_heatCfg (n : StationId) (s : State) (m : StationId) :
    ((actOnLid n s).st m).heatCfg = (s.st m).heatCfg :=
  heatCfg_of (actOnLid_outline _ s) m
@[simp] theorem enterLocking_heatCfg (n : StationId) (after : Phase) (rule : Adoption) (inSample : Bool) (s : State) (m : StationId) :
    ((enterLocking n after rule inSample s).st m).heatCfg = (s.st m).heatCfg :=
  heatCfg_of (enterLocking_outline _ _ _ _ s) m
@[simp] theorem leaveBasing_heatCfg (n : StationId) (s : State) (m : StationId) :
    ((leaveBasing n s).st m).heatCfg = (s.st m).heatCfg :=
  heatCfg_of (leaveBasing_outline _ s) m
@[simp] theorem enterStep_heatCfg (n : StationId) (i : Nat) (old : Option Int) (inSample : Bool) (s : State) (m : StationId) :
    ((enterStep n i old inSample s).st m).heatCfg = (s.st m).heatCfg :=
  heatCfg_of (enterStep_outline _ _ _ _ s) m
@[simp] theorem enterIdle_heatCfg (n : StationId) (unlock inSample : Bool) (s : State) (m : StationId) :
    ((enterIdle n unlock inSample s).st m).heatCfg = (s.st m).heatCfg :=
  heatCfg_of (enterIdle_outline _ _ _ s) m
@[simp] theorem enterWarming_heatCfg (n : StationId) (old : Option Int) (inSample : Bool) (s : State) (m : StationId) :
    ((enterWarming n old inSample s).st m).heatCfg = (s.st m).heatCfg :=
  heatCfg_of (enterWarming_outline _ _ _ s) m
@[simp] theorem endRecipe_heatCfg (n : StationId) (rec : StepRecord) (old : Option Int) (inSample : Bool) (s : State) (m : StationId) :
    ((endRecipe n rec old inSample s).st m).heatCfg = (s.st m).heatCfg :=
  heatCfg_of (endRecipe_outline _ _ _ _ s) m
@[simp] theorem finishStep_heatCfg (n : StationId) (o : StepOutcome) (inSample : Bool) (s : State) (m : StationId) :
    ((finishStep n o inSample s).st m).heatCfg = (s.st m).heatCfg :=
  heatCfg_of (finishStep_outline _ _ _ s) m
@[simp] theorem pauseStation_heatCfg (n : StationId) (why : PauseReason) (s : State) (m : StationId) :
    ((pauseStation n why s).st m).heatCfg = (s.st m).heatCfg :=
  heatCfg_of (pauseStation_outline _ _ s) m
@[simp] theorem endOp_heatCfg (n : StationId) (o : OpOutcome) (s : State) (m : StationId) :
    ((endOp n o s).st m).heatCfg = (s.st m).heatCfg :=
  heatCfg_of (endOp_outline _ _ s) m
@[simp] theorem changeTare_heatCfg (n : StationId) (t : Int) (s : State) (m : StationId) :
    ((changeTare n t s).st m).heatCfg = (s.st m).heatCfg :=
  heatCfg_of (changeTare_outline _ _ s) m
@[simp] theorem weighStep_heatCfg (n : StationId) (s : State) (m : StationId) :
    ((weighStep n s).st m).heatCfg = (s.st m).heatCfg :=
  heatCfg_of (weighStep_outline _ s) m
@[simp] theorem completeZero_heatCfg (n : StationId) (s : State) (m : StationId) :
    ((completeZero n s).st m).heatCfg = (s.st m).heatCfg :=
  heatCfg_of (completeZero_outline _ s) m
@[simp] theorem completeCalibrate_heatCfg (n : StationId) (s : State) (m : StationId) :
    ((completeCalibrate n s).st m).heatCfg = (s.st m).heatCfg :=
  heatCfg_of (completeCalibrate_outline _ s) m
@[simp] theorem advanceOp_heatCfg (n : StationId) (x : WeighSample) (s : State) (m : StationId) :
    ((advanceOp n x s).st m).heatCfg = (s.st m).heatCfg :=
  heatCfg_of (advanceOp_outline _ _ s) m
@[simp] theorem acceptSample_heatCfg (n : StationId) (x : WeighSample) (s : State) (m : StationId) :
    ((acceptSample n x s).st m).heatCfg = (s.st m).heatCfg :=
  heatCfg_of (acceptSample_outline _ _ s) m
@[simp] theorem takeWeighSample_heatCfg (n : StationId) (x : WeighSample) (s : State) (m : StationId) :
    ((takeWeighSample n x s).st m).heatCfg = (s.st m).heatCfg :=
  heatCfg_of (takeWeighSample_outline _ _ s) m
@[simp] theorem thermoFaults_heatCfg (n : StationId) (t : Int) (fault : Bool) (before : HeatContext) (s : State) (m : StationId) :
    ((thermoFaults n t fault before s).st m).heatCfg = (s.st m).heatCfg :=
  heatCfg_of (thermoFaults_outline _ _ _ _ s) m
@[simp] theorem tempStep_heatCfg (n : StationId) (t : Int) (s : State) (m : StationId) :
    ((tempStep n t s).st m).heatCfg = (s.st m).heatCfg :=
  heatCfg_of (tempStep_outline _ _ s) m
@[simp] theorem thermoDemand_heatCfg (n : StationId) (t : Int) (grant demand : Nat) (s : State) (m : StationId) :
    ((thermoDemand n t grant demand s).st m).heatCfg = (s.st m).heatCfg :=
  heatCfg_of (thermoDemand_outline _ _ _ _ s) m
@[simp] theorem takeThermoSample_heatCfg (n : StationId) (t : Int) (fault : Bool) (s : State) (m : StationId) :
    ((takeThermoSample n t fault s).st m).heatCfg = (s.st m).heatCfg :=
  heatCfg_of (takeThermoSample_outline _ _ _ s) m
@[simp] theorem takeHeatState_heatCfg (n : StationId) (r : HeatReport) (s : State) (m : StationId) :
    ((takeHeatState n r s).st m).heatCfg = (s.st m).heatCfg :=
  heatCfg_of (takeHeatState_outline _ _ s) m
@[simp] theorem takeDriveState_heatCfg (n : StationId) (r : DriveReport) (s : State) (m : StationId) :
    ((takeDriveState n r s).st m).heatCfg = (s.st m).heatCfg :=
  heatCfg_of (takeDriveState_outline _ _ s) m
@[simp] theorem takeLidState_heatCfg (n : StationId) (r : LidReport) (s : State) (m : StationId) :
    ((takeLidState n r s).st m).heatCfg = (s.st m).heatCfg :=
  heatCfg_of (takeLidState_outline _ _ s) m
@[simp] theorem manualSpeed_heatCfg (n : StationId) (v : Nat) (dir : Direction) (s : State) (m : StationId) :
    ((manualSpeed n v dir s).st m).heatCfg = (s.st m).heatCfg :=
  heatCfg_of (manualSpeed_outline _ _ _ s) m
@[simp] theorem manualHeat_heatCfg (n : StationId) (w : Nat) (s : State) (m : StationId) :
    ((manualHeat n w s).st m).heatCfg = (s.st m).heatCfg :=
  heatCfg_of (manualHeat_outline _ _ s) m
@[simp] theorem manualLid_heatCfg (n : StationId) (c : LidCmd) (s : State) (m : StationId) :
    ((manualLid n c s).st m).heatCfg = (s.st m).heatCfg :=
  heatCfg_of (manualLid_outline _ _ s) m
@[simp] theorem weighSilence_heatCfg (n : StationId) (s : State) (m : StationId) :
    ((weighSilence n s).st m).heatCfg = (s.st m).heatCfg :=
  heatCfg_of (weighSilence_outline _ s) m
@[simp] theorem thermoSilence_heatCfg (n : StationId) (s : State) (m : StationId) :
    ((thermoSilence n s).st m).heatCfg = (s.st m).heatCfg :=
  heatCfg_of (thermoSilence_outline _ s) m
@[simp] theorem heaterSilence_heatCfg (n : StationId) (s : State) (m : StationId) :
    ((heaterSilence n s).st m).heatCfg = (s.st m).heatCfg :=
  heatCfg_of (heaterSilence_outline _ s) m
@[simp] theorem driveSilence_heatCfg (n : StationId) (s : State) (m : StationId) :
    ((driveSilence n s).st m).heatCfg = (s.st m).heatCfg :=
  heatCfg_of (driveSilence_outline _ s) m
@[simp] theorem lidSilence_heatCfg (n : StationId) (s : State) (m : StationId) :
    ((lidSilence n s).st m).heatCfg = (s.st m).heatCfg :=
  heatCfg_of (lidSilence_outline _ s) m
@[simp] theorem roleSilent_heatCfg (n : StationId) (r : Role) (s : State) (m : StationId) :
    ((roleSilent n r s).st m).heatCfg = (s.st m).heatCfg :=
  heatCfg_of (roleSilent_outline _ _ s) m
@[simp] theorem roleHeard_heatCfg (n : StationId) (r : Role) (s : State) (m : StationId) :
    ((roleHeard n r s).st m).heatCfg = (s.st m).heatCfg :=
  heatCfg_of (roleHeard_outline _ _ s) m
@[simp] theorem isolateStation_heatCfg (n : StationId) (s : State) (m : StationId) :
    ((isolateStation n s).st m).heatCfg = (s.st m).heatCfg :=
  heatCfg_of (isolateStation_outline _ s) m
@[simp] theorem refreshLid_heatCfg (n : StationId) (s : State) (m : StationId) :
    ((refreshLid n s).st m).heatCfg = (s.st m).heatCfg :=
  heatCfg_of (refreshLid_outline _ s) m
@[simp] theorem sendWeightReport_heatCfg (n : StationId) (s : State) (m : StationId) :
    ((sendWeightReport n s).st m).heatCfg = (s.st m).heatCfg :=
  heatCfg_of (sendWeightReport_outline _ s) m
@[simp] theorem discardUnsent_heatCfg (k : OwnKind) (s : State) (m : StationId) :
    ((discardUnsent k s).st m).heatCfg = (s.st m).heatCfg :=
  heatCfg_of (discardUnsent_outline _ s) m
@[simp] theorem forgetRoles_heatCfg (n : StationId) (old new : Binding) (s : State) (m : StationId) :
    ((forgetRoles n old new s).st m).heatCfg = (s.st m).heatCfg :=
  heatCfg_of (forgetRoles_outline _ _ _ s) m
@[simp] theorem followBinding_heatCfg (n : StationId) (old new : Binding) (s : State) (m : StationId) :
    ((followBinding n old new s).st m).heatCfg = (s.st m).heatCfg :=
  heatCfg_of (followBinding_outline _ _ _ s) m
@[simp] theorem setBudget_heatCfg (w : Nat) (s : State) (m : StationId) :
    ((setBudget w s).st m).heatCfg = (s.st m).heatCfg :=
  heatCfg_of (setBudget_outline _ s) m
@[simp] theorem startStation_heatCfg (n : StationId) (first : Nat) (s : State) (m : StationId) :
    ((startStation n first s).st m).heatCfg = (s.st m).heatCfg :=
  heatCfg_of (startStation_outline _ _ s) m
@[simp] theorem resumeLocking_heatCfg (n : StationId) (s : State) (m : StationId) :
    ((resumeLocking n s).st m).heatCfg = (s.st m).heatCfg :=
  heatCfg_of (resumeLocking_outline _ s) m
@[simp] theorem resumePhase_heatCfg (n : StationId) (s : State) (m : StationId) :
    ((resumePhase n s).st m).heatCfg = (s.st m).heatCfg :=
  heatCfg_of (resumePhase_outline _ s) m
@[simp] theorem resumeStation_heatCfg (n : StationId) (s : State) (m : StationId) :
    ((resumeStation n s).st m).heatCfg = (s.st m).heatCfg :=
  heatCfg_of (resumeStation_outline _ s) m
@[simp] theorem adjustHeat_heatCfg (n : StationId) (before : Option Int) (a : Adjustment) (s : State) (m : StationId) :
    ((adjustHeat n before a s).st m).heatCfg = (s.st m).heatCfg :=
  heatCfg_of (adjustHeat_outline _ _ _ s) m
@[simp] theorem adjustStation_heatCfg (n : StationId) (a : Adjustment) (s : State) (m : StationId) :
    ((adjustStation n a s).st m).heatCfg = (s.st m).heatCfg :=
  heatCfg_of (adjustStation_outline _ _ s) m
@[simp] theorem startCapture_heatCfg (n : StationId) (op : WeighOp) (mass : Option Int) (s : State) (m : StationId) :
    ((startCapture n op mass s).st m).heatCfg = (s.st m).heatCfg :=
  heatCfg_of (startCapture_outline _ _ _ s) m
@[simp] theorem enableNotices_heatCfg (en : BitVec 16) (s : State) (m : StationId) :
    ((enableNotices en s).st m).heatCfg = (s.st m).heatCfg :=
  heatCfg_of (enableNotices_outline _ s) m

/-! ### `recipeLength` -/

@[simp] theorem countPort_recipeLength (p : Port) (c : PortCounter) (s : State) (m : StationId) :
    ((countPort p c s).st m).recipeLength = (s.st m).recipeLength :=
  recipeLength_of (countPort_outline _ _ s) m
@[simp] theorem countStation_recipeLength (n : StationId) (c : StationCounter) (s : State) (m : StationId) :
    ((countStation n c s).st m).recipeLength = (s.st m).recipeLength :=
  recipeLength_of (countStation_outline _ _ s) m
@[simp] theorem updateDropMode_recipeLength (p : Port) (s : State) (m : StationId) :
    ((updateDropMode p s).st m).recipeLength = (s.st m).recipeLength :=
  recipeLength_of (updateDropMode_outline _ s) m
@[simp] theorem updateDropModes_recipeLength (s : State) (m : StationId) :
    ((updateDropModes s).st m).recipeLength = (s.st m).recipeLength :=
  recipeLength_of (updateDropModes_outline s) m
@[simp] theorem originate_recipeLength (k : OwnKind) (dest : NodeId) (payload : List Byte) (s : State) (m : StationId) :
    ((originate k dest payload s).st m).recipeLength = (s.st m).recipeLength :=
  recipeLength_of (originate_outline _ _ _ s) m
@[simp] theorem originateNotice_recipeLength (s : State) (m : StationId) :
    ((originateNotice s).st m).recipeLength = (s.st m).recipeLength :=
  recipeLength_of (originateNotice_outline s) m
@[simp] theorem setNotice_recipeLength (b : NoticeBit) (s : State) (m : StationId) :
    ((setNotice b s).st m).recipeLength = (s.st m).recipeLength :=
  recipeLength_of (setNotice_outline _ s) m
@[simp] theorem sendHeatSet_recipeLength (n : StationId) (s : State) (m : StationId) :
    ((sendHeatSet n s).st m).recipeLength = (s.st m).recipeLength :=
  recipeLength_of (sendHeatSet_outline _ s) m
@[simp] theorem testGrant_recipeLength (n : StationId) (s : State) (m : StationId) :
    ((testGrant n s).st m).recipeLength = (s.st m).recipeLength :=
  recipeLength_of (testGrant_outline _ s) m
@[simp] theorem recomputeArbiter_recipeLength (s : State) (m : StationId) :
    ((recomputeArbiter s).st m).recipeLength = (s.st m).recipeLength :=
  recipeLength_of (recomputeArbiter_outline s) m
@[simp] theorem followDemand_recipeLength (n : StationId) (s : State) (m : StationId) :
    ((followDemand n s).st m).recipeLength = (s.st m).recipeLength :=
  recipeLength_of (followDemand_outline _ s) m
@[simp] theorem setDemand_recipeLength (n : StationId) (d : Nat) (s : State) (m : StationId) :
    ((setDemand n d s).st m).recipeLength = (s.st m).recipeLength :=
  recipeLength_of (setDemand_outline _ _ s) m
@[simp] theorem setDraw_recipeLength (n : StationId) (w : Nat) (s : State) (m : StationId) :
    ((setDraw n w s).st m).recipeLength = (s.st m).recipeLength :=
  recipeLength_of (setDraw_outline _ _ s) m
@[simp] theorem sendLidSet_recipeLength (n : StationId) (c : LidCmd) (s : State) (m : StationId) :
    ((sendLidSet n c s).st m).recipeLength = (s.st m).recipeLength :=
  recipeLength_of (sendLidSet_outline _ _ s) m
@[simp] theorem lockLid_recipeLength (n : StationId) (s : State) (m : StationId) :
    ((lockLid n s).st m).recipeLength = (s.st m).recipeLength :=
  recipeLength_of (lockLid_outline _ s) m
@[simp] theorem testUnlock_recipeLength (n : StationId) (s : State) (m : StationId) :
    ((testUnlock n s).st m).recipeLength = (s.st m).recipeLength :=
  recipeLength_of (testUnlock_outline _ s) m
@[simp] theorem askUnlock_recipeLength (n : StationId) (s : State) (m : StationId) :
    ((askUnlock n s).st m).recipeLength = (s.st m).recipeLength :=
  recipeLength_of (askUnlock_outline _ s) m
@[simp] theorem sendSpeedSet_recipeLength (n : StationId) (s : State) (m : StationId) :
    ((sendSpeedSet n s).st m).recipeLength = (s.st m).recipeLength :=
  recipeLength_of (sendSpeedSet_outline _ s) m
@[simp] theorem recomputeDrive_recipeLength (n : StationId) (s : State) (m : StationId) :
    ((recomputeDrive n s).st m).recipeLength = (s.st m).recipeLength :=
  recipeLength_of (recomputeDrive_outline _ s) m
@[simp] theorem recomputeEnvelope_recipeLength (n : StationId) (s : State) (m : StationId) :
    ((recomputeEnvelope n s).st m).recipeLength = (s.st m).recipeLength :=
  recipeLength_of (recomputeEnvelope_outline _ s) m
@[simp] theorem dropManualSpeed_recipeLength (n : StationId) (s : State) (m : StationId) :
    ((dropManualSpeed n s).st m).recipeLength = (s.st m).recipeLength :=
  recipeLength_of (dropManualSpeed_outline _ s) m
@[simp] theorem retestReached_recipeLength (n : StationId) (s : State) (m : StationId) :
    ((retestReached n s).st m).recipeLength = (s.st m).recipeLength :=
  recipeLength_of (retestReached_outline _ s) m
@[simp] theorem adoptTarget_recipeLength (n : StationId) (rule : Adoption) (inSample : Bool) (s : State) (m : StationId) :
    ((adoptTarget n rule inSample s).st m).recipeLength = (s.st m).recipeLength :=
  recipeLength_of (adoptTarget_outline _ _ _ s) m
@[simp] theorem stateChanged_recipeLength (n : StationId) (rule : Adoption) (inSample : Bool) (s : State) (m : StationId) :
    ((stateChanged n rule inSample s).st m).recipeLength = (s.st m).recipeLength :=
  recipeLength_of (stateChanged_outline _ _ _ s) m
@[simp] theorem followManualHeat_recipeLength (n : StationId) (s : State) (m : StationId) :
    ((followManualHeat n s).st m).recipeLength = (s.st m).recipeLength :=
  recipeLength_of (followManualHeat_outline _ s) m
@[simp] theorem dropManualHeat_recipeLength (n : StationId) (s : State) (m : StationId) :
    ((dropManualHeat n s).st m).recipeLength = (s.st m).recipeLength :=
  recipeLength_of (dropManualHeat_outline _ s) m
@[simp] theorem originateStepReport_recipeLength (n : StationId) (r : StepReport) (s : State) (m : StationId) :
    ((originateStepReport n r s).st m).recipeLength = (s.st m).recipeLength :=
  recipeLength_of (originateStepReport_outline _ _ s) m
@[simp] theorem endStep_recipeLength (n : StationId) (o : StepOutcome) (s : State) (m : StationId) :
    ((endStep n o s).st m).recipeLength = (s.st m).recipeLength :=
  recipeLength_of (endStep_outline _ _ s) m
@[simp] theorem furtherFault_recipeLength (n : StationId) (s : State) (m : StationId) :
    ((furtherFault n s).st m).recipeLength = (s.st m).recipeLength :=
  recipeLength_of (furtherFault_outline _ s) m
@[simp] theorem enterFault_recipeLength (n : StationId) (c : FaultCause) (further : Nat) (inSample : Bool) (s : State) (m : StationId) :
    ((enterFault n c further inSample s).st m).recipeLength = (s.st m).recipeLength :=
  recipeLength_of (enterFault_outline _ _ _ _ s) m
@[simp] theorem raiseCause_recipeLength (n : StationId) (c : FaultCause) (carried : Bool) (s : State) (m : StationId) :
    ((raiseCause n c carried s).st m).recipeLength = (s.st m).recipeLength :=
  recipeLength_of (raiseCause_outline _ _ _ s) m
@[simp] theorem raiseSilence_recipeLength (n : StationId) (c : FaultCause) (faults : Bool) (s : State) (m : StationId) :
    ((raiseSilence n c faults s).st m).recipeLength = (s.st m).recipeLength :=
  recipeLength_of (raiseSilence_outline _ _ _ s) m
@[simp] theorem enterActive_recipeLength (n : StationId) (rule : Adoption) (inSample : Bool) (s : State) (m : StationId) :
    ((enterActive n rule inSample s).st m).recipeLength = (s.st m).recipeLength :=
  recipeLength_of (enterActive_outline _ _ _ s) m
@[simp] theorem enterBasing_recipeLength (n : StationId) (rule : Adoption) (inSample : Bool) (s : State) (m : StationId) :
    ((enterBasing n rule inSample s).st m).recipeLength = (s.st m).recipeLength :=
  recipeLength_of (enterBasing_outline _ _ _ s) m
@[simp] theorem leaveLocking_recipeLength (n : StationId) (rule : Adoption) (inSample : Bool) (s : State) (m : StationId) :
    ((leaveLocking n rule inSample s).st m).recipeLength = (s.st m).recipeLength :=
  recipeLength_of (leaveLocking_outline _ _ _ s) m
@[simp] theorem actOnLid_recipeLength (n : StationId) (s : State) (m : StationId) :
    ((actOnLid n s).st m).recipeLength = (s.st m).recipeLength :=
  recipeLength_of (actOnLid_outline _ s) m
@[simp] theorem enterLocking_recipeLength (n : StationId) (after : Phase) (rule : Adoption) (inSample : Bool) (s : State) (m : StationId) :
    ((enterLocking n after rule inSample s).st m).recipeLength = (s.st m).recipeLength :=
  recipeLength_of (enterLocking_outline _ _ _ _ s) m
@[simp] theorem leaveBasing_recipeLength (n : StationId) (s : State) (m : StationId) :
    ((leaveBasing n s).st m).recipeLength = (s.st m).recipeLength :=
  recipeLength_of (leaveBasing_outline _ s) m
@[simp] theorem enterStep_recipeLength (n : StationId) (i : Nat) (old : Option Int) (inSample : Bool) (s : State) (m : StationId) :
    ((enterStep n i old inSample s).st m).recipeLength = (s.st m).recipeLength :=
  recipeLength_of (enterStep_outline _ _ _ _ s) m
@[simp] theorem enterIdle_recipeLength (n : StationId) (unlock inSample : Bool) (s : State) (m : StationId) :
    ((enterIdle n unlock inSample s).st m).recipeLength = (s.st m).recipeLength :=
  recipeLength_of (enterIdle_outline _ _ _ s) m
@[simp] theorem enterWarming_recipeLength (n : StationId) (old : Option Int) (inSample : Bool) (s : State) (m : StationId) :
    ((enterWarming n old inSample s).st m).recipeLength = (s.st m).recipeLength :=
  recipeLength_of (enterWarming_outline _ _ _ s) m
@[simp] theorem endRecipe_recipeLength (n : StationId) (rec : StepRecord) (old : Option Int) (inSample : Bool) (s : State) (m : StationId) :
    ((endRecipe n rec old inSample s).st m).recipeLength = (s.st m).recipeLength :=
  recipeLength_of (endRecipe_outline _ _ _ _ s) m
@[simp] theorem finishStep_recipeLength (n : StationId) (o : StepOutcome) (inSample : Bool) (s : State) (m : StationId) :
    ((finishStep n o inSample s).st m).recipeLength = (s.st m).recipeLength :=
  recipeLength_of (finishStep_outline _ _ _ s) m
@[simp] theorem pauseStation_recipeLength (n : StationId) (why : PauseReason) (s : State) (m : StationId) :
    ((pauseStation n why s).st m).recipeLength = (s.st m).recipeLength :=
  recipeLength_of (pauseStation_outline _ _ s) m
@[simp] theorem endOp_recipeLength (n : StationId) (o : OpOutcome) (s : State) (m : StationId) :
    ((endOp n o s).st m).recipeLength = (s.st m).recipeLength :=
  recipeLength_of (endOp_outline _ _ s) m
@[simp] theorem changeTare_recipeLength (n : StationId) (t : Int) (s : State) (m : StationId) :
    ((changeTare n t s).st m).recipeLength = (s.st m).recipeLength :=
  recipeLength_of (changeTare_outline _ _ s) m
@[simp] theorem weighStep_recipeLength (n : StationId) (s : State) (m : StationId) :
    ((weighStep n s).st m).recipeLength = (s.st m).recipeLength :=
  recipeLength_of (weighStep_outline _ s) m
@[simp] theorem completeZero_recipeLength (n : StationId) (s : State) (m : StationId) :
    ((completeZero n s).st m).recipeLength = (s.st m).recipeLength :=
  recipeLength_of (completeZero_outline _ s) m
@[simp] theorem completeCalibrate_recipeLength (n : StationId) (s : State) (m : StationId) :
    ((completeCalibrate n s).st m).recipeLength = (s.st m).recipeLength :=
  recipeLength_of (completeCalibrate_outline _ s) m
@[simp] theorem advanceOp_recipeLength (n : StationId) (x : WeighSample) (s : State) (m : StationId) :
    ((advanceOp n x s).st m).recipeLength = (s.st m).recipeLength :=
  recipeLength_of (advanceOp_outline _ _ s) m
@[simp] theorem acceptSample_recipeLength (n : StationId) (x : WeighSample) (s : State) (m : StationId) :
    ((acceptSample n x s).st m).recipeLength = (s.st m).recipeLength :=
  recipeLength_of (acceptSample_outline _ _ s) m
@[simp] theorem takeWeighSample_recipeLength (n : StationId) (x : WeighSample) (s : State) (m : StationId) :
    ((takeWeighSample n x s).st m).recipeLength = (s.st m).recipeLength :=
  recipeLength_of (takeWeighSample_outline _ _ s) m
@[simp] theorem thermoFaults_recipeLength (n : StationId) (t : Int) (fault : Bool) (before : HeatContext) (s : State) (m : StationId) :
    ((thermoFaults n t fault before s).st m).recipeLength = (s.st m).recipeLength :=
  recipeLength_of (thermoFaults_outline _ _ _ _ s) m
@[simp] theorem tempStep_recipeLength (n : StationId) (t : Int) (s : State) (m : StationId) :
    ((tempStep n t s).st m).recipeLength = (s.st m).recipeLength :=
  recipeLength_of (tempStep_outline _ _ s) m
@[simp] theorem thermoDemand_recipeLength (n : StationId) (t : Int) (grant demand : Nat) (s : State) (m : StationId) :
    ((thermoDemand n t grant demand s).st m).recipeLength = (s.st m).recipeLength :=
  recipeLength_of (thermoDemand_outline _ _ _ _ s) m
@[simp] theorem takeThermoSample_recipeLength (n : StationId) (t : Int) (fault : Bool) (s : State) (m : StationId) :
    ((takeThermoSample n t fault s).st m).recipeLength = (s.st m).recipeLength :=
  recipeLength_of (takeThermoSample_outline _ _ _ s) m
@[simp] theorem takeHeatState_recipeLength (n : StationId) (r : HeatReport) (s : State) (m : StationId) :
    ((takeHeatState n r s).st m).recipeLength = (s.st m).recipeLength :=
  recipeLength_of (takeHeatState_outline _ _ s) m
@[simp] theorem takeDriveState_recipeLength (n : StationId) (r : DriveReport) (s : State) (m : StationId) :
    ((takeDriveState n r s).st m).recipeLength = (s.st m).recipeLength :=
  recipeLength_of (takeDriveState_outline _ _ s) m
@[simp] theorem takeLidState_recipeLength (n : StationId) (r : LidReport) (s : State) (m : StationId) :
    ((takeLidState n r s).st m).recipeLength = (s.st m).recipeLength :=
  recipeLength_of (takeLidState_outline _ _ s) m
@[simp] theorem manualSpeed_recipeLength (n : StationId) (v : Nat) (dir : Direction) (s : State) (m : StationId) :
    ((manualSpeed n v dir s).st m).recipeLength = (s.st m).recipeLength :=
  recipeLength_of (manualSpeed_outline _ _ _ s) m
@[simp] theorem manualHeat_recipeLength (n : StationId) (w : Nat) (s : State) (m : StationId) :
    ((manualHeat n w s).st m).recipeLength = (s.st m).recipeLength :=
  recipeLength_of (manualHeat_outline _ _ s) m
@[simp] theorem manualLid_recipeLength (n : StationId) (c : LidCmd) (s : State) (m : StationId) :
    ((manualLid n c s).st m).recipeLength = (s.st m).recipeLength :=
  recipeLength_of (manualLid_outline _ _ s) m
@[simp] theorem weighSilence_recipeLength (n : StationId) (s : State) (m : StationId) :
    ((weighSilence n s).st m).recipeLength = (s.st m).recipeLength :=
  recipeLength_of (weighSilence_outline _ s) m
@[simp] theorem thermoSilence_recipeLength (n : StationId) (s : State) (m : StationId) :
    ((thermoSilence n s).st m).recipeLength = (s.st m).recipeLength :=
  recipeLength_of (thermoSilence_outline _ s) m
@[simp] theorem heaterSilence_recipeLength (n : StationId) (s : State) (m : StationId) :
    ((heaterSilence n s).st m).recipeLength = (s.st m).recipeLength :=
  recipeLength_of (heaterSilence_outline _ s) m
@[simp] theorem driveSilence_recipeLength (n : StationId) (s : State) (m : StationId) :
    ((driveSilence n s).st m).recipeLength = (s.st m).recipeLength :=
  recipeLength_of (driveSilence_outline _ s) m
@[simp] theorem lidSilence_recipeLength (n : StationId) (s : State) (m : StationId) :
    ((lidSilence n s).st m).recipeLength = (s.st m).recipeLength :=
  recipeLength_of (lidSilence_outline _ s) m
@[simp] theorem roleSilent_recipeLength (n : StationId) (r : Role) (s : State) (m : StationId) :
    ((roleSilent n r s).st m).recipeLength = (s.st m).recipeLength :=
  recipeLength_of (roleSilent_outline _ _ s) m
@[simp] theorem roleHeard_recipeLength (n : StationId) (r : Role) (s : State) (m : StationId) :
    ((roleHeard n r s).st m).recipeLength = (s.st m).recipeLength :=
  recipeLength_of (roleHeard_outline _ _ s) m
@[simp] theorem isolateStation_recipeLength (n : StationId) (s : State) (m : StationId) :
    ((isolateStation n s).st m).recipeLength = (s.st m).recipeLength :=
  recipeLength_of (isolateStation_outline _ s) m
@[simp] theorem refreshLid_recipeLength (n : StationId) (s : State) (m : StationId) :
    ((refreshLid n s).st m).recipeLength = (s.st m).recipeLength :=
  recipeLength_of (refreshLid_outline _ s) m
@[simp] theorem sendWeightReport_recipeLength (n : StationId) (s : State) (m : StationId) :
    ((sendWeightReport n s).st m).recipeLength = (s.st m).recipeLength :=
  recipeLength_of (sendWeightReport_outline _ s) m
@[simp] theorem discardUnsent_recipeLength (k : OwnKind) (s : State) (m : StationId) :
    ((discardUnsent k s).st m).recipeLength = (s.st m).recipeLength :=
  recipeLength_of (discardUnsent_outline _ s) m
@[simp] theorem forgetRoles_recipeLength (n : StationId) (old new : Binding) (s : State) (m : StationId) :
    ((forgetRoles n old new s).st m).recipeLength = (s.st m).recipeLength :=
  recipeLength_of (forgetRoles_outline _ _ _ s) m
@[simp] theorem followBinding_recipeLength (n : StationId) (old new : Binding) (s : State) (m : StationId) :
    ((followBinding n old new s).st m).recipeLength = (s.st m).recipeLength :=
  recipeLength_of (followBinding_outline _ _ _ s) m
@[simp] theorem setBudget_recipeLength (w : Nat) (s : State) (m : StationId) :
    ((setBudget w s).st m).recipeLength = (s.st m).recipeLength :=
  recipeLength_of (setBudget_outline _ s) m
@[simp] theorem startStation_recipeLength (n : StationId) (first : Nat) (s : State) (m : StationId) :
    ((startStation n first s).st m).recipeLength = (s.st m).recipeLength :=
  recipeLength_of (startStation_outline _ _ s) m
@[simp] theorem resumeLocking_recipeLength (n : StationId) (s : State) (m : StationId) :
    ((resumeLocking n s).st m).recipeLength = (s.st m).recipeLength :=
  recipeLength_of (resumeLocking_outline _ s) m
@[simp] theorem resumePhase_recipeLength (n : StationId) (s : State) (m : StationId) :
    ((resumePhase n s).st m).recipeLength = (s.st m).recipeLength :=
  recipeLength_of (resumePhase_outline _ s) m
@[simp] theorem resumeStation_recipeLength (n : StationId) (s : State) (m : StationId) :
    ((resumeStation n s).st m).recipeLength = (s.st m).recipeLength :=
  recipeLength_of (resumeStation_outline _ s) m
@[simp] theorem adjustHeat_recipeLength (n : StationId) (before : Option Int) (a : Adjustment) (s : State) (m : StationId) :
    ((adjustHeat n before a s).st m).recipeLength = (s.st m).recipeLength :=
  recipeLength_of (adjustHeat_outline _ _ _ s) m
@[simp] theorem adjustStation_recipeLength (n : StationId) (a : Adjustment) (s : State) (m : StationId) :
    ((adjustStation n a s).st m).recipeLength = (s.st m).recipeLength :=
  recipeLength_of (adjustStation_outline _ _ s) m
@[simp] theorem startCapture_recipeLength (n : StationId) (op : WeighOp) (mass : Option Int) (s : State) (m : StationId) :
    ((startCapture n op mass s).st m).recipeLength = (s.st m).recipeLength :=
  recipeLength_of (startCapture_outline _ _ _ s) m
@[simp] theorem enableNotices_recipeLength (en : BitVec 16) (s : State) (m : StationId) :
    ((enableNotices en s).st m).recipeLength = (s.st m).recipeLength :=
  recipeLength_of (enableNotices_outline _ s) m

/-! ### `health` -/

@[simp] theorem countPort_health (p : Port) (c : PortCounter) (s : State) (p0 : Port) :
    ((countPort p c s).port p0).health = (s.port p0).health :=
  health_of (countPort_outline _ _ s) p0
@[simp] theorem countStation_health (n : StationId) (c : StationCounter) (s : State) (p0 : Port) :
    ((countStation n c s).port p0).health = (s.port p0).health :=
  health_of (countStation_outline _ _ s) p0
@[simp] theorem updateDropMode_health (p : Port) (s : State) (p0 : Port) :
    ((updateDropMode p s).port p0).health = (s.port p0).health :=
  health_of (updateDropMode_outline _ s) p0
@[simp] theorem updateDropModes_health (s : State) (p0 : Port) :
    ((updateDropModes s).port p0).health = (s.port p0).health :=
  health_of (updateDropModes_outline s) p0
@[simp] theorem originate_health (k : OwnKind) (dest : NodeId) (payload : List Byte) (s : State) (p0 : Port) :
    ((originate k dest payload s).port p0).health = (s.port p0).health :=
  health_of (originate_outline _ _ _ s) p0
@[simp] theorem originateNotice_health (s : State) (p0 : Port) :
    ((originateNotice s).port p0).health = (s.port p0).health :=
  health_of (originateNotice_outline s) p0
@[simp] theorem setNotice_health (b : NoticeBit) (s : State) (p0 : Port) :
    ((setNotice b s).port p0).health = (s.port p0).health :=
  health_of (setNotice_outline _ s) p0
@[simp] theorem sendHeatSet_health (n : StationId) (s : State) (p0 : Port) :
    ((sendHeatSet n s).port p0).health = (s.port p0).health :=
  health_of (sendHeatSet_outline _ s) p0
@[simp] theorem testGrant_health (n : StationId) (s : State) (p0 : Port) :
    ((testGrant n s).port p0).health = (s.port p0).health :=
  health_of (testGrant_outline _ s) p0
@[simp] theorem recomputeArbiter_health (s : State) (p0 : Port) :
    ((recomputeArbiter s).port p0).health = (s.port p0).health :=
  health_of (recomputeArbiter_outline s) p0
@[simp] theorem followDemand_health (n : StationId) (s : State) (p0 : Port) :
    ((followDemand n s).port p0).health = (s.port p0).health :=
  health_of (followDemand_outline _ s) p0
@[simp] theorem setDemand_health (n : StationId) (d : Nat) (s : State) (p0 : Port) :
    ((setDemand n d s).port p0).health = (s.port p0).health :=
  health_of (setDemand_outline _ _ s) p0
@[simp] theorem setDraw_health (n : StationId) (w : Nat) (s : State) (p0 : Port) :
    ((setDraw n w s).port p0).health = (s.port p0).health :=
  health_of (setDraw_outline _ _ s) p0
@[simp] theorem sendLidSet_health (n : StationId) (c : LidCmd) (s : State) (p0 : Port) :
    ((sendLidSet n c s).port p0).health = (s.port p0).health :=
  health_of (sendLidSet_outline _ _ s) p0
@[simp] theorem lockLid_health (n : StationId) (s : State) (p0 : Port) :
    ((lockLid n s).port p0).health = (s.port p0).health :=
  health_of (lockLid_outline _ s) p0
@[simp] theorem testUnlock_health (n : StationId) (s : State) (p0 : Port) :
    ((testUnlock n s).port p0).health = (s.port p0).health :=
  health_of (testUnlock_outline _ s) p0
@[simp] theorem askUnlock_health (n : StationId) (s : State) (p0 : Port) :
    ((askUnlock n s).port p0).health = (s.port p0).health :=
  health_of (askUnlock_outline _ s) p0
@[simp] theorem sendSpeedSet_health (n : StationId) (s : State) (p0 : Port) :
    ((sendSpeedSet n s).port p0).health = (s.port p0).health :=
  health_of (sendSpeedSet_outline _ s) p0
@[simp] theorem recomputeDrive_health (n : StationId) (s : State) (p0 : Port) :
    ((recomputeDrive n s).port p0).health = (s.port p0).health :=
  health_of (recomputeDrive_outline _ s) p0
@[simp] theorem recomputeEnvelope_health (n : StationId) (s : State) (p0 : Port) :
    ((recomputeEnvelope n s).port p0).health = (s.port p0).health :=
  health_of (recomputeEnvelope_outline _ s) p0
@[simp] theorem dropManualSpeed_health (n : StationId) (s : State) (p0 : Port) :
    ((dropManualSpeed n s).port p0).health = (s.port p0).health :=
  health_of (dropManualSpeed_outline _ s) p0
@[simp] theorem retestReached_health (n : StationId) (s : State) (p0 : Port) :
    ((retestReached n s).port p0).health = (s.port p0).health :=
  health_of (retestReached_outline _ s) p0
@[simp] theorem adoptTarget_health (n : StationId) (rule : Adoption) (inSample : Bool) (s : State) (p0 : Port) :
    ((adoptTarget n rule inSample s).port p0).health = (s.port p0).health :=
  health_of (adoptTarget_outline _ _ _ s) p0
@[simp] theorem stateChanged_health (n : StationId) (rule : Adoption) (inSample : Bool) (s : State) (p0 : Port) :
    ((stateChanged n rule inSample s).port p0).health = (s.port p0).health :=
  health_of (stateChanged_outline _ _ _ s) p0
@[simp] theorem followManualHeat_health (n : StationId) (s : State) (p0 : Port) :
    ((followManualHeat n s).port p0).health = (s.port p0).health :=
  health_of (followManualHeat_outline _ s) p0
@[simp] theorem dropManualHeat_health (n : StationId) (s : State) (p0 : Port) :
    ((dropManualHeat n s).port p0).health = (s.port p0).health :=
  health_of (dropManualHeat_outline _ s) p0
@[simp] theorem originateStepReport_health (n : StationId) (r : StepReport) (s : State) (p0 : Port) :
    ((originateStepReport n r s).port p0).health = (s.port p0).health :=
  health_of (originateStepReport_outline _ _ s) p0
@[simp] theorem endStep_health (n : StationId) (o : StepOutcome) (s : State) (p0 : Port) :
    ((endStep n o s).port p0).health = (s.port p0).health :=
  health_of (endStep_outline _ _ s) p0
@[simp] theorem furtherFault_health (n : StationId) (s : State) (p0 : Port) :
    ((furtherFault n s).port p0).health = (s.port p0).health :=
  health_of (furtherFault_outline _ s) p0
@[simp] theorem enterFault_health (n : StationId) (c : FaultCause) (further : Nat) (inSample : Bool) (s : State) (p0 : Port) :
    ((enterFault n c further inSample s).port p0).health = (s.port p0).health :=
  health_of (enterFault_outline _ _ _ _ s) p0
@[simp] theorem raiseCause_health (n : StationId) (c : FaultCause) (carried : Bool) (s : State) (p0 : Port) :
    ((raiseCause n c carried s).port p0).health = (s.port p0).health :=
  health_of (raiseCause_outline _ _ _ s) p0
@[simp] theorem raiseSilence_health (n : StationId) (c : FaultCause) (faults : Bool) (s : State) (p0 : Port) :
    ((raiseSilence n c faults s).port p0).health = (s.port p0).health :=
  health_of (raiseSilence_outline _ _ _ s) p0
@[simp] theorem enterActive_health (n : StationId) (rule : Adoption) (inSample : Bool) (s : State) (p0 : Port) :
    ((enterActive n rule inSample s).port p0).health = (s.port p0).health :=
  health_of (enterActive_outline _ _ _ s) p0
@[simp] theorem enterBasing_health (n : StationId) (rule : Adoption) (inSample : Bool) (s : State) (p0 : Port) :
    ((enterBasing n rule inSample s).port p0).health = (s.port p0).health :=
  health_of (enterBasing_outline _ _ _ s) p0
@[simp] theorem leaveLocking_health (n : StationId) (rule : Adoption) (inSample : Bool) (s : State) (p0 : Port) :
    ((leaveLocking n rule inSample s).port p0).health = (s.port p0).health :=
  health_of (leaveLocking_outline _ _ _ s) p0
@[simp] theorem actOnLid_health (n : StationId) (s : State) (p0 : Port) :
    ((actOnLid n s).port p0).health = (s.port p0).health :=
  health_of (actOnLid_outline _ s) p0
@[simp] theorem enterLocking_health (n : StationId) (after : Phase) (rule : Adoption) (inSample : Bool) (s : State) (p0 : Port) :
    ((enterLocking n after rule inSample s).port p0).health = (s.port p0).health :=
  health_of (enterLocking_outline _ _ _ _ s) p0
@[simp] theorem leaveBasing_health (n : StationId) (s : State) (p0 : Port) :
    ((leaveBasing n s).port p0).health = (s.port p0).health :=
  health_of (leaveBasing_outline _ s) p0
@[simp] theorem enterStep_health (n : StationId) (i : Nat) (old : Option Int) (inSample : Bool) (s : State) (p0 : Port) :
    ((enterStep n i old inSample s).port p0).health = (s.port p0).health :=
  health_of (enterStep_outline _ _ _ _ s) p0
@[simp] theorem enterIdle_health (n : StationId) (unlock inSample : Bool) (s : State) (p0 : Port) :
    ((enterIdle n unlock inSample s).port p0).health = (s.port p0).health :=
  health_of (enterIdle_outline _ _ _ s) p0
@[simp] theorem enterWarming_health (n : StationId) (old : Option Int) (inSample : Bool) (s : State) (p0 : Port) :
    ((enterWarming n old inSample s).port p0).health = (s.port p0).health :=
  health_of (enterWarming_outline _ _ _ s) p0
@[simp] theorem endRecipe_health (n : StationId) (rec : StepRecord) (old : Option Int) (inSample : Bool) (s : State) (p0 : Port) :
    ((endRecipe n rec old inSample s).port p0).health = (s.port p0).health :=
  health_of (endRecipe_outline _ _ _ _ s) p0
@[simp] theorem finishStep_health (n : StationId) (o : StepOutcome) (inSample : Bool) (s : State) (p0 : Port) :
    ((finishStep n o inSample s).port p0).health = (s.port p0).health :=
  health_of (finishStep_outline _ _ _ s) p0
@[simp] theorem pauseStation_health (n : StationId) (why : PauseReason) (s : State) (p0 : Port) :
    ((pauseStation n why s).port p0).health = (s.port p0).health :=
  health_of (pauseStation_outline _ _ s) p0
@[simp] theorem endOp_health (n : StationId) (o : OpOutcome) (s : State) (p0 : Port) :
    ((endOp n o s).port p0).health = (s.port p0).health :=
  health_of (endOp_outline _ _ s) p0
@[simp] theorem changeTare_health (n : StationId) (t : Int) (s : State) (p0 : Port) :
    ((changeTare n t s).port p0).health = (s.port p0).health :=
  health_of (changeTare_outline _ _ s) p0
@[simp] theorem weighStep_health (n : StationId) (s : State) (p0 : Port) :
    ((weighStep n s).port p0).health = (s.port p0).health :=
  health_of (weighStep_outline _ s) p0
@[simp] theorem completeZero_health (n : StationId) (s : State) (p0 : Port) :
    ((completeZero n s).port p0).health = (s.port p0).health :=
  health_of (completeZero_outline _ s) p0
@[simp] theorem completeCalibrate_health (n : StationId) (s : State) (p0 : Port) :
    ((completeCalibrate n s).port p0).health = (s.port p0).health :=
  health_of (completeCalibrate_outline _ s) p0
@[simp] theorem advanceOp_health (n : StationId) (x : WeighSample) (s : State) (p0 : Port) :
    ((advanceOp n x s).port p0).health = (s.port p0).health :=
  health_of (advanceOp_outline _ _ s) p0
@[simp] theorem acceptSample_health (n : StationId) (x : WeighSample) (s : State) (p0 : Port) :
    ((acceptSample n x s).port p0).health = (s.port p0).health :=
  health_of (acceptSample_outline _ _ s) p0
@[simp] theorem takeWeighSample_health (n : StationId) (x : WeighSample) (s : State) (p0 : Port) :
    ((takeWeighSample n x s).port p0).health = (s.port p0).health :=
  health_of (takeWeighSample_outline _ _ s) p0
@[simp] theorem thermoFaults_health (n : StationId) (t : Int) (fault : Bool) (before : HeatContext) (s : State) (p0 : Port) :
    ((thermoFaults n t fault before s).port p0).health = (s.port p0).health :=
  health_of (thermoFaults_outline _ _ _ _ s) p0
@[simp] theorem tempStep_health (n : StationId) (t : Int) (s : State) (p0 : Port) :
    ((tempStep n t s).port p0).health = (s.port p0).health :=
  health_of (tempStep_outline _ _ s) p0
@[simp] theorem thermoDemand_health (n : StationId) (t : Int) (grant demand : Nat) (s : State) (p0 : Port) :
    ((thermoDemand n t grant demand s).port p0).health = (s.port p0).health :=
  health_of (thermoDemand_outline _ _ _ _ s) p0
@[simp] theorem takeThermoSample_health (n : StationId) (t : Int) (fault : Bool) (s : State) (p0 : Port) :
    ((takeThermoSample n t fault s).port p0).health = (s.port p0).health :=
  health_of (takeThermoSample_outline _ _ _ s) p0
@[simp] theorem takeHeatState_health (n : StationId) (r : HeatReport) (s : State) (p0 : Port) :
    ((takeHeatState n r s).port p0).health = (s.port p0).health :=
  health_of (takeHeatState_outline _ _ s) p0
@[simp] theorem takeDriveState_health (n : StationId) (r : DriveReport) (s : State) (p0 : Port) :
    ((takeDriveState n r s).port p0).health = (s.port p0).health :=
  health_of (takeDriveState_outline _ _ s) p0
@[simp] theorem takeLidState_health (n : StationId) (r : LidReport) (s : State) (p0 : Port) :
    ((takeLidState n r s).port p0).health = (s.port p0).health :=
  health_of (takeLidState_outline _ _ s) p0
@[simp] theorem manualSpeed_health (n : StationId) (v : Nat) (dir : Direction) (s : State) (p0 : Port) :
    ((manualSpeed n v dir s).port p0).health = (s.port p0).health :=
  health_of (manualSpeed_outline _ _ _ s) p0
@[simp] theorem manualHeat_health (n : StationId) (w : Nat) (s : State) (p0 : Port) :
    ((manualHeat n w s).port p0).health = (s.port p0).health :=
  health_of (manualHeat_outline _ _ s) p0
@[simp] theorem manualLid_health (n : StationId) (c : LidCmd) (s : State) (p0 : Port) :
    ((manualLid n c s).port p0).health = (s.port p0).health :=
  health_of (manualLid_outline _ _ s) p0
@[simp] theorem weighSilence_health (n : StationId) (s : State) (p0 : Port) :
    ((weighSilence n s).port p0).health = (s.port p0).health :=
  health_of (weighSilence_outline _ s) p0
@[simp] theorem thermoSilence_health (n : StationId) (s : State) (p0 : Port) :
    ((thermoSilence n s).port p0).health = (s.port p0).health :=
  health_of (thermoSilence_outline _ s) p0
@[simp] theorem heaterSilence_health (n : StationId) (s : State) (p0 : Port) :
    ((heaterSilence n s).port p0).health = (s.port p0).health :=
  health_of (heaterSilence_outline _ s) p0
@[simp] theorem driveSilence_health (n : StationId) (s : State) (p0 : Port) :
    ((driveSilence n s).port p0).health = (s.port p0).health :=
  health_of (driveSilence_outline _ s) p0
@[simp] theorem lidSilence_health (n : StationId) (s : State) (p0 : Port) :
    ((lidSilence n s).port p0).health = (s.port p0).health :=
  health_of (lidSilence_outline _ s) p0
@[simp] theorem roleSilent_health (n : StationId) (r : Role) (s : State) (p0 : Port) :
    ((roleSilent n r s).port p0).health = (s.port p0).health :=
  health_of (roleSilent_outline _ _ s) p0
@[simp] theorem roleHeard_health (n : StationId) (r : Role) (s : State) (p0 : Port) :
    ((roleHeard n r s).port p0).health = (s.port p0).health :=
  health_of (roleHeard_outline _ _ s) p0
@[simp] theorem isolateStation_health (n : StationId) (s : State) (p0 : Port) :
    ((isolateStation n s).port p0).health = (s.port p0).health :=
  health_of (isolateStation_outline _ s) p0
@[simp] theorem refreshLid_health (n : StationId) (s : State) (p0 : Port) :
    ((refreshLid n s).port p0).health = (s.port p0).health :=
  health_of (refreshLid_outline _ s) p0
@[simp] theorem sendWeightReport_health (n : StationId) (s : State) (p0 : Port) :
    ((sendWeightReport n s).port p0).health = (s.port p0).health :=
  health_of (sendWeightReport_outline _ s) p0
@[simp] theorem discardUnsent_health (k : OwnKind) (s : State) (p0 : Port) :
    ((discardUnsent k s).port p0).health = (s.port p0).health :=
  health_of (discardUnsent_outline _ s) p0
@[simp] theorem forgetRoles_health (n : StationId) (old new : Binding) (s : State) (p0 : Port) :
    ((forgetRoles n old new s).port p0).health = (s.port p0).health :=
  health_of (forgetRoles_outline _ _ _ s) p0
@[simp] theorem followBinding_health (n : StationId) (old new : Binding) (s : State) (p0 : Port) :
    ((followBinding n old new s).port p0).health = (s.port p0).health :=
  health_of (followBinding_outline _ _ _ s) p0
@[simp] theorem setBudget_health (w : Nat) (s : State) (p0 : Port) :
    ((setBudget w s).port p0).health = (s.port p0).health :=
  health_of (setBudget_outline _ s) p0
@[simp] theorem startStation_health (n : StationId) (first : Nat) (s : State) (p0 : Port) :
    ((startStation n first s).port p0).health = (s.port p0).health :=
  health_of (startStation_outline _ _ s) p0
@[simp] theorem resumeLocking_health (n : StationId) (s : State) (p0 : Port) :
    ((resumeLocking n s).port p0).health = (s.port p0).health :=
  health_of (resumeLocking_outline _ s) p0
@[simp] theorem resumePhase_health (n : StationId) (s : State) (p0 : Port) :
    ((resumePhase n s).port p0).health = (s.port p0).health :=
  health_of (resumePhase_outline _ s) p0
@[simp] theorem resumeStation_health (n : StationId) (s : State) (p0 : Port) :
    ((resumeStation n s).port p0).health = (s.port p0).health :=
  health_of (resumeStation_outline _ s) p0
@[simp] theorem adjustHeat_health (n : StationId) (before : Option Int) (a : Adjustment) (s : State) (p0 : Port) :
    ((adjustHeat n before a s).port p0).health = (s.port p0).health :=
  health_of (adjustHeat_outline _ _ _ s) p0
@[simp] theorem adjustStation_health (n : StationId) (a : Adjustment) (s : State) (p0 : Port) :
    ((adjustStation n a s).port p0).health = (s.port p0).health :=
  health_of (adjustStation_outline _ _ s) p0
@[simp] theorem startCapture_health (n : StationId) (op : WeighOp) (mass : Option Int) (s : State) (p0 : Port) :
    ((startCapture n op mass s).port p0).health = (s.port p0).health :=
  health_of (startCapture_outline _ _ _ s) p0
@[simp] theorem enableNotices_health (en : BitVec 16) (s : State) (p0 : Port) :
    ((enableNotices en s).port p0).health = (s.port p0).health :=
  health_of (enableNotices_outline _ s) p0

end Sys2Proof.Machine
end

