-- ==== Sys2Proof/Laws/Links.lean ====
section
/-! SUPPORT. What each operation of the link ports does to a port outside its queues, drop mode and counters (chapter 9): a
change of health, an error, recovery; and what the credits of a transmission do. -/

namespace Sys2Proof.Machine

open Sys2Proof

/-! ### Credits (R163, R180) -/

@[simp] theorem spendCredit_activity (c : QClass) (q : PortState) : (spendCredit c q).activity = q.activity := by
  cases c <;> rfl
@[simp] theorem spendCredit_health (c : QClass) (q : PortState) : (spendCredit c q).health = q.health := by cases c <;> rfl
@[simp] theorem spendCredit_queue (c d : QClass) (q : PortState) : (spendCredit c q).queue d = q.queue d := by
  cases c <;> cases d <;> rfl
@[simp] theorem unspendCredit_activity (c : QClass) (q : PortState) : (unspendCredit c q).activity = q.activity := by
  unfold unspendCredit; split <;> cases c <;> rfl
@[simp] theorem unspendCredit_health (c : QClass) (q : PortState) : (unspendCredit c q).health = q.health := by
  unfold unspendCredit; split <;> cases c <;> rfl
@[simp] theorem unspendCredit_queue (c d : QClass) (q : PortState) : (unspendCredit c q).queue d = q.queue d := by
  unfold unspendCredit; split <;> cases c <;> cases d <;> rfl

/-- A credit that was spent and given back leaves both credits as they were (R180). -/
theorem unspendCredit_spendCredit (c : QClass) (q : PortState) :
    (unspendCredit c (spendCredit c q)).creditControl = q.creditControl ∧
    (unspendCredit c (spendCredit c q)).creditBulk = q.creditBulk := by
  cases c
  · exact ⟨rfl, rfl⟩
  · by_cases h : 0 < q.creditControl
    · simp [spendCredit, unspendCredit, h]; omega
    · simp [spendCredit, unspendCredit, h]; omega
  · by_cases h : 0 < q.creditBulk
    · simp [spendCredit, unspendCredit, h]; omega
    · simp [spendCredit, unspendCredit, h]; omega

/-! ### Health, errors and recovery -/

/-- Two states of one outline keep one outline under a port change that does not read or write what an outline leaves out. -/
theorem outline_modPort_of {s t : State} {f : PortState → PortState} (p : Port)
    (hf : ∀ q, (f q).outline = (f q.outline).outline) (h : t.outline = s.outline) :
    (t.modPort p f).outline = (s.modPort p f).outline := by
  have hc := congrArg State.control h
  have ha := congrArg State.appliance h
  have hc' : t.control.outline = s.control.outline := hc
  have ha' : t.appliance.outline = s.appliance.outline := ha
  cases p
  · have : (f t.control).outline = (f s.control).outline := by rw [hf t.control, hf s.control, hc']
    calc (t.modPort .control f).outline = { t.outline with control := (f t.control).outline } := rfl
      _ = _ := by rw [h, this]; rfl
  · have : (f t.appliance).outline = (f s.appliance).outline := by rw [hf t.appliance, hf s.appliance, ha']
    calc (t.modPort .appliance f).outline = { t.outline with appliance := (f t.appliance).outline } := rfl
      _ = _ := by rw [h, this]; rfl

/-- A change of health writes the health, and beyond it only the notice set and what a NOTICE takes (R176). -/
theorem setHealth_outline (p : Port) (h : Health) (s : State) :
    (setHealth p h s).outline = (s.modPort p (fun q => { q with health := h })).outline := by
  unfold setHealth
  split
  · next e =>
    have : s.modPort p (fun q => { q with health := h }) = s := by cases p <;> cases e <;> rfl
    rw [this]
  · simp

@[simp] theorem setHealth_health (p : Port) (h : Health) (s : State) : ((setHealth p h s).port p).health = h := by
  rw [health_of (setHealth_outline p h s)]; simp

/-- Leaving ISOLATED serves what waited and keeps the outline (R129, R188). -/
@[simp] theorem leftIsolation_outline (p : Port) (s : State) : (leftIsolation p s).outline = s.outline := by
  unfold leftIsolation
  cases p
  · dsimp only; split <;> simp
  · simp

/-- Recovery leaves a port JOINING with its counts and progress at 0 and no frame under way (R177, R179). -/
theorem recoverPort_outline (p : Port) (s : State) :
    (recoverPort p s).outline = (s.modPort p (fun q => { q with
      health := .joining, tx := 0, rx := 0, idleBits := 0, goodFrames := 0, activity := .idle, voided := false })).outline := by
  unfold recoverPort
  rw [leftIsolation_outline, setHealth_outline]
  cases p <;> rfl

/-- The health that follows the counts (R176): unchanged while JOINING or ISOLATED. -/
def PortState.followed (q : PortState) : Health :=
  match q.health with
  | .active => healthOf q.tx q.rx
  | .passive => healthOf q.tx q.rx
  | h => h

/-- Following the counts writes the health alone (R176). -/
theorem followCounts_outline (p : Port) (s : State) :
    (followCounts p s).outline = (s.modPort p (fun q => { q with health := q.followed })).outline := by
  unfold followCounts
  split
  · next e => rw [setHealth_outline]; cases p <;> simp_all [State.modPort, State.port, PortState.followed]
  · next e => rw [setHealth_outline]; cases p <;> simp_all [State.modPort, State.port, PortState.followed]
  · next e1 e2 =>
    have : s.modPort p (fun q => { q with health := q.followed }) = s := by
      cases p <;> simp only [State.modPort, State.port] at * <;> unfold PortState.followed <;> split <;> simp_all
    rw [this]

/-- A receive error (R171, R173, R175): the frame under way is voided and marked by the health the port had, and the health
follows the count it raises. -/
theorem receiveErrorAt_outline (p : Port) (error : RxError) (s : State) (q : PortState) (hq : q = { s.port p with
      activity := .idle, wasTransmitter := false, voided := true, errorMark := markOf (s.port p).health
      acknowledged := RxError.afterWindow error && acknowledges (s.port p).health, rx := rxUp (s.port p).rx }) :
    (receiveErrorAt p error s).outline = (s.modPort p (fun _ => { q with health := q.followed })).outline := by
  subst hq
  unfold receiveErrorAt
  rw [followCounts_outline]
  refine (outline_modPort_of p (fun q => rfl) (countPort_outline p _ _)).trans ?_
  cases p <;> rfl

/-- A port that may recover is ISOLATED, in QUIET mode or with the 64 good frames of COUNT (R179). -/
theorem mayRecover_iff (q : PortState) : q.mayRecover = true ↔
    q.health = .isolated ∧ (q.cfg.recovery = .count → 64 ≤ q.goodFrames) := by
  cases hr : q.cfg.recovery
  · simp [PortState.mayRecover, hr]
  · simp only [PortState.mayRecover, PortState.measureMet, hr, Bool.and_eq_true, beq_iff_eq, Bool.or_eq_true,
      decide_eq_true_eq, true_implies]
    simp [Config.countFrames]

end Sys2Proof.Machine
end

