-- ==== Sys2Proof/Laws/Requests.lean ====
section
/-! SUPPORT. What serving a request can do (R182, R183), and what the reply leaves alone: a request at its turn is
answered, and out of its turn nothing happens. -/

namespace Sys2Proof.Machine

open Sys2Proof

/-- A request at the head of the queue takes its turn in the state as it stands. -/
theorem takeTurn_head {r : Request} {s : State} (h : s.inReset = false ∧ s.replyFree = true ∧ s.requests.head? = some r) :
    takeTurn r s = some s := by
  obtain ⟨h1, h2, h3⟩ := h
  unfold takeTurn
  cases hq : s.requests with
  | nil => simp [hq] at h3
  | cons a l => simp_all

/-- A request at the head is answered by its rule and leaves the queue. -/
theorem serve_head {r : Request} {s : State} (rule : State → State × Answer)
    (h : s.inReset = false ∧ s.replyFree = true ∧ s.requests.head? = some r) :
    serve r rule s = leaveQueue (sendReply r (rule s).2 (rule s).1) := by
  simp [serve, takeTurn_head h]

/-- The same for a code with two forms, away from the other form's length. -/
theorem serveForm_head {r : Request} {s : State} {other : Nat} (rule : State → State × Answer)
    (hl : r.args.length ≠ other)
    (h : s.inReset = false ∧ s.replyFree = true ∧ s.requests.head? = some r) :
    serveForm other r rule s = leaveQueue (sendReply r (rule s).2 (rule s).1) := by
  simp [serveForm, hl, serve_head rule h]

/-- A command whose meaning serves its own request answers what its rule gives. -/
theorem answers_of_rule {c : Instr} {s t : State} {a : Answer} (rule : State → State × Answer) (h : AtHead c s)
    (hc : exec c s = .next (serve (commandRequest c) rule s)) (hr : rule s = (t, a)) : Answers c s a t := by
  unfold Answers
  rw [hc, serve_head rule h, hr]

/-- The same for a command that shares its code with another form. -/
theorem answers_of_form {c : Instr} {s t : State} {a : Answer} {other : Nat} (rule : State → State × Answer)
    (h : AtHead c s) (hc : exec c s = .next (serveForm other (commandRequest c) rule s))
    (hl : (commandRequest c).args.length ≠ other) (hr : rule s = (t, a)) : Answers c s a t := by
  unfold Answers
  rw [hc, serveForm_head rule hl h, hr]

/-- A request that does not stand at the head of a filled queue has no turn. -/
theorem takeTurn_other {r q : Request} {l : List Request} {s : State} (h : s.requests = q :: l) (hne : q ≠ r) :
    takeTurn r s = none := by
  simp [takeTurn, h, hne]

/-- No request has a turn while no reply buffer is free, or in reset. -/
theorem takeTurn_blocked {r : Request} {s : State} (h : s.inReset = true ∨ s.replyFree = false) :
    takeTurn r s = none := by
  rcases h with h | h <;> simp [takeTurn, h]

@[simp] theorem sendReply_outline (r : Request) (a : Answer) (s : State) : (sendReply r a s).outline = s.outline := by
  simp [sendReply]

@[simp] theorem sendReply_st (r : Request) (a : Answer) (s : State) (m : StationId) : (sendReply r a s).st m = s.st m := by
  simp [sendReply]

@[simp] theorem sendReply_notices (r : Request) (a : Answer) (s : State) : (sendReply r a s).notices = s.notices := by
  simp [sendReply]

@[simp] theorem sendReply_arbiter (r : Request) (a : Answer) (s : State) : (sendReply r a s).arbiter = s.arbiter := by
  simp [sendReply]

@[simp] theorem leaveQueue_st (s : State) (m : StationId) : (leaveQueue s).st m = s.st m := by
  cases m <;> rfl

@[simp] theorem leaveQueue_port (s : State) (p : Port) : (leaveQueue s).port p = s.port p := by
  cases p <;> rfl

end Sys2Proof.Machine
end

