-- ==== Sys2Proof/Tests/Slice0.lean ====
section
/-! SUPPORT. Tests: the checks of WellFormed refuse an ill-formed command each; for every statement with hypotheses a concrete
state that meets them, with what the command then does; and worked figures of the spec. Each is one command on a small state. -/

namespace Sys2Proof.Machine

open Sys2Proof

set_option Elab.async false

/-! ### The states the tests use -/

/-- Nodes 1 to 10 STATIC on the appliance port with a silence limit of 100 ms, 20 and 21 LEARNED on the control port. -/
def tNode (i : Nat) : Option NodeEntry :=
  if i < 10 then some ⟨BitVec.ofNat 5 (i + 1), .appliance, .static, 0, 100, false⟩
  else if i < 12 then some ⟨BitVec.ofNat 5 (i + 10), .control, .learned, 0, 0, false⟩
  else none

/-- Both ports ACTIVE and quiet, station 0 bound to nodes 1 to 5 and station 1 to nodes 6 to 10. -/
def tLive : State :=
  { State.blank 27 with
    control := { health := .active }
    appliance := { cfg := applianceConfig, health := .active }
    nodes := Vector.ofFn (fun i : Fin 16 => tNode i.val)
    station0 := { binding := ⟨some 1, some 2, some 3, some 4, some 5⟩ }
    station1 := { binding := ⟨some 6, some 7, some 8, some 9, some 10⟩ } }

/-- A live state with station 0 changed. -/
def tSt (f : Station → Station) : State := tLive.modSt .zero f

/-- A live state with the run context of station 0 changed. -/
def tRun (f : RunContext → RunContext) : State := tLive.modRun .zero f

/-- A live state in which station 0 runs step 0, with this record and phase, in a recipe of two steps. -/
def tStep (r : StepRecord) (p : Phase) : State :=
  tSt (fun st => { st with
    steps := (st.steps.setIfInBounds 0 (some r)).setIfInBounds 1 (some { endConfirm := true })
    recipeLength := 2
    run := { st.run with
      state := .running, phase := some p, step := some 0, reversal := some .fwd
      effLimit := some (effectiveLimit r 0) } })

/-- The same with the lid of station 0 reported closed and locked. -/
def tShut (s : State) : State := s.modDrive .zero (fun d => { d with lidReport := some ⟨true, true⟩ })

/-- A node's entry marked silent. -/
def tMute (k : Nat) (s : State) : State :=
  { s with nodes := s.nodes.map (fun o => o.map (fun e => if e.number.toNat = k then { e with silent := true } else e)) }

/-- The command's request alone at the head of the queue. -/
def tHead (c : Instr) (s : State) : State := { s with requests := [commandRequest c] }

/-- The state after a command. -/
def tAfter (c : Instr) (s : State) : State :=
  match exec c s with
  | .next t => t
  | _ => s

/-- The state after a request at its turn. -/
def tServed (c : Instr) (s : State) : State := tAfter c (tHead c s)

/-- The request is at its turn, and its reply carries this status, detail and data. -/
def tReplies (c : Instr) (s : State) (bytes : List Nat) : Bool :=
  decide (AtHead c (tHead c s)) &&
  (match (tServed c s).control.control.getLast? with
    | some e => e.origin == .own .reply && e.frame.payload.drop 2 == bytes.map byteOf
    | none => false)

/-- The unsent frames of a kind as their destinations and payloads. -/
def tUnsent (k : OwnKind) (s : State) : List (NodeId × List Byte) :=
  (((s.port k.port).queue k.cls).filter (Queued.isKind k)).map (fun e => (e.frame.dest, e.frame.payload))

/-! ### WellFormed -/

/-- A payload of 17 bytes is no frame; 16 bytes are. -/
theorem test_frame_length :
    Frame.wellFormed ⟨0, 12, 0, 3, 0, 31, List.replicate 17 0⟩ = false ∧
    Frame.wellFormed ⟨0, 12, 0, 3, 0, 31, List.replicate 16 0⟩ = true := by decide

/-- The broadcast number sends no request; 15 argument bytes do not fit a frame; 14 do. -/
theorem test_request_shape :
    Instr.wellFormed (.lock 31 0 [0]) = false ∧ Instr.wellFormed (.lock 30 0 (List.replicate 15 0)) = false ∧
    Instr.wellFormed (.lock 30 0 (List.replicate 14 0)) = true := by decide

/-- A request of the other form's length belongs to the other row. -/
theorem test_two_forms :
    Instr.wellFormed (.nodeWrite 20 0 [1]) = false ∧ Instr.wellFormed (.nodeDelete 20 0 [1]) = true ∧
    Instr.wellFormed (.nodeDelete 20 0 [1, 2, 3, 4]) = false := by decide

/-- A code the part knows is no unknown code, and no node table entry has index 16. -/
theorem test_codes_and_indices :
    Instr.wellFormed (.unknownRequestCode 0x28 20 0 []) = false ∧
    Instr.wellFormed (.unknownRequestCode 0x46 20 0 []) = true ∧
    Instr.wellFormed (.agingRemoval 16) = false ∧ Instr.wellFormed (.agingRemoval 15) = true ∧
    Instr.wellFormed (.nodeBecomesSilent 16) = false ∧ Instr.wellFormed (.frameArrival .control
      ⟨0, 12, 0, 3, 0, 31, List.replicate 17 0⟩) = false := by decide

/-- The table gives no row any bits. -/
theorem test_table_words : decodeTableWord 8 0 = none ∧ decodeTableWord 8 255 = none := by decide

/-! ### Recipe tables -/

/-- Station 0 with its lock held by a node. -/
def tLocked (k : NodeId) : State := tSt (fun st => { st with lockHolder := some k })

/-- LOCK and UNLOCK in each of their cases (R14, R15). -/
theorem test_lock_unlock :
    tReplies (.lock 20 7 [2]) tLive [12, 255] ∧
    (tLive.nodeIndex 25 = none ∧ tReplies (.lock 25 7 [0]) tLive [6, 0]) ∧
    (tLive.nodeIndex 20 ≠ none ∧ tReplies (.lock 20 7 [0]) tLive [1, 20] ∧
      (tServed (.lock 20 7 [1]) tLive).station1.lockHolder = some 20) ∧
    tReplies (.lock 20 7 [0]) (tLocked 20) [1, 20] ∧ tReplies (.lock 20 7 [0]) (tLocked 21) [2, 21] ∧
    tReplies (.unlock 20 7 [255]) tLive [12, 255] ∧ tReplies (.unlock 20 7 [0]) (tLocked 20) [0, 0] ∧
    (tServed (.unlock 20 7 [0]) (tLocked 20)).station0.lockHolder = none ∧
    tReplies (.unlock 20 7 [0]) (tLocked 21) [5, 21] ∧ tReplies (.unlock 20 7 [0]) tLive [5, 255] := by
  decide +kernel

/-- A record at the upper bound of every field. -/
def tRecord : StepRecord :=
  { speed := 12000, mode := .alt, lock := true, keepWarm := true, reversal := 60, heat := 2000, dose := 65535
    duration := 65535, endTime := true, endWeight := true, endTemp := true, endConfirm := true, loopCount := 15
    loopTarget := 47 }

/-- The editing requests in each of their cases, at the last slot and the greatest length (R8 to R11). -/
theorem test_editing :
    tReplies (.stepWrite 20 7 (2 :: 47 :: tRecord.encode)) (tLocked 20) [12, 255] ∧
    tReplies (.stepWrite 20 7 (0 :: 47 :: tRecord.encode)) ((tLocked 20).modRun .zero (clearedRun .fault)) [4, 4] ∧
    tReplies (.stepWrite 20 7 (0 :: 47 :: tRecord.encode)) (tLocked 21) [5, 21] ∧
    tReplies (.recipeLength 20 7 [0, 48]) tLive [5, 255] ∧
    tReplies (.stepWrite 20 7 (0 :: 48 :: tRecord.encode)) (tLocked 20) [12, 0] ∧
    tReplies (.stepWrite 20 7 (0 :: 47 :: StepRecord.encode { loopTarget := 48 })) (tLocked 20) [12, 10] ∧
    (tReplies (.stepWrite 20 7 (0 :: 47 :: tRecord.encode)) (tLocked 20) [0, 0] ∧
      (tServed (.stepWrite 20 7 (0 :: 47 :: tRecord.encode)) (tLocked 20)).station0.steps[47] = some tRecord) ∧
    tReplies (.recipeLength 20 7 [0, 49]) (tLocked 20) [12, 0] ∧
    (tServed (.recipeLength 20 7 [0, 48]) (tLocked 20)).station0.recipeLength = 48 ∧
    (tReplies (.recipeClear 20 7 [0]) (tLocked 20) [0, 0]) := by
  decide +kernel

/-- STEP_READ of a filled and of an empty slot, of the first slot too high and of no station (R12). -/
theorem test_step_read :
    tReplies (.stepRead 25 7 [0, 0]) (tStep { speed := 300, loopTarget := 47 } .active)
      [0, 1, 44, 1, 0, 0, 0, 0, 0, 0, 0, 0, 0, 47] ∧
    tReplies (.stepRead 25 7 [0, 47]) tLive [0, 0] ∧ tReplies (.stepRead 25 7 [0, 48]) tLive [12, 0] ∧
    tReplies (.stepRead 25 7 [2, 0]) tLive [12, 255] := by
  decide +kernel

/-- Records at their bounds are read, and the first field beyond its bound is named (R1, R198). -/
theorem test_step_record :
    decodeStep (StepRecord.encode tRecord) = .ok tRecord ∧
    decodeStep [225, 46, 3, 0, 0, 0, 0, 0, 0, 0, 0, 0] = .error 1 ∧
    decodeStep [224, 46, 19, 0, 0, 0, 0, 0, 0, 0, 0, 0] = .error 2 ∧
    decodeStep [0, 0, 16, 61, 0, 0, 0, 0, 0, 0, 0, 0] = .error 3 ∧
    decodeStep [0, 0, 14, 61, 1, 0, 0, 0, 0, 0, 0, 0] = .error 4 ∧
    decodeStep [0, 0, 0, 60, 43, 1, 0, 0, 0, 0, 0, 48] = .error 5 ∧
    decodeStep [0, 0, 0, 0, 209, 7, 0, 0, 0, 0, 0, 0] = .error 5 ∧
    decodeStep [0, 0, 0, 0, 44, 1, 255, 255, 255, 255, 255, 48] = .error 10 := by
  decide +kernel

/-- Station 0 with a recipe, its lid locked. -/
def tRecipe (l : List StepRecord) : State :=
  tShut (tSt (fun st => { st with
    steps := Vector.ofFn (fun i : Fin 48 => l[i.val]?), recipeLength := l.length }))

/-- A valid step. -/
def tWait : StepRecord := { endConfirm := true }

/-- START's first checks in their order (R21). -/
theorem test_start_checks :
    tReplies (.start 20 7 [2, 0]) (tRecipe [tWait]) [12, 255] ∧
    tReplies (.start 20 7 [0, 0]) (tStep tWait .active) [4, 1] ∧
    tReplies (.start 20 7 [0, 0]) ((tRecipe [tWait]).modWeigh .zero (fun w => { w with op := .zeroing })) [4, 5] ∧
    tReplies (.start 20 7 [0, 0]) ((tRecipe [tWait]).modWeigh .zero (fun w => { w with op := .calibrating })) [4, 6] ∧
    tReplies (.start 20 7 [0, 0]) ((tRecipe [tWait]).modSt .zero (fun st => { st with lockHolder := some 21 })) [7, 21] ∧
    tReplies (.start 20 7 [0, 0])
      ((tRecipe [tWait]).modSt .zero (fun st => { st with binding := ⟨some 1, none, some 3, none, some 5⟩ })) [9, 1] ∧
    tReplies (.start 20 7 [0, 0]) (tMute 5 (tMute 4 (tRecipe [tWait]))) [10, 3] ∧
    tReplies (.start 20 7 [0, 0]) ((tRecipe [tWait]).modPort .appliance (fun q => { q with health := .isolated }))
      [10, 5] ∧
    tReplies (.start 20 7 [0, 1]) (tRecipe [tWait]) [12, 0] ∧ tReplies (.start 20 7 [0, 0]) (tRecipe []) [12, 0] := by
  decide +kernel

/-- Each reason for BAD_RECIPE, at its own slot (R22). -/
theorem test_start_recipe :
    tReplies (.start 20 7 [0, 0]) ((tRecipe [tWait]).modSt .zero (fun st => { st with recipeLength := 2 })) [11, 1, 0] ∧
    tReplies (.start 20 7 [0, 0]) (tRecipe [tWait, {}]) [11, 1, 1] ∧
    tReplies (.start 20 7 [0, 0]) (tRecipe [{ endTime := true }]) [11, 0, 2] ∧
    tReplies (.start 20 7 [0, 0]) (tRecipe [{ endWeight := true }]) [11, 0, 3] ∧
    tReplies (.start 20 7 [0, 0]) (tRecipe [{ endTemp := true }]) [11, 0, 4] ∧
    tReplies (.start 20 7 [0, 0])
      ((tRecipe [{ tWait with heat := 1900 }]).modSt .zero (fun st => { st with limits := { st.limits with
        overtemp := 1950 } })) [11, 0, 5] ∧
    tReplies (.start 20 7 [0, 0]) (tRecipe [{ tWait with mode := .alt }]) [11, 0, 6] ∧
    tReplies (.start 20 7 [0, 0]) (tRecipe [{ tWait with loopCount := 1, loopTarget := 1 }]) [11, 0, 7] ∧
    tReplies (.start 20 7 [0, 0])
      (tRecipe [{ tWait with loopCount := 1 }, { tWait with loopCount := 2 }]) [11, 1, 8] := by
  decide +kernel

/-- A START enters its first step in the phase that its lid and dose call for (R27). -/
theorem test_start_enters :
    (let u := tServed (.start 20 7 [0, 1]) (tRecipe [tWait, tWait])
     (u.st .zero).run.state = .running ∧ (u.st .zero).run.phase = some .active ∧ (u.st .zero).run.step = some 1) ∧
    (let u := tServed (.start 20 7 [0, 0]) (tRecipe [{ tWait with dose := 1 }])
     (u.st .zero).run.phase = some .basing ∧ (u.st .zero).run.deadline = some 5000) ∧
    (let u := tServed (.start 20 7 [0, 0])
       ((tRecipe [{ tWait with lock := true, dose := 1 }]).modDrive .zero (fun d => { d with lidReport := none }))
     (u.st .zero).run.phase = some .locking ∧ (u.st .zero).run.phaseAfterLock = some .basing) ∧
    tReplies (.start 20 7 [0, 0]) (tRecipe [{ tWait with lock := true, heat := 1900 }]) [0, 0] := by
  decide +kernel

/-- The state of `test_start_enters` passes every check of START, and its recipe has no offending slot. -/
theorem test_start_ready : (tRecipe [tWait]).startReady 20 .zero ∧ ∀ d, ¬ ((tRecipe [tWait]).st .zero).offends 0 d := by
  refine ⟨⟨by decide +kernel, by decide +kernel, by decide +kernel, by decide +kernel, ?_, by decide +kernel⟩, ?_⟩
  · intro r; cases r <;> decide +kernel
  · intro d
    rcases d with _ | _ | _ | _ | _ | _ | _ | _ | _ | d <;> intro h <;> revert h <;>
      simp [Station.offends, tRecipe, tShut, tSt, tWait, State.modDrive, State.modSt, State.st]

/-- STATION_BIND's refusals in their order, and BUSY (R17). -/
theorem test_bind_refusals :
    tReplies (.stationBind 20 7 [2, 1, 2, 3, 4, 5]) tLive [12, 255] ∧
    tReplies (.stationBind 20 7 [0, 1, 2, 3, 4, 5]) (tStep tWait .active) [4, 1] ∧
    tReplies (.stationBind 20 7 [0, 31, 2, 3, 4, 5]) tLive [12, 0] ∧
    tReplies (.stationBind 20 7 [0, 1, 20, 3, 4, 5]) tLive [12, 1] ∧
    tReplies (.stationBind 20 7 [0, 1, 2, 1, 4, 5]) tLive [12, 2] ∧
    tReplies (.stationBind 20 7 [0, 1, 2, 3, 6, 5]) tLive [12, 3] ∧
    tReplies (.stationBind 20 7 [0, 1, 2, 3, 4, 254]) tLive [12, 4] ∧
    tReplies (.stationBind 20 7 [0, 1, 2, 255, 4, 5]) (tLive.modWeigh .zero (fun w => { w with op := .taring })) [3, 0] := by
  decide +kernel

/-- A binding that changes every role, and one that changes none, in a station with reports and demands (R18). -/
theorem test_bind_forgets :
    (let s := tSt (fun st => { st with
       drive := { st.drive with manualSpeed := 9, manualHeat := 9, report := some ⟨0, 0, false⟩, lidReport := some ⟨true, true⟩ }
       weigh := { st.weigh with ring := [5] }, heat := { st.heat with bowl := some 5 } })
     let u := tServed (.stationBind 20 7 [0, 255, 255, 255, 255, 255]) s
     (u.st .zero).binding = {} ∧ (u.st .zero).drive.manualSpeed = 0 ∧ (u.st .zero).drive.report = none ∧
     (u.st .zero).drive.manualHeat = 0 ∧ (u.st .zero).weigh.ring = [] ∧ (u.st .zero).heat.bowl = none ∧
     (u.st .zero).drive.lidReport = none) ∧
    (tServed (.stationBind 20 7 [0, 1, 2, 3, 4, 5]) (tShut tLive)).station0 = (tShut tLive).station0 ∧
    (tServed (.stationBind 20 7 [0, 5, 4, 3, 2, 1]) tLive).station0.binding =
      ⟨some 5, some 4, some 3, some 2, some 1⟩ := by
  decide +kernel

/-- The unsent setpoints of roles that change to "none" are discarded, and so is the one of a role that changes nodes, whose new
node gets its own (R18). -/
theorem test_bind_discards :
    (let s := originate (.lidSet .zero) 5 [0] (originate (.heatSet .zero) 2 [9, 0] (originate (.speedSet .zero) 1 [9, 0, 1]
       ((tLive.modDrive .zero (fun d => { d with lidCommand := some .lock })).modSide .zero
         (fun x => { x with lastSent := some 0 }))))
     s.appliance.urgent.length = 3 ∧
     (let u := tServed (.stationBind 20 7 [0, 255, 255, 255, 255, 255]) s
      tUnsent (.speedSet .zero) u = [] ∧ tUnsent (.heatSet .zero) u = [] ∧ tUnsent (.lidSet .zero) u = [] ∧
      (u.st .zero).drive.lidCommand = none) ∧
     (let u := tServed (.stationBind 20 7 [0, 3, 2, 1, 4, 5]) s
      tUnsent (.speedSet .zero) u = [(3, [0, 0, 0])] ∧ tUnsent (.heatSet .zero) u = [(2, [9, 0])] ∧
      tUnsent (.lidSet .zero) u = [(5, [0])])) := by
  decide +kernel

/-- STATION_LIMITS at the bounds of its ranges, in each of its refusals, and read (R19). -/
theorem test_limits :
    tReplies (.stationLimitsWrite 20 7 [2, 0, 0, 0]) tLive [12, 255] ∧
    tReplies (.stationLimitsWrite 20 7 [0, 0, 0, 0]) (tStep tWait .basing) [4, 1] ∧
    tReplies (.stationLimitsWrite 20 7 [0, 10, 0, 0]) tLive [12, 0] ∧
    tReplies (.stationLimitsWrite 20 7 [0, 7, 59, 0]) tLive [12, 1] ∧
    tReplies (.stationLimitsWrite 20 7 [0, 7, 0, 0]) tLive [0, 0, 0, 0] ∧
    tReplies (.stationLimitsWrite 20 7 [0, 0, 224, 46]) tLive [0, 0, 224, 46] ∧
    (tServed (.stationLimitsWrite 20 7 [0, 3, 44, 1]) tLive).station0.drive.envelope = 300 ∧
    tReplies (.stationLimitsWrite 20 7 [0, 4, 208, 7]) tLive [0, 0, 208, 7] ∧
    tReplies (.stationLimitsWrite 20 7 [0, 9, 16, 39]) tLive [0, 0, 16, 39] ∧
    tReplies (.stationLimitsRead 20 7 [0, 9]) (tStep tWait .active) [0, 0, 208, 7] ∧
    tReplies (.stationLimitsRead 20 7 [0, 10]) tLive [12, 0] ∧
    tReplies (.stationLimitsRead 20 7 [255, 0]) tLive [12, 255] := by
  decide +kernel

/-- What a write of STATION_LIMITS acts on: a smaller OPEN_SPEED clamps, counts and sends, and a smaller PMAX takes manual heat and
sends the smaller grant (R20). -/
theorem test_limits_act :
    (let u := tServed (.stationLimitsWrite 20 7 [0, 3, 100, 0]) (tSt (fun st => { st with
       limits := { st.limits with openSpeed := 300 }
       drive := { st.drive with manualSpeed := 250, envelope := 300, requested := 250, commanded := 250 } }))
     (u.st .zero).drive.commanded = 100 ∧ (u.st .zero).drive.manualSpeed = 250 ∧ (u.st .zero).counters[0] = 1 ∧
     tUnsent (.speedSet .zero) u = [(1, [100, 0, 0])]) ∧
    (let u := tServed (.stationLimitsWrite 20 7 [0, 4, 44, 1]) ((tSt (fun st => { st with
       drive := { st.drive with manualHeat := 500 }, heat := { st.heat with demand := 500, bowl := some 5 } })).modSide .zero
         (fun x => { x with counted := 500, grant := 500, lastSent := some 500 }))
     (u.st .zero).drive.manualHeat = 300 ∧ (u.st .zero).heat.demand = 300 ∧ (u.side .zero).grant = 300 ∧
     tUnsent (.heatSet .zero) u = [(2, [44, 1])]) := by
  decide +kernel

/-- WEIGH_CONFIG at its bounds: CAP clamps the tare and the net weight, a new offset flushes the ring (R58, R59). -/
theorem test_weigh_config :
    tReplies (.weighConfigWrite 20 7 [2, 0, 0, 0, 0, 0]) tLive [12, 255] ∧
    tReplies (.weighConfigWrite 20 7 [0, 0, 0, 0, 0, 0]) (tRun (clearedRun .warming)) [4, 3] ∧
    tReplies (.weighConfigWrite 20 7 [0, 0, 0, 0, 0, 0]) (tLive.modWeigh .zero (fun w => { w with op := .calibrating })) [3, 6] ∧
    tReplies (.weighConfigWrite 20 7 [0, 10, 0, 0, 0, 0]) tLive [12, 0] ∧
    tReplies (.weighConfigWrite 20 7 [0, 1, 33, 0, 0, 0]) tLive [12, 1] ∧
    (let u := tServed (.weighConfigWrite 20 7 [0, 0, 16, 39, 0, 0])
       (tLive.modWeigh .zero (fun w => { w with tare := -20000, filtered := 10001 }))
     (u.st .zero).weigh.tare = -10000 ∧ (u.st .zero).weigh.net = 10000 ∧ (u.st .zero).weigh.overload = true) ∧
    (tServed (.weighConfigWrite 20 7 [0, 1, 32, 0, 0, 0]) tLive).station0.weighCfg.still = 32 ∧
    (tServed (.weighConfigWrite 20 7 [0, 4, 255, 0, 0, 0]) tLive).station0.weighCfg.doseTol = 255 ∧
    (let u := tServed (.weighConfigWrite 20 7 [0, 9, 0, 0, 128, 255]) (tLive.modWeigh .zero (fun w => { w with ring := [1] }))
     (u.st .zero).weighCfg.zero3 = -8388608 ∧ (u.st .zero).weigh.ring = []) ∧
    tReplies (.weighConfigRead 20 7 [0, 5]) tLive [0, 0, 232, 3, 0, 0] ∧
    tReplies (.weighConfigRead 20 7 [0, 10]) tLive [12, 0] ∧ tReplies (.weighConfigRead 20 7 [2, 0]) tLive [12, 255] := by
  decide +kernel

/-- HEAT_CONFIG and BUDGET_SET at their bounds (R88, R105). -/
theorem test_heat_and_budget :
    tReplies (.heatConfigWrite 20 7 [2, 0, 0]) tLive [12, 255] ∧
    tReplies (.heatConfigWrite 20 7 [0, 0, 0]) (tStep tWait .locking) [4, 1] ∧
    tReplies (.heatConfigWrite 20 7 [0, 3, 0]) tLive [12, 0] ∧ tReplies (.heatConfigWrite 20 7 [0, 2, 101]) tLive [12, 1] ∧
    tReplies (.heatConfigWrite 20 7 [0, 2, 100]) tLive [0, 0, 100] ∧
    tReplies (.heatConfigWrite 20 7 [0, 0, 255]) tLive [0, 0, 255] ∧
    tReplies (.heatConfigRead 20 7 [0, 1]) tLive [0, 0, 16] ∧ tReplies (.heatConfigRead 20 7 [0, 3]) tLive [12, 0] ∧
    tReplies (.heatConfigRead 20 7 [9, 1]) tLive [12, 255] ∧
    tReplies (.budgetSetWrite 20 7 [243, 1]) tLive [12, 1] ∧ tReplies (.budgetSetWrite 20 7 [17, 14]) tLive [12, 1] ∧
    tReplies (.budgetSetWrite 20 7 [244, 1]) tLive [0, 0, 244, 1, 0, 0, 0, 0] ∧
    tReplies (.budgetSetWrite 20 7 [16, 14]) tLive [0, 0, 16, 14, 0, 0, 0, 0] ∧
    tReplies (.budgetSetRead 20 7 []) tLive [0, 0, 240, 10, 0, 0, 0, 0] := by
  decide +kernel

/-! ### Running -/

/-- A station in PAUSED with a saved phase. -/
def tPaused (r : StepRecord) (saved : Phase) (afterLock : Option Phase) : State :=
  (tStep r .active).modRun .zero (fun x => { x with
    state := .paused, phase := none, savedPhase := some saved, phaseAfterLock := afterLock, pauseReason := some .request })

/-- PAUSE and RESUME in each of their cases (R41, R44). -/
theorem test_pause_resume :
    tReplies (.pause 20 7 [2]) tLive [12, 255] ∧ tReplies (.pause 20 7 [0]) tLive [4, 0] ∧
    (let u := tServed (.pause 20 7 [0]) (tStep tWait .basing)
     (u.st .zero).run.savedPhase = some .basing ∧ u.notices.bits = 128) ∧
    tReplies (.resume 20 7 [2]) tLive [12, 255] ∧ tReplies (.resume 20 7 [0]) (tStep tWait .active) [4, 1] ∧
    (let s := tMute 1 (tPaused tWait .active none)
     s.standing .zero (some (s.curStep .zero)) (some 0) = [.driveSilent] ∧
     ((tServed (.resume 20 7 [0]) s).st .zero).run.faultCause = some .driveSilent) ∧
    (let r : StepRecord := { tWait with lock := true, dose := 5 }
     (((tServed (.resume 20 7 [0]) (tPaused r .locking (some .basing))).st .zero).run.phaseAfterLock = some .basing) ∧
     (((tServed (.resume 20 7 [0]) (tPaused r .basing none)).st .zero).run.phaseAfterLock = some .basing) ∧
     (((tServed (.resume 20 7 [0]) (tPaused r .active none)).st .zero).run.phaseAfterLock = some .active) ∧
     (((tServed (.resume 20 7 [0]) (tShut (tPaused r .locking (some .basing)))).st .zero).run.phase = some .basing) ∧
     tUnsent (.lidSet .zero) (tServed (.resume 20 7 [0]) ((tPaused r .active none).modDrive .zero (fun d =>
       { d with lidReport := some ⟨true, false⟩ }))) = [(5, [0])] ∧
     (((tServed (.resume 20 7 [0]) (tShut (tPaused r .locking (some .active)))).st .zero).run.phase = some .active) ∧
     (((tServed (.resume 20 7 [0]) (tShut (tPaused r .basing none))).st .zero).run.deadline = some 5000) ∧
     (((tServed (.resume 20 7 [0]) (tShut (tPaused r .active none))).st .zero).run.phase = some .active)) := by
  decide +kernel

/-- STOP in each state (R45). -/
theorem test_stop :
    tReplies (.stop 20 7 [2]) tLive [12, 255] ∧ tReplies (.stop 20 7 [0]) (tRun (clearedRun .fault)) [4, 4] ∧
    (let u := tServed (.stop 20 7 [0]) (tStep tWait .active)
     (u.st .zero).run.state = .idle ∧ (u.st .zero).run.lastReport.map StepReport.outcome = some .stopped ∧
     (u.st .zero).drive.pendingUnlock = true) ∧
    (let u := tServed (.stop 20 7 [0]) (tPaused tWait .active none)
     (u.st .zero).run.lastReport.map StepReport.outcome = some .stopped) ∧
    ((tServed (.stop 20 7 [0]) (tRun (clearedRun .warming))).st .zero).run.state = .idle ∧
    (let u := tServed (.stop 20 7 [0]) (tLive.modDrive .zero (fun d => { d with manualSpeed := 9, speedHold := some 5 }))
     (u.st .zero).drive.manualSpeed = 0 ∧ (u.st .zero).drive.speedHold = none) := by
  decide +kernel

/-- SKIP and CONFIRM: refusals, a next step, a loop back, and both recipe ends (R37, R38, R46, R47). -/
theorem test_skip_confirm :
    tReplies (.skip 20 7 [2]) tLive [12, 255] ∧ tReplies (.skip 20 7 [0]) tLive [4, 0] ∧
    (let u := tServed (.skip 20 7 [0]) (tStep tWait .locking)
     (u.st .zero).run.step = some 1 ∧ (u.st .zero).run.lastReport.map StepReport.outcome = some .skipped) ∧
    (let s := fun p => (tStep tWait p).modRun .zero (fun r => { r with elapsed := 30, deadline := some 1 })
     let time := fun (u : State) => (u.st .zero).run.lastReport.map StepReport.elapsed
     time (tServed (.skip 20 7 [0]) (s .locking)) = some 0 ∧ time (tServed (.skip 20 7 [0]) (s .active)) = some 30 ∧
     time (tServed (.stop 20 7 [0]) (s .locking)) = some 30 ∧ time (tAfter (.lockingDeadlineExpiry .zero) (s .locking)) = some 0) ∧
    (let u := tServed (.skip 20 7 [0]) (tStep { tWait with loopCount := 1 } .active)
     (u.st .zero).run.step = some 0 ∧ (u.st .zero).run.loopCounter = 1) ∧
    tReplies (.confirm 20 7 [2, 255]) tLive [12, 255] ∧ tReplies (.confirm 20 7 [0, 255]) tLive [4, 0] ∧
    tReplies (.confirm 20 7 [0, 255]) (tStep tWait .locking) [4, 8] ∧
    tReplies (.confirm 20 7 [0, 255]) (tStep tWait .basing) [4, 9] ∧
    tReplies (.confirm 20 7 [0, 255]) (tStep {} .active) [4, 10] ∧
    tReplies (.confirm 20 7 [0, 1]) (tStep tWait .active) [4, 11] ∧
    (let u := tServed (.confirm 20 7 [0, 0]) ((tStep tWait .active).modSt .zero (fun st => { st with recipeLength := 1 }))
     (u.st .zero).run.state = .idle ∧ u.notices.bits = 10) ∧
    (let u := tServed (.confirm 20 7 [0, 255])
       ((tStep { tWait with keepWarm := true } .active).modSt .zero (fun st => { st with recipeLength := 1 }))
     (u.st .zero).run.state = .warming ∧ (u.st .zero).run.warmingLimit = some 1800) := by
  decide +kernel

/-- A step end that meets standing causes: at the next step with a heat target, and at WARMING (R52). -/
theorem test_step_end_faults :
    (let s := tMute 4 ((tStep tWait .active).modSt .zero (fun st => { st with
       steps := st.steps.setIfInBounds 1 (some { tWait with heat := 300 }) }))
     s.standing .zero (some { tWait with heat := 300 }) (some 300) = [.thermoSilent] ∧
     ((tServed (.skip 20 7 [0]) s).st .zero).run.faultCause = some .thermoSilent) ∧
    (let s := tMute 2 (tMute 4 ((tStep { tWait with keepWarm := true } .active).modSt .zero (fun st => { st with recipeLength := 1 })))
     s.standing .zero none (some 650) = [.heaterSilent, .thermoSilent] ∧
     ((tServed (.skip 20 7 [0]) s).st .zero).run.faultCause = some .heaterSilent ∧
     ((tServed (.skip 20 7 [0]) s).st .zero).run.furtherFaults = 1) := by
  decide +kernel

/-- ADJUST: refusals, clamped overrides with the data of its reply, a capped extension, and a raised target over a silent
THERMO node (R48 to R50). -/
theorem test_adjust :
    tReplies (.adjust 20 7 [2, 0, 0, 0, 0, 0, 0, 0]) tLive [12, 255] ∧
    tReplies (.adjust 20 7 [0, 0, 0, 0, 0, 0, 0, 0]) tLive [4, 0] ∧
    tReplies (.adjust 20 7 [0, 1, 225, 46, 0, 0, 0, 0]) (tStep tWait .active) [12, 0] ∧
    tReplies (.adjust 20 7 [0, 0, 225, 46, 0, 0, 17, 14]) (tStep tWait .active) [12, 2] ∧
    tReplies (.adjust 20 7 [0, 3, 224, 46, 152, 8, 16, 14]) (tStep { tWait with endTime := true, duration := 61936 } .active)
      [0, 0, 3, 224, 46, 208, 7, 246, 255, 9] ∧
    tReplies (.adjust 20 7 [0, 2, 0, 0, 250, 0, 1, 0]) (tPaused tWait .active none) [0, 0, 2, 0, 0, 44, 1, 246, 255, 9] ∧
    (let s := tMute 4 (tStep tWait .active)
     s.standing .zero (some tWait) (some 300) = [.thermoSilent] ∧
     ((tServed (.adjust 20 7 [0, 2, 0, 0, 0, 0, 0, 0]) s).st .zero).run.faultCause = some .thermoSilent) := by
  decide +kernel

/-- Station 0 in FAULT with a cause. -/
def tFault (c : FaultCause) : State := tRun (faultedRun c 0)

/-- CLEAR_FAULT while its cause holds, and when it is gone (R55). -/
theorem test_clear_fault :
    tReplies (.clearFault 20 7 [2]) tLive [12, 255] ∧ tReplies (.clearFault 20 7 [0]) tLive [4, 0] ∧
    tReplies (.clearFault 20 7 [0]) ((tFault .link).modPort .appliance (fun q => { q with health := .isolated })) [4, 16] ∧
    tReplies (.clearFault 20 7 [0]) (tMute 1 (tFault .driveSilent)) [4, 17] ∧
    tReplies (.clearFault 20 7 [0]) ((tFault .heaterFault).modHeat .zero (fun h => { h with report := some ⟨0, true⟩ })) [4, 22] ∧
    tReplies (.clearFault 20 7 [0]) ((tFault .thermoSensor).modHeat .zero (fun h => { h with sensorFault := some true })) [4, 23] ∧
    tReplies (.clearFault 20 7 [0]) ((tFault .overtemp).modHeat .zero (fun h => { h with bowl := some 2001 })) [4, 24] ∧
    (tReplies (.clearFault 20 7 [0]) ((tFault .overtemp).modHeat .zero (fun h => { h with bowl := some 2000 })) [0, 0] ∧
      ((tServed (.clearFault 20 7 [0]) (tFault .lidLock)).st .zero).run.state = .idle) := by
  decide +kernel

/-- The phase deadlines and the warming limit, running and not (R28, R29, R39). -/
theorem test_deadlines :
    (let s := (tStep tWait .locking).modRun .zero (fun r => { r with deadline := some 3000, phaseAfterLock := some .active })
     ((tAfter (.lockingDeadlineExpiry .zero) s).st .zero).run.faultCause = some .lidLock ∧
     (tAfter (.lockingDeadlineExpiry .one) s) = s) ∧
    (let s := ((tStep { tWait with dose := 1 } .basing).modRun .zero (fun r => { r with deadline := some 0 })).modWeigh .zero
       (fun w => { w with net := 77 })
     ((tAfter (.basingDeadlineExpiry .zero) s).st .zero).run.doseBase = some 77 ∧
     ((tAfter (.basingDeadlineExpiry .zero) s).st .zero).run.phase = some .active) ∧
    (let s := ((tStep { tWait with dose := 1, lock := true } .basing).modRun .zero (fun r => { r with deadline := some 0 }))
     ((tAfter (.basingDeadlineExpiry .zero) s).st .zero).run.phaseAfterLock = some .active) ∧
    (let s := tRun (fun r => { clearedRun .warming r with warmingLimit := some 60 })
     ((tAfter (.warmingLimitExpiry .zero) s).st .zero).run.state = .idle ∧
     (let s0 := tRun (fun r => { clearedRun .warming r with warmingLimit := some 0 })
      tAfter (.warmingLimitExpiry .zero) s0 = s0)) := by
  decide +kernel

/-- A step timer's end with TIME and with LIMIT, a step without a limit, and a reversal whose multiple is ahead or reached
(R31, R32). -/
theorem test_step_timer :
    (let u := tAfter (.stepTimerExpiry .zero) (tStep { endTime := true, duration := 3 } .active)
     (u.st .zero).run.lastReport.map (fun r => (r.outcome, r.elapsed)) = some (.time, 30)) ∧
    (let u := tAfter (.stepTimerExpiry .zero) (tStep { endConfirm := true, duration := 65535 } .active)
     (u.st .zero).run.lastReport.map (fun r => (r.outcome, r.elapsed)) = some (.limit, 655350)) ∧
    tAfter (.stepTimerExpiry .zero) (tStep tWait .active) = tStep tWait .active ∧
    (let s := (tStep { tWait with mode := .alt, reversal := 60, speed := 1 } .active)
     let u := tAfter (.reversal .zero) s
     (u.st .zero).run.elapsed = 600 ∧ (u.st .zero).run.reversal = some .rev ∧ (u.st .zero).drive.commandedDir = .rev) ∧
    (let s := (tStep { tWait with mode := .alt, reversal := 1 } .active).modRun .zero (fun r => { r with elapsed := 10 })
     ((tAfter (.reversal .zero) s).st .zero).run.elapsed = 10 ∧
     ((tAfter (.reversal .zero) s).st .zero).run.reversal = some .rev) := by
  decide +kernel

/-! ### Weighing and heating -/

/-- The weigh context of station 0 changed. -/
def tWeigh (f : WeighContext → WeighContext) : State := tLive.modWeigh .zero f

/-- TARE: refusals, a start, a tare superseded, and its deadline (R75, R76, R78). -/
theorem test_tare :
    tReplies (.tare 20 7 [2]) tLive [12, 255] ∧
    tReplies (.tare 20 7 [0]) (tSt (fun st => { st with binding := {} })) [9, 2] ∧
    tReplies (.tare 20 7 [0]) (tMute 3 tLive) [4, 19] ∧
    tReplies (.tare 20 7 [0]) (tWeigh (fun w => { w with op := .zeroing })) [3, 5] ∧
    tReplies (.tare 20 7 [0]) (tWeigh (fun w => { w with op := .calibrating })) [3, 6] ∧
    (let u := tServed (.tare 20 7 [0]) tLive
     (u.st .zero).weigh.op = .taring ∧ (u.st .zero).weigh.opDeadline = some 3000 ∧ u.notices.bits = 0) ∧
    (let u := tServed (.tare 20 7 [0]) (tWeigh (fun w => { w with op := .taring, opDeadline := some 1 }))
     (u.st .zero).weigh.lastTare = some .superseded ∧ (u.st .zero).weigh.opDeadline = some 3000 ∧ u.notices.bits = 512) ∧
    ((tAfter (.tareDeadlineExpiry .zero) (tWeigh (fun w => { w with op := .taring }))).st .zero).weigh.lastTare =
      some .unstable ∧
    tAfter (.tareDeadlineExpiry .zero) (tWeigh (fun w => { w with op := .zeroing })) =
      tWeigh (fun w => { w with op := .zeroing }) := by
  decide +kernel

/-- ZERO and CALIBRATE: refusals, starts with the mass at its bounds, an interruption, and their deadline (R79, R81, R83, R84). -/
theorem test_captures :
    tReplies (.zero 20 7 [2]) tLive [12, 255] ∧ tReplies (.zero 20 7 [0]) (tStep tWait .active) [4, 1] ∧
    tReplies (.calibrate 20 7 [0, 100, 0, 0]) (tSt (fun st => { st with binding := {} })) [9, 2] ∧
    tReplies (.zero 20 7 [0]) (tMute 3 tLive) [4, 19] ∧
    tReplies (.calibrate 20 7 [0, 100, 0, 0]) (tWeigh (fun w => { w with op := .taring })) [3, 7] ∧
    tReplies (.calibrate 20 7 [0, 99, 0, 0]) tLive [12, 0] ∧ tReplies (.calibrate 20 7 [0, 161, 134, 1]) tLive [12, 0] ∧
    ((tServed (.calibrate 20 7 [0, 100, 0, 0]) tLive).st .zero).weigh.refMass = some 100 ∧
    ((tServed (.calibrate 20 7 [0, 160, 134, 1]) tLive).st .zero).weigh.refMass = some 100000 ∧
    (let u := tServed (.zero 20 7 [0]) (tWeigh (fun w => { w with op := .calibrating, accCount := 9, sumS := 5 }))
     (u.st .zero).weigh.op = .zeroing ∧ (u.st .zero).weigh.accCount = 0 ∧ (u.st .zero).weigh.lastCal = some .interrupted) ∧
    ((tAfter (.zeroCalibrateDeadlineExpiry .zero) (tWeigh (fun w => { w with op := .zeroing }))).st .zero).weigh.lastZero =
      some .stale ∧
    tAfter (.zeroCalibrateDeadlineExpiry .zero) (tWeigh (fun w => { w with op := .taring })) =
      tWeigh (fun w => { w with op := .taring }) := by
  decide +kernel

/-- A sample that reads 100 counts on the first cell. -/
def tSample (q : Byte) : WeighSample := ⟨q, 100, 0, 0, 0⟩

/-- Station 0 with a gain of one decigram a count and a filled, settled ring. -/
def tScale (s : State) : State :=
  s.modSt .zero (fun st => { st with
    weighCfg := { st.weighCfg with gain := 65536 }
    weigh := { st.weigh with ring := List.replicate 7 100, lastSeq := some 255 } })

/-- A duplicate, a gap, the wrap of the sequence number, and a sample that settles (R60, R65, R66). -/
theorem test_samples :
    (takeWeighSample .zero (tSample 255) (tScale tLive)).station0.counters[4] = 1 ∧
    (takeWeighSample .zero (tSample 1) (tScale tLive)).station0.counters[3] = 1 ∧
    (let w := ((takeWeighSample .zero (tSample 0) (tScale tLive)).st .zero).weigh
     w.settled = true ∧ w.net = 100 ∧ w.lastSeq = some 0 ∧ w.ring.length = 8) := by
  decide +kernel

/-- A sample that reaches the dose within its tolerance, one that does not, and one that captures the base (R29, R33). -/
theorem test_dose :
    (let r : StepRecord := { endWeight := true, dose := 120 }
     let s := (tScale (tStep r .active)).modRun .zero (fun x => { x with doseBase := some 0 })
     let s1 := (tScale (tStep r .active)).modRun .zero (fun x => { x with doseBase := some 1 })
     ((takeWeighSample .zero (tSample 0) s).st .zero).run.lastReport.map StepReport.outcome = some .weight ∧
     ((takeWeighSample .zero (tSample 0) s1).st .zero).run = (s1.st .zero).run ∧
     ((takeWeighSample .zero (tSample 0) (tScale (tStep tWait .active))).st .zero).run.phase = some .active) ∧
    (let r : StepRecord := { endWeight := true, dose := 120, lock := true }
     let s := (tScale (tStep r .basing)).modRun .zero (fun x => { x with deadline := some 9 })
     ((takeWeighSample .zero (tSample 0) (tShut s)).st .zero).run.doseBase = some 100 ∧
     ((takeWeighSample .zero (tSample 0) (tShut s)).st .zero).run.phase = some .active ∧
     ((takeWeighSample .zero (tSample 0) s).st .zero).run.phase = some .locking ∧
     ((takeWeighSample .zero (tSample 0) (s.modWeigh .zero flushRing)).st .zero).run = (s.st .zero).run) ∧
    (let s := tScale (tStep tWait .locking)
     ((takeWeighSample .zero (tSample 0) s).st .zero).run = (s.st .zero).run) := by
  decide +kernel

/-- The sixteenth sample of a capture, and one before it; a gain out of its range; a settled tare under a dose base (R77, R80,
R82, R73). -/
theorem test_operations :
    (let s := tWeigh (fun w => { w with op := .taring, settled := true, filtered := 100001 })
     let u := advanceOp .zero (tSample 0) (s.modRun .zero (fun r => { r with doseBase := some 5 }))
     (u.st .zero).weigh.tare = 100000 ∧ (u.st .zero).weigh.net = 1 ∧ (u.st .zero).run.doseBase = some (-99995) ∧
     (u.st .zero).weigh.lastTare = some .done) ∧
    advanceOp .zero (tSample 0) (tWeigh (fun w => { w with op := .taring })) = tWeigh (fun w => { w with op := .taring }) ∧
    ((advanceOp .zero (tSample 0) (tWeigh (fun w => { w with op := .zeroing, accCount := 14 }))).st .zero).weigh.accCount = 15 ∧
    ((advanceOp .zero (tSample 0) (tWeigh (fun w => { w with op := .zeroing, accCount := 15, sum0 := -108 }))).st .zero).weighCfg.zero0
      = -1 ∧
    ((advanceOp .zero (tSample 0) (tWeigh (fun w => { w with op := .calibrating, accCount := 14, refMass := some 100 }))).st
      .zero).weigh.sumS = 100 ∧
    (let u := advanceOp .zero (tSample 0)
       (tWeigh (fun w => { w with op := .calibrating, accCount := 15, refMass := some 100, sumS := 1500 }))
     (u.st .zero).weighCfg.gain = 65536 ∧ (u.st .zero).weigh.net = 100) ∧
    (let s := (tScale tLive).modWeigh .zero (fun w => { w with op := .taring, opDeadline := some 9 })
     let w := ((takeWeighSample .zero (tSample 0) s).st .zero).weigh
     w.op = .none ∧ w.lastTare = some .done ∧ w.tare = 100 ∧ w.net = 0) ∧
    ((advanceOp .zero (tSample 0) (tWeigh (fun w => { w with
        op := .calibrating, accCount := 15, refMass := some 100, sumS := -100 }))).st .zero).weigh.lastCal = some .failedRange := by
  decide +kernel

/-- The rounding of section 4.2: nearest, ties away from zero, and the truncation toward zero of the heat terms. -/
theorem test_rounding :
    roundDiv 5 2 = 3 ∧ roundDiv (-5) 2 = -3 ∧ roundDiv 4 3 = 1 ∧ roundDiv (-4) 3 = -1 ∧ truncDiv (-7) 2 = -3 := by decide

/-- The demand of a good sample: cut and not cut, at a target of 0, in IDLE; and the fault of a hot or failed one (R90 to
R97). -/
theorem test_thermo :
    (let s := (tStep { tWait with heat := 900 } .active).modHeat .zero (fun h => { h with integral := 100 })
     let h := ((takeThermoSample .zero 800 false s).st .zero).heat
     h.integral = 106 ∧ h.demand = 506 ∧ h.reached = false) ∧
    (let s := (tStep { tWait with heat := 900 } .active).modHeat .zero (fun h => { h with integral := 100, demand := 9 })
     ((takeThermoSample .zero 800 false s).st .zero).heat.integral = 100) ∧
    (let h := ((takeThermoSample .zero 880 false (tStep { tWait with heat := 900 } .active)).st .zero).heat
     h.reached = true ∧ h.demand = 81) ∧
    ((takeThermoSample .zero 800 false (tStep tWait .active)).st .zero).heat.demand = 0 ∧
    ((takeThermoSample .zero 2099 false (tLive.modDrive .zero (fun d => { d with manualHeat := 7 }))).st .zero).heat.demand
      = 7 ∧
    ((takeThermoSample .zero 2100 false tLive).st .zero).run.faultCause = some .overtemp ∧
    ((takeThermoSample .zero 0 true (tStep tWait .active)).st .zero).run.faultCause = some .thermoSensor ∧
    (let s := (tFault .link).modHeat .zero (fun h => { h with sensorFault := some true })
     (takeThermoSample .zero 0 true s).station0.run.furtherFaults = 0 ∧
     (takeThermoSample .zero 0 true (tFault .link)).station0.run.furtherFaults = 1) ∧
    (let s := (tFault .link).modHeat .zero (fun h => { h with bowl := some 2100 })
     (takeThermoSample .zero 2100 false s).station0.run.furtherFaults = 0 ∧
     (takeThermoSample .zero 2100 false (tFault .link)).station0.run.furtherFaults = 1 ∧
     (takeThermoSample .zero 2099 false s).station0.run.furtherFaults = 0) ∧
    ((takeThermoSample .zero 880 false (tStep { heat := 900, endTemp := true } .active)).st .zero).run.lastReport.map
      StepReport.outcome = some .temp := by
  decide +kernel

/-- The division of section 5.5 in each of its steps, and the draws at the budget. -/
theorem test_division :
    divideGrants 2000 1200 700 = (1200, 700) ∧ divideGrants 2001 900 1500 = (900, 1101) ∧
    divideGrants 2001 1500 900 = (1101, 900) ∧ divideGrants 2001 1500 1500 = (1000, 1001) ∧
    divideGrants 0 1 0 = (0, 0) ∧ divideShares 0 0 0 1400 1400 = (0, 0) ∧
    divideShares 2001 1500 1500 0 0 = (1000, 1001) := by decide

/-- The grant step at a difference of 9 and of 10 W, across 0, with no value sent, and without a HEATER (R110). -/
theorem test_grant_step :
    (let s := fun g v => tLive.modSide .zero (fun x => { x with grant := g, lastSent := v })
     tUnsent (.heatSet .zero) (testGrant .zero (s 109 (some 100))) = [] ∧
     tUnsent (.heatSet .zero) (testGrant .zero (s 110 (some 100))) = [(2, [110, 0])] ∧
     tUnsent (.heatSet .zero) (testGrant .zero (s 90 (some 100))) = [(2, [90, 0])] ∧
     tUnsent (.heatSet .zero) (testGrant .zero (s 0 (some 5))) = [(2, [0, 0])] ∧
     tUnsent (.heatSet .zero) (testGrant .zero (s 5 (some 0))) = [(2, [5, 0])] ∧
     tUnsent (.heatSet .zero) (testGrant .zero (s 0 none)) = [(2, [0, 0])] ∧
     tUnsent (.heatSet .zero) (testGrant .zero ((s 0 none).modSt .zero (fun st => { st with binding := {} }))) = []) := by
  decide +kernel

/-! ### Drive and lid -/

/-- Station 0 with a pending unlock, a drive report and a commanded speed. -/
def tPending (reported commanded : Nat) : State :=
  tLive.modDrive .zero (fun d => { d with
    pendingUnlock := true, report := some ⟨reported, 0, false⟩, commanded := commanded, lidCommand := some .lock })

/-- The unlock waits for a still blade, a commanded speed of 0, a LID node and a link (R129), and the refresh repeats an UNLOCK
only over a still blade (R130). -/
theorem test_unlock :
    tUnsent (.lidSet .zero) (testUnlock .zero (tPending 0 0)) = [(5, [1])] ∧
    testUnlock .zero (tPending 1 0) = tPending 1 0 ∧ testUnlock .zero (tPending 0 1) = tPending 0 1 ∧
    tUnsent (.lidSet .zero) (testUnlock .zero ((tPending 0 0).modSt .zero (fun st => { st with binding := {} }))) = [] ∧
    tUnsent (.lidSet .zero) (testUnlock .zero ((tPending 0 0).modPort .appliance (fun q => { q with health := .isolated }))) = [] ∧
    tUnsent (.lidSet .zero) (testUnlock .zero ((tPending 9 0).modDrive .zero (fun d => { d with spinDownElapsed := true }))) =
      [(5, [1])] ∧
    tUnsent (.lidSet .zero) (refreshLid .zero (tPending 9 0)) = [(5, [0])] ∧
    tUnsent (.lidSet .zero) (refreshLid .zero ((tPending 9 0).modDrive .zero (fun d => { d with lidCommand := some .unlock }))) = [] ∧
    tUnsent (.lidSet .zero) (refreshLid .zero ((tPending 0 0).modDrive .zero (fun d => { d with lidCommand := some .unlock }))) =
      [(5, [1])] := by
  decide +kernel

/-- A blade last heard turning, with the unlock pending, whose spin-down wait ends next. -/
def tWaits : State :=
  { tLive.modDrive .zero (fun d => { d with pendingUnlock := true, report := some ⟨9, 0, false⟩, spinDown := some 0 }) with
    pending := [.spinDownExpiry .zero] }

/-- The step that ends the spin-down wait sends a new UNLOCK, over a blade that is still by then (R126, R129). -/
theorem test_unlock_step :
    UnlocksSound tWaits ∧ ¬ BladeStill tWaits .zero ∧ tUnsent (.lidSet .zero) tWaits = [] ∧
    (match step tWaits with
     | .next t => BladeStill t .zero ∧ tUnsent (.lidSet .zero) t = [(5, [1])]
     | _ => False) := by
  have hs : ∀ s : State, BladeStill s .zero ↔ ((s.st .zero).drive.commanded = 0 ∧
      ((s.st .zero).drive.report.map DriveReport.speed = some 0 ∨ (s.st .zero).drive.spinDownElapsed = true)) := by
    intro s; simp [BladeStill]
  refine ⟨?_, by rw [hs]; decide +kernel, by decide +kernel, ?_⟩
  · intro n
    cases n
    · intro _; exact ⟨by decide, by decide, .inl (by rw [hs]; decide +kernel)⟩
    · intro h; cases h
  · show BladeStill (tAfter (.spinDownExpiry .zero) { tWaits with pending := [] }) .zero ∧ _
    rw [hs]; decide +kernel

/-- A speed above the envelope is clamped, counted once and sent; the same recomputation again does neither (R115 to R118). -/
theorem test_speed :
    (let s := tLive.modDrive .zero (fun d => { d with manualSpeed := 400, envelope := 300 })
     let u := recomputeDrive .zero s
     (u.st .zero).drive.commanded = 300 ∧ (u.st .zero).drive.clamped = true ∧ (u.st .zero).counters[0] = 1 ∧
     tUnsent (.speedSet .zero) u = [(1, [44, 1, 0])] ∧ recomputeDrive .zero u = u) := by
  decide +kernel

/-- The ends of the holds, of the spin-down wait and of a refresh interval (R122, R126, R130). -/
theorem test_drive_timers :
    (let s := tLive.modDrive .zero (fun d => { d with
       manualSpeed := 200, speedHold := some 0, requested := 200, commanded := 200, envelope := 300 })
     tUnsent (.speedSet .zero) (tAfter (.speedHoldExpiry .zero) s) = [(1, [0, 0, 0])] ∧
     tAfter (.heatHoldExpiry .zero) s = s ∧ tAfter (.speedHoldExpiry .one) s = s) ∧
    (let s := (tLive.modDrive .zero (fun d => { d with manualHeat := 50, heatHold := some 0 })).modHeat .zero
       (fun h => { h with demand := 50, bowl := some 5 })
     ((tAfter (.heatHoldExpiry .zero) s).st .zero).heat.demand = 0) ∧
    (let s := (tPending 9 0).modDrive .zero (fun d => { d with spinDown := some 0 })
     tUnsent (.lidSet .zero) (tAfter (.spinDownExpiry .zero) s) = [(5, [1])] ∧
     ((tAfter (.spinDownExpiry .zero) (s.modDrive .zero (fun d => { d with commanded := 1 }))).st .zero).drive.spinDownElapsed = true ∧
     tAfter (.spinDownExpiry .one) s = s) ∧
    (let u := tAfter (.refreshExpiry .zero) ((tPending 9 0).modDrive .zero (fun d => { d with pendingUnlock := false, refreshTimer := 0 }))
     (u.st .zero).drive.refreshTimer = 100 ∧ tUnsent (.speedSet .zero) u = [(1, [0, 0, 0])] ∧
     tUnsent (.heatSet .zero) u = [(2, [0, 0])] ∧ tUnsent (.lidSet .zero) u = [(5, [0])]) := by
  decide +kernel

/-- Heater and drive faults, in a run and in FAULT, and a report's draw (R92, R106, R124). -/
theorem test_reports :
    ((takeHeatState .zero ⟨5, true⟩ (tStep tWait .active)).st .zero).run.faultCause = some .heaterFault ∧
    ((takeHeatState .zero ⟨5, false⟩ tLive).st .zero).heat.report = some ⟨5, false⟩ ∧
    ((takeHeatState .zero ⟨5, true⟩ (tFault .link)).st .zero).run.furtherFaults = 1 ∧
    ((takeHeatState .zero ⟨5, true⟩ ((tFault .link).modHeat .zero (fun h => { h with report := some ⟨0, true⟩ }))).st
      .zero).run.furtherFaults = 0 ∧
    (let u := takeDriveState .zero ⟨0, 300, false⟩ tLive
     (u.side .zero).draw = 300 ∧ u.arbiter.available = 2500) ∧
    ((takeDriveState .zero ⟨0, 0, true⟩ tLive).st .zero).run.faultCause = some .driveFault ∧
    ((takeDriveState .zero ⟨0, 0, true⟩ (tFault .link)).st .zero).run.furtherFaults = 1 ∧
    (let u := takeDriveState .zero ⟨0, 7, true⟩ ((tFault .link).modDrive .zero (fun d => { d with report := some ⟨5, 0, true⟩ }))
     (u.st .zero).run.furtherFaults = 0 ∧ (u.side .zero).draw = 7) := by
  decide +kernel

/-- A LID_STATE in LOCKING, locked, closed with and without a deadline, and open; and in an ACTIVE LOCK step (R28, R42, R125). -/
theorem test_lid_reports :
    (let s := fun p d => (tStep { tWait with lock := true } .locking).modRun .zero (fun r =>
       { r with phaseAfterLock := some p, deadline := d })
     ((takeLidState .zero ⟨true, true⟩ (s .active none)).st .zero).run.phase = some .active ∧
     ((takeLidState .zero ⟨true, true⟩ (s .basing none)).st .zero).run.deadline = some 5000 ∧
     ((takeLidState .zero ⟨true, false⟩ (s .active none)).st .zero).run.deadline = some 3000 ∧
     tUnsent (.lidSet .zero) (takeLidState .zero ⟨true, false⟩ (s .active none)) = [(5, [0])] ∧
     ((takeLidState .zero ⟨true, false⟩ (s .active (some 1))).st .zero).run.deadline = some 1 ∧
     ((takeLidState .zero ⟨false, true⟩ (s .active (some 1))).st .zero).run.deadline = none) ∧
    (let s := tShut (tStep { tWait with lock := true } .active)
     ((takeLidState .zero ⟨true, false⟩ s).st .zero).run.pauseReason = some .lid ∧
     ((takeLidState .zero ⟨true, true⟩ s).st .zero).run = (s.st .zero).run ∧
     ((takeLidState .zero ⟨true, true⟩ s).st .zero).drive.envelope = 10000) ∧
    (let u := takeLidState .zero ⟨true, true⟩ (tFault .link)
     (u.st .zero).drive.lidReport = some ⟨true, true⟩ ∧ (u.st .zero).drive.envelope = 10000 ∧
     (u.st .zero).run.faultCause = some .link) := by
  decide +kernel

/-- A setpoint frame from the control side. -/
def tSet (kind : BitVec 5) (dest : NodeId) (payload : List Byte) : Frame := ⟨1, kind, 0, 20, 0, dest, payload⟩

/-- Guarded setpoints: of another kind or for another node, of a wrong format, in a run, and each manual demand (R120 to
R123). -/
theorem test_guard :
    (guardFrame .control (.fixed .urgent) (tSet 7 1 []) tLive).appliance.urgent.length = 1 ∧
    (guardFrame .control (.fixed .urgent) (tSet 4 2 [1, 0, 0]) tLive).appliance.urgent.length = 1 ∧
    (guardFrame .control (.fixed .urgent) (tSet 4 1 [1, 0, 2]) tLive).control.counters[13] = 1 ∧
    (guardFrame .control (.fixed .urgent) (tSet 5 2 [1]) tLive).control.counters[13] = 1 ∧
    (guardFrame .control (.fixed .urgent) (tSet 6 5 [2]) tLive).control.counters[13] = 1 ∧
    (guardFrame .control (.fixed .urgent) (tSet 6 5 [1]) (tStep tWait .active)).station0.counters[1] = 1 ∧
    (let u := guardFrame .control (.fixed .urgent) (tSet 4 1 [255, 255, 1]) tLive
     (u.st .zero).drive.manualSpeed = 12000 ∧ (u.st .zero).drive.speedHold = some 2000 ∧ tUnsent (.speedSet .zero) u = [(1, [0, 0, 1])]) ∧
    (guardFrame .control (.fixed .urgent) (tSet 5 2 [255, 255]) tLive).station0.drive.manualHeat = 1200 ∧
    tUnsent (.lidSet .zero) (guardFrame .control (.fixed .urgent) (tSet 6 5 [0]) tLive) = [(5, [0])] ∧
    (guardFrame .control (.fixed .urgent) (tSet 6 5 [1]) tLive).station0.drive.pendingUnlock = true := by
  decide +kernel

/-! ### Nodes -/

/-- Port `p`'s configuration changed. -/
def tCfg (p : Port) (f : PortConfig → PortConfig) (s : State) : State := s.modPort p (fun q => { q with cfg := f q.cfg })

/-- The figures of section 7.7: a frame from 9 and 20, the part's own number, a STATIC node on the other port, a frame on a
CLOSED port, and the broadcast number; a LEARNED node that moves or leaves (R134 to R136). -/
def tTable : State :=
  tCfg .control (fun c => { c with admission := .guarded, learnLimit := 2 })
    { State.blank 28 with nodes := Vector.ofFn (fun i : Fin 16 =>
        if i.val = 0 then some ⟨5, .control, .static, 0, 0, false⟩
        else if i.val = 1 then some ⟨12, .appliance, .static, 7, 100, true⟩
        else if i.val = 2 then some ⟨9, .control, .learned, 3, 0, false⟩ else none) }

theorem test_admission :
    (admitSource .control 14 tTable).1.entryAt 3 = some ⟨14, .control, .learned, 0, 0, false⟩ ∧
    (admitSource .control 9 tTable).1.entryAt 2 = some ⟨9, .control, .learned, 0, 0, false⟩ ∧
    (admitSource .appliance 12 tTable).1.entryAt 1 = some ⟨12, .appliance, .static, 0, 100, false⟩ ∧
    (let s := tCfg .control (fun c => { c with learnLimit := 1 }) tTable
     admitSource .control 20 s = (countPort .control .admission s, false) ∧
     (let s1 := tCfg .control (fun c => { c with admission := .opened }) s
      admitSource .control 20 s1 = (s1, true))) ∧
    admitSource .appliance 28 tTable = (countPort .appliance .idClash tTable, false) ∧
    admitSource .control 31 tTable = (countPort .control .idClash tTable, false) ∧
    admitSource .control 12 tTable = (countPort .control .portConflict tTable, false) ∧
    admitSource .appliance 9 tTable = (countPort .appliance .admission tTable, false) ∧
    (let s := tCfg .appliance (fun c => { c with admission := .guarded }) tTable
     (admitSource .appliance 9 s).1.entryAt 2 = some ⟨9, .appliance, .learned, 0, 0, false⟩) ∧
    (let s := tCfg .appliance (fun c => { c with admission := .guarded, learnLimit := 1 })
       (tTable.setEntry 4 (some ⟨8, .appliance, .learned, 0, 0, false⟩))
     admitSource .appliance 9 s = (countPort .appliance .admission s, false)) ∧
    (let s := tCfg .appliance (fun c => { c with admission := .opened, learnLimit := 1 })
       ((tTable.setEntry 4 (some ⟨8, .appliance, .learned, 0, 0, false⟩)).modSt .zero
         (fun st => { st with lockHolder := some 9 }))
     (admitSource .appliance 9 s).2 = true ∧ (admitSource .appliance 9 s).1.entryAt 2 = none ∧
     (admitSource .appliance 9 s).1.station0.lockHolder = none) := by
  decide +kernel

/-- A silent node heard again: the spin-down wait stops, the heater's demand counts again, the lid's last report counts again, and
a scale is heard without more (R141, R126, R107). -/
theorem test_heard_again :
    (let s := tMute 1 (tLive.modDrive .zero (fun d => { d with spinDown := some 5 }))
     ((admitSource .appliance 1 s).1.st .zero).drive.spinDown = none ∧ (admitSource .appliance 1 s).1.entryAt 0 = tNode 0) ∧
    (let u := (admitSource .appliance 2 (tMute 2 (tLive.modHeat .zero (fun h => { h with demand := 500 })))).1
     (u.side .zero).counted = 500 ∧ tUnsent (.heatSet .zero) u = [(2, [244, 1])]) ∧
    ((admitSource .appliance 5 (tMute 5 (tShut tLive))).1.st .zero).drive.envelope = 10000 ∧
    admitSource .appliance 3 (tMute 3 tLive) = (tLive, true) := by
  decide +kernel

/-- Every entry in use. -/
def tFull : State :=
  { tLive with nodes := Vector.ofFn (fun i : Fin 16 => some ⟨BitVec.ofNat 5 (i + 1), .appliance, .static, 0, 0, false⟩) }

/-- NODE_WRITE's refusals, the limit at its bounds, a new entry, an origin changed, a port changed, and a silence due at once
(R142). -/
theorem test_node_write :
    tReplies (.nodeWrite 20 7 [31, 0, 0, 0]) tLive [12, 0] ∧ tReplies (.nodeWrite 20 7 [27, 0, 0, 0]) tLive [12, 0] ∧
    tReplies (.nodeWrite 20 7 [30, 2, 0, 0]) tLive [12, 1] ∧ tReplies (.nodeWrite 20 7 [30, 0, 19, 0]) tLive [12, 2] ∧
    tReplies (.nodeWrite 20 7 [30, 0, 218, 7]) tLive [12, 2] ∧ tReplies (.nodeWrite 20 7 [30, 0, 25, 0]) tLive [12, 2] ∧
    tReplies (.nodeWrite 20 7 [30, 0, 20, 0]) tLive [0, 0, 12] ∧
    (tServed (.nodeWrite 20 7 [30, 1, 208, 7]) tLive).entryAt 12 = some ⟨30, .appliance, .static, 0, 2000, false⟩ ∧
    tReplies (.nodeWrite 20 7 [30, 1, 0, 0]) tFull [8, 0] ∧
    tReplies (.nodeWrite 20 7 [1, 0, 0, 0]) tLive [4, 0] ∧ tReplies (.nodeWrite 20 7 [10, 0, 0, 0]) tLive [4, 14] ∧
    (tServed (.nodeWrite 20 7 [20, 0, 0, 0]) (tLive.setEntry 10 (some ⟨20, .control, .learned, 5, 0, false⟩))).entryAt 10 =
      some ⟨20, .control, .static, 5, 0, false⟩ ∧
    (tServed (.nodeWrite 20 7 [21, 1, 20, 0]) (tLive.setEntry 11 (some ⟨21, .control, .learned, 5, 0, false⟩))).entryAt 11 =
      some ⟨21, .appliance, .static, 0, 20, false⟩ ∧
    (let u := tServed (.nodeWrite 20 7 [20, 0, 50, 0]) (tLive.setEntry 10 (some ⟨20, .control, .learned, 5, 0, false⟩))
     u.entryAt 10 = some ⟨20, .control, .static, 5, 50, true⟩ ∧ u.notices.bits &&& noticeMask .nodeSilent ≠ 0) ∧
    (let u := tServed (.nodeWrite 20 7 [1, 1, 50, 0]) (tLive.setEntry 0 (some ⟨1, .appliance, .static, 5, 100, false⟩))
     u.entryAt 0 = some ⟨1, .appliance, .static, 5, 50, true⟩ ∧ u.station0.drive.spinDown = some 5000) := by
  decide +kernel

/-- NODE_DELETE, NODE_READ and NODE_FLUSH, the last with the figures of section 7.7 (R143 to R145). -/
theorem test_node_requests :
    tReplies (.nodeDelete 20 7 [31]) tLive [12, 0] ∧ tReplies (.nodeDelete 20 7 [30]) tLive [6, 0] ∧
    tReplies (.nodeDelete 20 7 [8]) tLive [4, 12] ∧
    (let u := tServed (.nodeDelete 20 7 [21]) (tSt (fun st => { st with lockHolder := some 21 }))
     u.entryAt 11 = none ∧ u.station0.lockHolder = none) ∧
    tReplies (.nodeRead 20 7 [16]) tLive [12, 0] ∧ tReplies (.nodeRead 20 7 [15]) tLive [0, 0] ∧
    tReplies (.nodeRead 20 7 [0]) tLive [0, 1, 1, 1, 0, 0, 0, 100, 0, 0, 0] ∧
    tReplies (.nodeRead 20 7 [11]) tLive [0, 1, 21, 0, 1, 0, 0, 0, 0, 0, 255] ∧
    (let s := (tTable.setEntry 3 (some ⟨14, .control, .learned, 0, 0, false⟩)).modSt .zero
       (fun st => { st with lockHolder := some 9 })
     tReplies (.nodeFlush 5 7 []) s [0, 0, 2] ∧
     (tServed (.nodeFlush 5 7 []) s).entryAt 2 = none ∧ (tServed (.nodeFlush 5 7 []) s).entryAt 3 = none ∧
     (tServed (.nodeFlush 5 7 []) s).entryAt 1 = tTable.entryAt 1 ∧
     (tServed (.nodeFlush 5 7 []) s).station0.lockHolder = none) := by
  decide +kernel

/-- The entry at an index at the age where its event falls due. -/
def tOld (i : Nat) (s : State) : State :=
  s.setEntry i ((s.entryAt i).map (fun e => { e with age := if e.origin = .learned then s.ageLimit * 100 else e.limit / 10 }))

/-- The age's end of a LEARNED and of a STATIC node, one step short of it and heard first, and the silence of each role in IDLE
and in a run (R138, R139, R51). -/
theorem test_aging_and_silence :
    (tAfter (.agingRemoval 11) (tOld 11 tLive)).entryAt 11 = none ∧ tAfter (.agingRemoval 1) (tOld 1 tLive) = tOld 1 tLive ∧
    tAfter (.nodeBecomesSilent 11) (tOld 11 tLive) = tOld 11 tLive ∧ tAfter (.nodeBecomesSilent 0) (tOld 0 (tMute 1 tLive)) = tOld 0 (tMute 1 tLive) ∧
    tAfter (.agingRemoval 11) tLive = tLive ∧ tAfter (.nodeBecomesSilent 0) tLive = tLive ∧
    tAfter (.agingRemoval 15) (tOld 15 tLive) = tLive ∧
    ((tAfter (.nodeBecomesSilent 0) (tOld 0 (tLive.modDrive .zero (fun d => { d with manualSpeed := 5 })))).st
      .zero).drive.manualSpeed = 0 ∧
    ((tAfter (.nodeBecomesSilent 0) (tOld 0 (tStep tWait .active))).st .zero).run.faultCause = some .driveSilent ∧
    ((tAfter (.nodeBecomesSilent 1) (tOld 1 (tStep { tWait with heat := 300 } .active))).st .zero).run.faultCause =
      some .heaterSilent ∧
    ((tAfter (.nodeBecomesSilent 1) (tOld 1 (tStep tWait .active))).st .zero).run.state = .running ∧
    ((tAfter (.nodeBecomesSilent 2) (tOld 2 (tWeigh (fun w => { w with op := .taring, ring := [1] })))).st .zero).weigh.lastTare =
      some .stale ∧
    ((tAfter (.nodeBecomesSilent 2) (tOld 2 (tStep { endWeight := true, dose := 1 } .basing))).st .zero).run.faultCause =
      some .weighSilent ∧
    ((tAfter (.nodeBecomesSilent 3) (tOld 3 (tStep { tWait with heat := 300 } .active))).st .zero).run.faultCause =
      some .thermoSilent ∧
    ((tAfter (.nodeBecomesSilent 4) (tOld 4 (tShut (tStep { tWait with lock := true } .active)))).st .zero).run.pauseReason =
      some .lid ∧
    ((tAfter (.nodeBecomesSilent 4) (tOld 4 (tFault .link))).st .zero).run = ((tFault .link).st .zero).run ∧
    ((tAfter (.nodeBecomesSilent 3) (tOld 3 (tFault .link))).st .zero).run.furtherFaults = 1 ∧
    (let u := tAfter (.nodeBecomesSilent 10) (tLive.setEntry 10 (some ⟨20, .control, .static, 12, 100, false⟩))
     u.entryAt 10 = some ⟨20, .control, .static, 12, 100, true⟩ ∧ u.notices.bits = noticeMask .nodeSilent) := by
  decide +kernel

/-! ### Routing -/

/-- A frame of the application processor, node 20. -/
def tFrame (priority : BitVec 3) (kind : BitVec 5) (dest : NodeId) (payload : List Byte) : Frame :=
  ⟨priority, kind, 0, 20, 0, dest, payload⟩

/-- Frames received on port `a` that stand in the queue of their class. -/
def tHeld (a : Port) (c : QClass) (k : Nat) : List Queued :=
  (List.range k).map (fun i => ⟨tFrame 3 24 22 [byteOf i], .transit a, c⟩)

/-- The figures of section 8.11: the frame that turns the drop mode on, the frame it drops, a request in it, and the release at
LOW (R156). -/
theorem test_drop_mode :
    (let s := tLive.modPort .appliance (fun q => { q with bulk := tHeld .control .bulk 27 })
     let u := tAfter (.frameArrival .control (tFrame 6 24 22 [])) s
     u.held .control = 28 ∧ u.control.dropMode = true ∧ u.notices.bits = 0) ∧
    (let s := (tLive.modPort .appliance (fun q => { q with bulk := tHeld .control .bulk 28 })).modPort .control
       (fun q => { q with dropMode := true })
     let u := tAfter (.frameArrival .control (tFrame 6 24 22 [])) s
     let v := tAfter (.frameArrival .control (tFrame 1 16 27 [1, 7])) s
     u.held .control = 28 ∧ u.control.counters[10] = 1 ∧ u.notices.bits = noticeMask .drops ∧
     v.requests = [⟨1, 7, 20, []⟩] ∧ v.held .control = 28) ∧
    (let s := (tLive.modPort .appliance (fun q => { q with
         bulk := tHeld .control .bulk 20, activity := .transmitting ⟨tFrame 3 24 22 [], .transit .control, .bulk⟩ })).modPort
       .control (fun q => { q with dropMode := true })
     (tAfter (.transmissionCompleted .appliance) s).control.dropMode = false) ∧
    (let s := tLive.modPort .appliance (fun q => { q with bulk := tHeld .control .bulk 40 ++ tHeld .appliance .bulk 8 })
     let u := tAfter (.frameArrival .control (tFrame 6 24 22 [])) s
     u.control.counters[11] = 1 ∧ u.notices.bits = noticeMask .drops) := by
  decide +kernel

/-- An arrival while joining and while sending, one turned away, and each action: forward, drop, take, both, guard; the default
action and the classes by priority (R147, R148, R154). -/
theorem test_arrivals :
    (let s := tLive.modPort .control (fun q => { q with health := .joining })
     tAfter (.frameArrival .control (tFrame 0 24 22 [])) s = s) ∧
    (let s := tLive.modPort .control (fun q => { q with activity := .contending ⟨tFrame 3 24 22 [], .transit .control, .control⟩ })
     tAfter (.frameArrival .control (tFrame 0 24 22 [])) s = s) ∧
    (tAfter (.frameArrival .appliance (tFrame 0 24 22 [])) tLive).appliance.counters[6] = 1 ∧
    (tAfter (.frameArrival .control (tFrame 1 24 22 [])) tLive).appliance.urgent.length = 1 ∧
    (tAfter (.frameArrival .control (tFrame 2 24 22 [])) tLive).appliance.control.length = 1 ∧
    (tAfter (.frameArrival .control (tFrame 5 24 22 [])) tLive).appliance.bulk.length = 1 ∧
    (tAfter (.frameArrival .control (tFrame 5 24 22 [])) { tLive with defaultForward := false }).control.counters[5] = 1 ∧
    (let u := tAfter (.frameArrival .appliance ⟨3, 13, 0, 4, 0, 31, [44, 1, 0]⟩) tLive
     u.station0.heat.bowl = some 300 ∧ u.control.bulk = []) ∧
    (let u := tAfter (.frameArrival .appliance ⟨3, 8, 0, 1, 0, 31, [0, 0, 0, 0, 0]⟩) tLive
     u.station0.drive.report = some ⟨0, 0, false⟩ ∧ u.control.bulk.length = 1) ∧
    (tAfter (.frameArrival .appliance ⟨3, 16, 0, 1, 0, 27, [1, 7]⟩) tLive).appliance.counters[5] = 1 ∧
    (tAfter (.frameArrival .control (tFrame 1 5 2 [7, 0])) tLive).station0.drive.manualHeat = 7 := by
  decide +kernel

/-- The forward part: a local destination, the part's own number, the drop mode, an isolated far port. The take part: wrong
lengths, an unbound source, a wrong role, the other reports, and requests short, misaddressed, third and fourth (R149, R151,
R182). -/
theorem test_parts :
    (forwardPart .control .byPriority (tFrame 3 24 21 []) tLive).control.counters[9] = 1 ∧
    (forwardPart .control .byPriority (tFrame 3 24 27 []) tLive).control.counters[9] = 1 ∧
    (forwardPart .control .byPriority (tFrame 3 24 1 []) tLive).appliance.control.length = 1 ∧
    (forwardPart .control .byPriority (tFrame 3 24 31 [])
      (tLive.modPort .appliance (fun q => { q with health := .isolated }))).appliance.counters[12] = 1 ∧
    (takePart .appliance ⟨3, 12, 0, 3, 0, 31, []⟩ true tLive).appliance.counters[13] = 1 ∧
    (takePart .appliance ⟨3, 13, 0, 20, 0, 31, [0, 0, 0]⟩ true tLive).appliance.counters[14] = 1 ∧
    (takePart .appliance ⟨3, 13, 0, 3, 0, 31, [0, 0, 0]⟩ true tLive).appliance.counters[15] = 1 ∧
    (takePart .appliance ⟨3, 12, 0, 8, 0, 31, 9 :: List.replicate 12 0⟩ true tLive).station1.weigh.lastSeq = some 9 ∧
    (takePart .appliance ⟨3, 9, 0, 7, 0, 31, [5, 0, 1]⟩ true tLive).station1.heat.report = some ⟨5, true⟩ ∧
    (takePart .appliance ⟨3, 10, 0, 10, 0, 31, [3]⟩ true tLive).station1.drive.lidReport = some ⟨true, true⟩ ∧
    (takePart .appliance (tFrame 1 16 27 [1, 7]) true tLive).appliance.counters[5] = 1 ∧
    (takePart .control (tFrame 1 16 28 [1, 7]) true tLive).control.counters[5] = 1 ∧
    (takePart .control (tFrame 1 16 27 [1]) true tLive).control.counters[13] = 1 ∧
    (let r : Request := ⟨1, 7, 20, []⟩
     (takePart .control (tFrame 1 16 27 [1, 8, 2]) true { tLive with requests := [r, r] }).requests = [r, r, ⟨1, 8, 20, [2]⟩] ∧
     (takePart .control (tFrame 1 16 27 [1, 8, 2]) true { tLive with requests := [r, r, r] }).control.counters[16] = 1) := by
  decide +kernel

/-- ROUTE_WRITE's refusals in order, a write read back, and the default action (R152, R153). -/
theorem test_routes :
    tReplies (.routeWrite 20 7 [24, 0, 0, 0, 0, 0, 0, 0, 0, 0, 0]) tLive [12, 0] ∧
    tReplies (.routeWrite 20 7 [23, 3, 32, 0, 0, 0, 0, 0, 0, 0, 0]) tLive [12, 1] ∧
    tReplies (.routeWrite 20 7 [23, 2, 32, 0, 0, 0, 0, 32, 0, 0, 0]) tLive [12, 2] ∧
    tReplies (.routeWrite 20 7 [23, 2, 31, 31, 31, 31, 31, 32, 5, 0, 0]) tLive [12, 7] ∧
    tReplies (.routeWrite 20 7 [23, 2, 31, 31, 31, 31, 31, 31, 5, 4, 0]) tLive [12, 8] ∧
    tReplies (.routeWrite 20 7 [23, 2, 31, 31, 31, 31, 31, 31, 4, 4, 0]) tLive [12, 9] ∧
    (tServed (.routeWrite 20 7 [23, 1, 24, 31, 2, 3, 4, 5, 0, 2, 1]) tLive).routes[23] =
      { enable := true, arrival := .appliance, kindValue := 24, kindMask := 31, sourceValue := 2, sourceMask := 3, destValue := 4
        destMask := 5, action := .forward, cls := .fixed .bulk } ∧
    tReplies (.routeRead 20 7 [7]) tLive [0, 0, 0, 4, 28, 0, 0, 0, 0, 4, 0, 1] ∧ tReplies (.routeRead 20 7 [24]) tLive [12, 0] ∧
    tReplies (.routeDefaultWrite 20 7 [1]) tLive [0, 0, 1] ∧ (tServed (.routeDefaultWrite 20 7 [1]) tLive).defaultForward = false ∧
    tReplies (.routeDefaultWrite 20 7 [0]) tLive [0, 0, 0] ∧ tReplies (.routeDefaultWrite 20 7 [2]) tLive [12, 1] ∧
    tReplies (.routeDefaultRead 20 7 []) tLive [0, 0, 0] := by
  decide +kernel

/-- The two SPEED_SETs of section 8.10, an origination on an isolated port, a kind that does not coalesce, and a bit of the
notice set: new, set already, and not enabled (R158, R160, R187). -/
theorem test_originations :
    (let u := originate (.speedSet .zero) 1 [2, 0, 0] (originate (.speedSet .zero) 1 [1, 0, 0] tLive)
     tUnsent (.speedSet .zero) u = [(1, [2, 0, 0])] ∧
     (originate (.weightReport .zero) 31 [1] (originate (.weightReport .zero) 31 [0] tLive)).control.bulk.length = 1 ∧
     (originate .reply 20 [1] (originate .reply 20 [0] tLive)).control.control.length = 2) ∧
    (originate (.speedSet .zero) 1 [1, 0, 0]
      (tLive.modPort .appliance (fun q => { q with health := .isolated }))).appliance.counters[12] = 1 ∧
    setNotice .drops { tLive with notices := { tLive.notices with bits := noticeMask .drops } } =
      { tLive with notices := { tLive.notices with bits := noticeMask .drops } } ∧
    (setNotice .drops { tLive with notices := { tLive.notices with enables := 0 } }).notices = ⟨noticeMask .drops, 0, 0⟩ ∧
    tUnsent .notice (setNotice .restarted (State.blank 27)) = [(31, [1, 0, 1, 0])] := by
  decide +kernel

/-- The STEP_REPORT of a step end, its fifth, and one on an isolated control port (R36, R161, R191, R197). -/
theorem test_step_report :
    (let s := (tStep tWait .active).modRun .zero (fun r => { r with elapsed := 258, doseBase := some 5 })
     let u := tServed (.confirm 20 7 [0, 255]) s
     tUnsent (.stepReport .zero) u = [(31, [0, 0, 3, 2, 1, 0, 0, 0, 0, 251, 255, 255, 0, 0, 16])] ∧
     u.notices.bits &&& noticeMask (.stepEnd .zero) ≠ 0) ∧
    (let r := (tLive.station0.captureReport .stopped)
     let s := originateStepReport .one r (originateStepReport .zero r (originateStepReport .one r (originateStepReport .zero r tLive)))
     s.stepReportsHeld = 4 ∧ (originateStepReport .one r s).station1.counters[0] + (originateStepReport .one r s).station1.counters[1] +
       (originateStepReport .one r s).station1.counters[2] = 1 ∧
     (originateStepReport .one r s).control = s.control ∧
     (originateStepReport .zero r (tLive.modPort .control (fun q => { q with health := .isolated }))).control.counters[12] = 1) := by
  decide +kernel

/-! ### The station link -/

/-- The frames that stand at the head and behind it in the scheduler's figures (section 8.10). -/
def tC (k : Nat) : Queued := ⟨tFrame 3 24 22 [byteOf k], .transit .control, .control⟩

/-- The same of class BULK. -/
def tB (k : Nat) : Queued := ⟨tFrame 6 24 22 [byteOf k], .transit .control, .bulk⟩

/-- The appliance port with CONTROL and BULK frames waiting and these credits. -/
def tSched (c b : List Queued) (cc cb : Nat) : State :=
  tLive.modPort .appliance (fun q => { q with control := c, bulk := b, creditControl := cc, creditBulk := cb })

/-- Section 8.10 attempt by attempt: C1, B1 when CONTROL's credit is spent, the reload at C5, B3 alone; URGENT first; the gap
of 7, 8, 15 and 16 bits; and an empty, joining and isolated port (R163, R169). -/
theorem test_scheduler :
    (let won := fun s => tAfter (.wonArbitration .appliance) (tAfter (.transmissionStart .appliance 8) s)
     let sees := fun s e (c : List Queued) (b : List Queued) cc cb =>
       decide ((won s).appliance.activity = .transmitting e ∧ (won s).appliance.control = c ∧ (won s).appliance.bulk = b ∧
         (won s).appliance.creditControl = cc ∧ (won s).appliance.creditBulk = cb)
     sees (tSched [tC 1, tC 2] [tB 1] 4 1) (tC 1) [tC 2] [tB 1] 3 1 ∧
     sees (tSched [tC 5, tC 6] [tB 1, tB 2] 0 1) (tB 1) [tC 5, tC 6] [tB 2] 0 0 ∧
     sees (tSched [tC 5, tC 6] [tB 2] 0 0) (tC 5) [tC 6] [tB 2] 3 1 ∧
     sees (tSched [] [tB 3] 2 0) (tB 3) [] [] 2 0 ∧
     sees (tSched [tC 6] [] 0 0) (tC 6) [] [] 0 0) ∧
    (let s := originate (.speedSet .zero) 1 [9, 0, 0] (tSched [tC 3] [] 2 1)
     (tAfter (.transmissionStart .appliance 8) s).appliance.engine.map (fun e => e.frame.payload) = [[9, 0, 0]] ∧
     tAfter (.transmissionStart .appliance 7) s = s) ∧
    (let s := (tSched [tC 1] [] 4 1).modPort .appliance (fun q => { q with health := .passive, tx := 96, wasTransmitter := true })
     tAfter (.transmissionStart .appliance 15) s = s ∧
     (tAfter (.transmissionStart .appliance 16) s).appliance.activity = .contending (tC 1)) ∧
    tAfter (.transmissionStart .appliance 8) tLive = tLive ∧
    (let s := (tSched [tC 1] [] 4 1).modPort .appliance (fun q => { q with health := .joining })
     tAfter (.transmissionStart .appliance 8) s = s) := by
  decide +kernel

/-- The appliance port contending with a frame. -/
def tContends (e : Queued) (s : State) : State := s.modPort .appliance (fun q => { q with activity := .contending e })

/-- Arbitration lost by a transit frame (the C3 of section 8.10), by one's own frame alone, with a newer one behind, and to a
binding that changed; not lost to an equal triple; won by a NOTICE (R163, R170, R188). -/
theorem test_arbitration :
    (let u := tAfter (.lostArbitration .appliance ⟨1, 4, 2⟩) (tContends (tC 3) (tSched [tC 4] [tB 1] 2 1))
     u.appliance.control = [tC 3, tC 4] ∧ u.appliance.creditControl = 2 ∧ u.appliance.counters[4] = 1 ∧
     u.appliance.activity = .receiving) ∧
    (let s := tContends (tC 3) tLive
     tAfter (.lostArbitration .appliance (Frame.arbKey (tC 3).frame)) s = s) ∧
    (let e : Queued := ⟨ownFrame 27 (.speedSet .zero) 1 [1, 0, 0], .own (.speedSet .zero), .urgent⟩
     let n : Queued := ⟨ownFrame 27 (.speedSet .zero) 1 [2, 0, 0], .own (.speedSet .zero), .urgent⟩
     let lose := fun s => (tAfter (.lostArbitration .appliance ⟨0, 0, 0⟩) (tContends e s)).appliance.urgent
     lose tLive = [e] ∧
     lose (tLive.modPort .appliance (fun q => { q with urgent := [n] })) = [n] ∧
     lose (tSt (fun st => { st with binding := {} })) = []) ∧
    (let e : Queued := ⟨ownFrame 27 .notice 31 [1, 0, 1, 0], .own .notice, .control⟩
     let s : State := { tLive with notices := ⟨1, 1, 1⟩ }
     let u := tAfter (.wonArbitration .control) (s.modPort .control (fun q => { q with activity := .contending e }))
     let v := tAfter (.lostArbitration .control ⟨0, 0, 0⟩) (s.modPort .control (fun q => { q with activity := .contending e }))
     u.notices.accumulator = 0 ∧ u.control.activity = .transmitting e ∧ u.control.creditControl = 3 ∧
     v.control.control = [e] ∧ v.notices.accumulator = 1) := by
  decide +kernel

/-- The appliance port sending a frame with these counts. -/
def tSends (h : Health) (tx rx : Nat) : State :=
  tLive.modPort .appliance (fun q => { q with health := h, tx := tx, rx := rx, activity := .transmitting (tC 1) })

/-- The ends of a transmission at the edges of the health states: 96 to 95, 88 to 96, no acknowledgment while PASSIVE, and 192
to 200 (R174, R176). -/
theorem test_transmission_ends :
    (let u := tAfter (.transmissionCompleted .appliance) (tSends .passive 96 0)
     u.appliance.health = .active ∧ u.appliance.tx = 95 ∧ u.notices.bits = noticeMask .portChange) ∧
    (tAfter (.transmissionCompleted .appliance) (tSends .active 0 0)).appliance.tx = 0 ∧
    (let u := tAfter (.transmitError .appliance .bit) (tSends .active 88 0)
     u.appliance.health = .passive ∧ u.appliance.tx = 96 ∧ u.notices.bits = noticeMask .portChange) ∧
    (let u := tAfter (.transmitError .appliance .noAck) (tSends .passive 120 0)
     u.appliance.health = .passive ∧ u.appliance.tx = 120 ∧ u.appliance.counters[3] = 1) ∧
    (tAfter (.transmitError .appliance .noAck) (tSends .active 0 0)).appliance.tx = 8 ∧
    (tAfter (.transmitError .appliance .bit) (tSends .passive 192 0)).appliance.health = .passive := by
  decide +kernel

/-- The control port with these counts, hearing. -/
def tHears (h : Health) (tx rx : Nat) : State :=
  tLive.modPort .control (fun q => { q with health := h, tx := tx, rx := rx, activity := .receiving })

/-- Receive errors at 95, 126 and 127, one only for each frame and none during one's own mark, the window of FORM and of another
node's mark, a start mark, a good frame at 96 and at the frozen 127, and an isolated port that counts good frames (R171 to R173,
R175, R179). -/
theorem test_receiving :
    (let u := tAfter (.receiveError .control .check) (tHears .active 0 95)
     u.control.health = .passive ∧ u.control.rx = 96 ∧ u.control.errorMark = some .dominant ∧
     u.control.acknowledged = false ∧ u.notices.bits = noticeMask .portChange) ∧
    (tAfter (.receiveError .control .code) (tHears .passive 0 126)).control.rx = 127 ∧
    (tAfter (.receiveError .control .code) (tHears .passive 0 127)).control.rx = 127 ∧
    (let u := tAfter (.receiveError .control .form) (tHears .active 0 0)
     u.control.acknowledged = true ∧ tAfter (.receiveError .control (.mark true)) u = u ∧
     (tAfter (.receiveError .control .code) (tAfter (.startMarkReceived .control) u)).control.rx = 2) ∧
    (tAfter (.receiveError .control (.mark true)) (tHears .isolated 208 0)).control.acknowledged = false ∧
    (tAfter (.receiveError .control (.mark false)) (tHears .passive 96 0)).control.acknowledged = false ∧
    (let u := tAfter (.transmitError .appliance .bit) (tSends .active 0 0)
     tAfter (.receiveError .appliance (.mark true)) u = u) ∧
    (tAfter (.startMarkReceived .control) tLive).control.activity = .receiving ∧
    tAfter (.startMarkReceived .appliance) (tSends .active 0 0) = tSends .active 0 0 ∧
    tAfter (.receiveError .appliance (.mark false)) (tSends .active 0 0) = tSends .active 0 0 ∧
    (goodFrameAt .control (tHears .passive 0 96)).control.health = .active ∧
    (goodFrameAt .control (tHears .passive 0 127)).control.rx = 127 ∧
    (let s := (tHears .isolated 208 0).modPort .control (fun q => { q with goodFrames := 63 })
     (goodFrameAt .control s).control.goodFrames = 64 ∧ (goodFrameAt .control s).control.acknowledged = false) ∧
    (let s := (tHears .isolated 208 0).modPort .control (fun q => { q with
        goodFrames := 62, cfg := { q.cfg with recovery := .count } })
     (goodFrameAt .control s).control.health = .isolated ∧
     (goodFrameAt .control (goodFrameAt .control s)).control.health = .joining) := by
  decide +kernel

/-- Isolation at 193, and of a frame still contending: IDLE, busy and faulted stations on the appliance port, and the control
port (R165, R178). -/
theorem test_isolation :
    (let u := tAfter (.transmitError .appliance .bit) ((tSends .passive 193 0).modDrive .zero (fun d => { d with manualSpeed := 3 }))
     u.appliance.health = .isolated ∧ u.appliance.tx = 201 ∧ u.station0.drive.manualSpeed = 0 ∧
     u.appliance.counters[12] = 1) ∧
    (let s := tStep tWait .active
     let u := tAfter (.transmitError .appliance .noAck) (s.modPort .appliance (fun q => { q with
       tx := 250, activity := .transmitting (tC 1), control := [tC 2] }))
     u.station0.run.faultCause = some .link ∧ u.appliance.tx = 255 ∧ 1 ≤ u.appliance.counters[12]) ∧
    (let u := tAfter (.transmitError .appliance .bit) ((tFault .link).modPort .appliance (fun q => { q with
       tx := 193, health := .passive, activity := .contending (tC 1) }))
     u.station0.run.furtherFaults = 1) ∧
    (let u := tAfter (.transmitError .control .bit) ((tStep tWait .active).modPort .control (fun q => { q with
       tx := 193, health := .passive, activity := .transmitting (tC 1) }))
     u.station0.run.state = .running ∧ u.control.health = .isolated) := by
  decide +kernel

/-- The end of a join, and the recovery of each port with a pending unlock, an accumulated notice and a frame under way; COUNT at
63 and 64 good frames (R177, R179, R129, R188). -/
theorem test_recovery :
    (tAfter (.joinWaitEnd .control) (tHears .joining 0 0)).control.health = .active ∧
    tAfter (.joinWaitEnd .control) tLive = tLive ∧ tAfter (.portRecovery .control) tLive = tLive ∧
    (let u := tAfter (.portRecovery .appliance) ((tPending 0 0).modPort .appliance (fun q => { q with health := .isolated, tx := 208 }))
     u.appliance.health = .joining ∧ u.appliance.tx = 0 ∧ tUnsent (.lidSet .zero) u = [(5, [1])]) ∧
    (let u := tAfter (.portRecovery .control) { tHears .isolated 208 0 with notices := ⟨1, 1, 1⟩ }
     tUnsent .notice u = [(31, [1, 0, 1, 0])] ∧ u.notices.bits = 0x4001 ∧ u.control.activity = .idle ∧
     tAfter (.frameArrival .control ⟨3, 24, 0, 20, 0, 22, []⟩) u = u ∧
     dueCommands u = [.joinWaitEnd .control]) ∧
    (let s := (tHears .isolated 208 0).modPort .control (fun q => { q with
        goodFrames := 63, cfg := { q.cfg with recovery := .count } })
     tAfter (.portRecovery .control) s = s ∧
     (tAfter (.portRecovery .control) (s.modPort .control (fun q => { q with goodFrames := 64 }))).control.health =
       .joining) ∧
    tUnsent .notice (tAfter (.portRecovery .control) { tHears .isolated 208 0 with notices := ⟨0, 0, 0⟩ }) = [] := by
  decide +kernel

/-- PORT_CONFIG at its bounds with each refusal, the drop mode and the aging it moves, and an isolated port whose measure it
meets (R137, R138, R157, R179). -/
theorem test_port_config :
    tReplies (.portConfigWrite 20 7 [2, 0, 0, 0]) tLive [12, 255] ∧ tReplies (.portConfigWrite 20 7 [0, 8, 0, 0]) tLive [12, 0] ∧
    tReplies (.portConfigWrite 20 7 [0, 3, 41, 0]) tLive [12, 1] ∧ tReplies (.portConfigWrite 20 7 [0, 3, 20, 0]) tLive [12, 2] ∧
    tReplies (.portConfigWrite 20 7 [0, 3, 21, 0]) tLive [0, 0, 21, 0] ∧
    tReplies (.portConfigWrite 20 7 [0, 4, 28, 0]) tLive [12, 2] ∧ tReplies (.portConfigWrite 20 7 [0, 1, 1, 0]) tLive [12, 2] ∧
    tReplies (.portConfigWrite 20 7 [0, 1, 2, 0]) tLive [0, 0, 2, 0] ∧
    (tServed (.portConfigWrite 20 7 [1, 0, 0, 0]) tLive).appliance.cfg.admission = .opened ∧
    (tServed (.portConfigWrite 20 7 [0, 3, 21, 0])
      (tLive.modPort .appliance (fun q => { q with bulk := tHeld .control .bulk 21 }))).control.dropMode = true ∧
    (let u := tServed (.portConfigWrite 20 7 [0, 2, 1, 0]) (tLive.setEntry 10 (some ⟨20, .control, .learned, 100, 0, false⟩))
     u.ageLimit = 1 ∧ u.entryAt 10 = none ∧ u.entryAt 11 = tLive.entryAt 11) ∧
    (let s := (tHears .isolated 208 0).modPort .control (fun q => { q with goodFrames := 64 })
     (tServed (.portConfigWrite 20 7 [0, 7, 1, 0]) s).control.health = .joining ∧
     (tServed (.portConfigWrite 20 7 [0, 7, 0, 0]) s).control.health = .isolated) ∧
    tReplies (.portConfigRead 20 7 [1, 3]) tLive [0, 0, 28, 0] ∧ tReplies (.portConfigRead 20 7 [1, 8]) tLive [12, 0] ∧
    tReplies (.portConfigRead 20 7 [2, 0]) tLive [12, 255] := by
  decide +kernel

/-- PORT_STATUS and PORT_RESTART, the latter of a quiet port, of one that contends with a transit frame, and of an isolated
one (R180, R181). -/
theorem test_port_restart :
    tReplies (.portStatus 20 7 [2]) tLive [12, 255] ∧ tReplies (.portRestart 20 7 [2]) tLive [12, 255] ∧
    (tServed (.portRestart 20 7 [1]) tLive).appliance.health = .joining ∧
    (let u := tServed (.portRestart 20 7 [1]) (tContends (tC 1) (tSched [tC 2] [] 4 1))
     u.appliance.control = [tC 1, tC 2] ∧ u.appliance.activity = .idle ∧ u.notices.bits = noticeMask .portChange) ∧
    (let s := tAfter (.wonArbitration .appliance) (tContends (tC 1) (tSched [tC 2] [] 4 1))
     let u := tServed (.portRestart 20 7 [1]) s
     s.appliance.creditControl = 3 ∧ u.appliance.creditControl = 4 ∧ u.appliance.control = [tC 1, tC 2] ∧
     tReplies (.portStatus 20 7 [1]) s [0, 0, 17, 0, 0, 0, 0, 0, 0, 0, 0, 1, 0]) ∧
    tReplies (.portStatus 20 7 [1]) (tContends (tC 1) (tSched [tC 2] [] 4 1)) [0, 0, 17, 0, 0, 0, 0, 0, 0, 0, 0, 1, 0] ∧
    (let e : Queued := ⟨ownFrame 27 .notice 31 [1, 0, 1, 0], .own .notice, .control⟩
     let u := tServed (.portRestart 20 7 [0]) { tLive.modPort .control (fun q => { q with activity := .transmitting e }) with
       notices := ⟨1, 0xFFFF, 0⟩ }
     tUnsent .notice u = [(31, [1, 64, 0, 64])]) ∧
    (tServed (.portRestart 20 7 [0]) (tHears .isolated 208 0)).control.health = .joining := by
  decide +kernel

/-! ### Management and reset -/

/-- A request out of its turn, in reset, without a reply buffer and with a wrong length; the control port's three reply buffers
(R158, R182, R183). -/
theorem test_turns :
    (let s : State := { tLive with requests := [⟨1, 9, 20, []⟩] }
     tAfter (.identify 20 7 []) s = s) ∧
    (let s : State := { tLive with inReset := true }
     tAfter (.identify 20 7 []) s = s) ∧
    (let s := tHead (.identify 20 7 []) (originate .reply 20 [] (originate .reply 20 [] (originate .reply 20 [] tLive)))
     s.replyFree = false ∧ tAfter (.identify 20 7 []) s = s) ∧
    tAfter (.identify 20 7 []) tLive = tServed (.identify 20 7 []) tLive ∧
    tReplies (.identify 20 7 [0]) tLive [13, 1] ∧ tReplies (.nodeWrite 20 7 [1, 2]) tLive [13, 1] ∧
    tReplies (.unknownRequestCode 0x46 20 7 []) tLive [13, 0] := by
  decide +kernel

/-- IDENTIFY's constants, STATUS_READ's refusals and snapshot numbers, and COUNTERS_READ with and without a clear (R185, R186,
R192). -/
theorem test_reads :
    tReplies (.identify 20 7 []) tLive [0, 0, 0x41, 0x62, 3, 2, 27, 16, 24, 48, 20, 48] ∧
    tReplies (.statusRead 20 7 [3, 0]) tLive [12, 0] ∧ tReplies (.statusRead 20 7 [0, 4]) tLive [12, 1] ∧
    tReplies (.statusRead 20 7 [2, 10]) tLive [12, 1] ∧ tReplies (.statusRead 20 7 [2, 9]) tLive [12, 2] ∧
    (tServed (.statusRead 20 7 [1, 0]) { tLive with snapshots := Vector.replicate 3 ⟨255, none⟩ }).snapshots[1].number = 0 ∧
    tReplies (.statusRead 20 7 [1, 9]) { tLive with snapshots := Vector.replicate 3 ⟨4, some (tLive.page 1)⟩ }
      ([0, 4] ++ (((tLive.page 1)[9]?).getD []).map BitVec.toNat) ∧
    tReplies (.countersRead 20 7 [4, 0, 1, 0]) tLive [12, 0] ∧ tReplies (.countersRead 20 7 [1, 17, 1, 0]) tLive [12, 1] ∧
    tReplies (.countersRead 20 7 [2, 5, 1, 0]) tLive [12, 1] ∧ tReplies (.countersRead 20 7 [0, 0, 4, 0]) tLive [12, 2] ∧
    tReplies (.countersRead 20 7 [3, 0, 0, 0]) tLive [12, 2] ∧
    (let s := countPort .control .format (countPort .control .mgmtOverflow tLive)
     tReplies (.countersRead 20 7 [0, 15, 3, 0]) s [0, 2, 0, 0, 0, 0, 1, 0, 0, 0] ∧
     (tServed (.countersRead 20 7 [0, 15, 3, 1]) s).control.counters[16] = 0 ∧
     (tServed (.countersRead 20 7 [0, 15, 3, 1]) s).control.counters[13] = 1) ∧
    (tServed (.countersRead 20 7 [2, 4, 1, 1]) (countStation .zero .duplicates tLive)).station0.counters[4] = 0 := by
  decide +kernel

/-- The notice requests and the report configuration at its bounds, and the report timer's end (R187 to R190, R86). -/
theorem test_notices_and_reports :
    (let s : State := { tLive with notices := ⟨5, 1, 0⟩ }
     let u := tServed (.noticeEnable 20 7 [4, 0]) s
     tReplies (.noticeEnable 20 7 [4, 0]) s [0, 0, 4, 0] ∧ u.notices = ⟨5, 4, 4⟩ ∧ tUnsent .notice u = [(31, [4, 0, 4, 0])] ∧
     tUnsent .notice (tServed (.noticeEnable 20 7 [1, 0]) s) = []) ∧
    (let s : State := { tLive with notices := ⟨5, 5, 5⟩ }
     tReplies (.noticeClear 20 7 [4, 0]) s [0, 0, 1, 0] ∧ (tServed (.noticeClear 20 7 [4, 0]) s).notices = ⟨1, 5, 1⟩ ∧
     tReplies (.noticeRead 20 7 []) s [0, 0, 5, 0, 5, 0, 5, 0]) ∧
    tReplies (.reportConfigWrite 20 7 [2, 0, 0]) tLive [12, 255] ∧ tReplies (.reportConfigWrite 20 7 [0, 99, 0]) tLive [12, 1] ∧
    tReplies (.reportConfigWrite 20 7 [0, 209, 7]) tLive [12, 1] ∧
    (tServed (.reportConfigWrite 20 7 [0, 208, 7]) tLive).station0.reportTimer = some 2000 ∧
    (tServed (.reportConfigWrite 20 7 [0, 100, 0]) tLive).station0.reportInterval = 100 ∧
    (tServed (.reportConfigWrite 20 7 [0, 0, 0]) (tSt (fun st => { st with reportTimer := some 1 }))).station0.reportTimer = none ∧
    tReplies (.reportConfigRead 20 7 [0]) (tSt (fun st => { st with reportInterval := 500, reportTimer := some 2 }))
      [0, 0, 244, 1, 2, 0] ∧
    tReplies (.reportConfigRead 20 7 [2]) tLive [12, 255] ∧
    (let s := tSt (fun st => { st with reportTimer := none })
     tAfter (.reportTimerExpiry .zero) s = s) ∧
    (let s := tSt (fun st => { st with reportInterval := 100, reportTimer := some 0, weigh := { st.weigh with net := -2 } })
     (tAfter (.reportTimerExpiry .zero) s).station0.reportTimer = some 100 ∧
     tUnsent (.weightReport .zero) (tAfter (.reportTimerExpiry .zero) s) = [(31, [0, 254, 255, 255, 0, 0, 0, 0])] ∧
     tUnsent (.weightReport .zero) (tAfter (.reportTimerExpiry .zero) (s.modSt .zero (fun st => { st with binding := {} })))
       = []) := by
  decide +kernel

/-- The state after a power-on reset is that of the first row of section 10.7; the reset pin; RESTART with keep 0, 1 and 2, the
middle one with a STATIC and a LEARNED node and RESTARTED not enabled (R193, R194). -/
theorem test_reset :
    tAfter (.powerOnReset 0) tLive = State.reset ∧ State.reset.notices = ⟨1, 0xFFFF, 1⟩ ∧
    tUnsent .notice State.reset = [(31, [1, 0, 1, 0])] ∧ (tAfter (.powerOnReset 3) tLive).ownNode = 30 ∧
    (let s := tAfter .resetAsserted tLive
     s.inReset = true ∧ tAfter (.identify 20 7 []) s = s ∧ tAfter (.powerOnReset 0) s = State.reset) ∧
    tServed (.restart 20 7 [0]) tLive = State.reset ∧ tReplies (.restart 20 7 [2]) tLive [12, 0] ∧
    (let s : State := { tMute 1 (tStep tWait .active) with notices := ⟨0, 2, 0⟩ }
     let u := tServed (.restart 20 7 [1]) s
     u.entryAt 0 = some ⟨1, .appliance, .static, 0, 100, false⟩ ∧ u.entryAt 11 = none ∧ u.station0.run.state = .idle ∧
     u.station0.recipeLength = 2 ∧ u.station0.binding = s.station0.binding ∧ u.notices = ⟨1, 2, 0⟩ ∧ u.control.control = []) := by
  decide +kernel

/-- The state after a step. -/
def tStepped (s : State) : State :=
  match step s with
  | .next t => t
  | _ => s

/-- A step: the front command, an idle part in reset, a head request taken up, and a millisecond. -/
theorem test_step :
    tStepped { tLive with pending := [.startMarkReceived .control, .resetAsserted] } =
      tAfter (.startMarkReceived .control) { tLive with pending := [.resetAsserted] } ∧
    tStepped { tLive with inReset := true } = { tLive with inReset := true } ∧
    tStepped { tLive with requests := [⟨1, 7, 20, []⟩] } =
      { tLive with requests := [⟨1, 7, 20, []⟩], pending := [.identify 20 7 []] } ∧
    (tStepped (tSt (fun st => { st with drive := { st.drive with speedHold := some 1 } }))).pending = [.speedHoldExpiry .zero] := by
  decide +kernel

/-- What a millisecond does to a tenth, a deadline, a second of warming, an age and a link at rest, and what falls due in it: a
step whose limit an outside reversal has reached among it (R29, R31, R32, R39, R43, R138, R179). -/
theorem test_millisecond :
    (let s := (tStep { tWait with endTime := true, duration := 1, mode := .alt, reversal := 1 } .active)
     let u := tAfter (.reversal .zero) s
     u.station0.run.elapsed = 10 ∧ (tStepped u).pending = [.stepTimerExpiry .zero] ∧
     (tStepped (s.modRun .zero (fun r => { r with elapsed := 9, tenthMs := 99 }))).pending =
       [.reversal .zero, .stepTimerExpiry .zero]) ∧
    (let s := (tStep tWait .basing).modRun .zero (fun r => { r with deadline := some 1, tenthMs := 50 })
     (tStepped s).pending = [.basingDeadlineExpiry .zero] ∧ (passMs s).station0.run.tenthMs = 50 ∧
     (passMs (s.modRun .zero (fun r => { r with state := .paused, phase := none, savedPhase := some .basing }))).station0.run.deadline =
       some 1) ∧
    (let s := tRun (fun r => { r with state := .warming, warmingLimit := some 1, warmMs := 999 })
     (tStepped s).pending = [.warmingLimitExpiry .zero]) ∧
    (let s : State := { tLive with ageMs := 9, nodes := (tLive.setEntry 10 (some ⟨20, .control, .learned, 29999, 0, false⟩)).nodes }
     (passMs s).entryAt 10 = some ⟨20, .control, .learned, 30000, 0, false⟩ ∧ (tStepped s).pending = [.agingRemoval 10] ∧
     (passMs { s with ageMs := 8 }).entryAt 10 = s.entryAt 10) ∧
    (let s := tLive.modPort .control (fun q => { q with health := .isolated, tx := 208, idleBits := 9500 })
     (passMs s).control.idleBits = 10000 ∧ (tStepped s).pending = [.portRecovery .control] ∧
     (passMs (s.modPort .control (fun q => { q with activity := .receiving }))).control.idleBits = 9500) := by
  decide +kernel

/-! ### The link's frames -/

/-- A frame of section 11.1 crosses the link, with its line code. -/
theorem test_crossing :
    (let f := tFrame 3 24 22 [0, 255, 7]
     Frame.wellFormed f = true ∧ Frame.ofBytes (Frame.bytes f) = .ok f) ∧
    unstuffFrom false 1 (stuffFrom false 1 (List.replicate 9 false)) = some (List.replicate 9 false) := by
  decide +kernel

/-! ### The invariants -/

/-- An index that holds an entry is below 16. -/
theorem entryAt_lt {s : State} {i : Nat} {e : NodeEntry} (h : s.entryAt i = some e) : i < 16 := by
  rcases Nat.lt_or_ge i 16 with h1 | h1
  · exact h1
  · simp [State.entryAt, Vector.getElem?_eq_none h1] at h

/-- The live state meets the premise of each invariant of the ports, the grants and the drive. -/
theorem test_ports_sound : PortsSound tLive ∧ ArbiterSound tLive ∧ DriveSound tLive := by
  refine ⟨?_, by unfold ArbiterSound; decide +kernel, ?_⟩
  · intro p; cases p <;> decide +kernel
  · intro n; cases n <;> decide +kernel

/-- The live state meets that of the queues. -/
theorem test_queues_sound : QueuesSound tLive := by
  refine ⟨by decide +kernel, ?_, ?_, ?_, ?_, by decide +kernel, by decide +kernel⟩
  · intro p; cases p <;> decide +kernel
  · intro p c e he; cases p <;> cases c <;> cases he
  · intro p e k he; cases p <;> cases he
  · intro k _
    have h : ∀ p c, (tLive.port p).queue c = [] := by intro p c; cases p <;> cases c <;> rfl
    simp [h]

/-- The live node table and bindings meet that of the nodes. -/
theorem test_nodes_sound : NodesSound tLive := by
  have hn : ∀ i e, tLive.entryAt i = some e → i < 16 ∧ tNode i = some e := fun i e he =>
    ⟨entryAt_lt he, by rw [← (by decide +kernel : ∀ i, i < 16 → tLive.entryAt i = tNode i) i (entryAt_lt he)]; exact he⟩
  have hb : ∀ n r, (tLive.st n).binding.get r = some (BitVec.ofNat 5 (5 * stationNo n + roleNo r + 1)) := by
    intro n r; cases n <;> cases r <;> rfl
  refine ⟨?_, ?_, ?_, ?_, ?_⟩
  · have key : ∀ i, i < 16 → ∀ j, j < 16 → (tNode i).map NodeEntry.number = (tNode j).map NodeEntry.number →
        i = j ∨ tNode i = none := by decide +kernel
    intro i j e f he hf hk
    obtain ⟨h1, h2⟩ := hn i e he
    obtain ⟨h3, h4⟩ := hn j f hf
    rcases key i h1 j h3 (by simp [h2, h4, hk]) with h5 | h5
    · exact h5
    · simp [h2] at h5
  · have key : ∀ i, i < 16 → (tNode i).all (fun e => decide (e.number ≠ tLive.ownNode ∧ e.number ≠ 31 ∧
        (e.origin = .learned → e.limit = 0 ∧ e.silent = false))) = true := by decide +kernel
    intro i e he
    obtain ⟨h1, h2⟩ := hn i e he
    have := key i h1
    rw [h2] at this
    exact of_decide_eq_true this
  · intro n r k hk
    rw [hb] at hk
    cases hk
    cases n <;> cases r <;> exact ⟨_, rfl, rfl, rfl⟩
  · intro n m r q k h1 h2
    rw [hb] at h1 h2
    cases h1
    revert h2
    cases n <;> cases m <;> cases r <;> cases q <;> decide
  · intro n k; cases n <;> (intro h; cases h)

/-- The waiting unlock's state meets those of the nodes and the drive. -/
theorem test_waits_sound : NodesSound tWaits ∧ DriveSound tWaits := by
  obtain ⟨h1, h2, h3, h4, h5⟩ := test_nodes_sound
  have hb : ∀ n, (tWaits.st n).binding = (tLive.st n).binding := by intro n; cases n <;> rfl
  refine ⟨⟨h1, h2, fun n r k h => h3 n r k (hb n ▸ h), fun n m r q k h g => h4 n m r q k (hb n ▸ h) (hb m ▸ g),
    fun n k => by cases n <;> (intro h; cases h)⟩, ?_⟩
  intro n; cases n <;> decide +kernel

/-- A running station and a filled scale meet those of the runs and the weights. -/
theorem test_stations_sound : RunsSound (tStep tWait .active) ∧ WeightsSound (tScale tLive) := by
  refine ⟨?_, ?_⟩
  · intro n
    cases n
    · simp [RunContext.sound, tStep, tSt, State.modSt, State.st]
      decide +kernel
    · simp [RunContext.sound, tStep, tSt, State.modSt, State.st, tLive]
  · intro n; cases n <;> decide +kernel

/-- The live settings meet that of the settings. -/
theorem test_settings_sound : SettingsSound tLive := by
  refine ⟨by decide, by decide, by decide, by decide, ?_, ?_, ?_, ?_, ?_, ?_, ?_⟩
  · intro n i v h
    cases n <;> (unfold limitValue at h; split at h <;> first | (cases h; decide +kernel) | cases h)
  · intro n i v h
    cases n <;> (unfold heatValue at h; split at h <;> first | (cases h; decide +kernel) | cases h)
  · intro n i v h
    cases n <;> (unfold weighValue at h; split at h <;> first | (cases h; decide +kernel) | cases h)
  · intro n; cases n <;> exact ⟨fun h => (by cases h), fun h => (by cases h)⟩
  · intro n; cases n <;> decide +kernel
  · intro p; cases p <;> decide +kernel
  · intro i e h
    have hl : ∀ i, i < 16 → (tLive.entryAt i).all (fun e =>
        decide (e.limit = 0 ∨ 20 ≤ e.limit ∧ e.limit ≤ 2000 ∧ e.limit % 10 = 0)) = true := by decide +kernel
    have := hl i (entryAt_lt h)
    rw [h] at this
    exact of_decide_eq_true this

/-- Captures one sample before their end, with sums at the bound, meet theirs, and the last sample leaves an offset and a gain at
the bound of their range (R80, R82). -/
theorem test_captures_sound :
    (let w : WeighContext := { op := .zeroing, accCount := 15, sum0 := -8388608 * 15, sum1 := 8388607 * 15 }
     w.captureSound ∧
     ((advanceOp .zero ⟨0, -8388608, 8388607, 0, 0⟩ (tWeigh (fun _ => w))).st .zero).weighCfg.zero0 = -8388608 ∧
     ((advanceOp .zero ⟨0, -8388608, 8388607, 0, 0⟩ (tWeigh (fun _ => w))).st .zero).weighCfg.zero1 = 8388607) ∧
    (let w : WeighContext := { op := .calibrating, accCount := 15, refMass := some 100, sumS := 0 }
     w.captureSound ∧
     ((advanceOp .zero ⟨0, 32, 0, 0, 0⟩ (tWeigh (fun _ => w))).st .zero).weighCfg.gain = 3276800) := by
  refine ⟨⟨⟨fun _ => (by decide), fun h => (by cases h)⟩, by decide +kernel, by decide +kernel⟩,
    ⟨fun h => (by cases h), fun _ => ⟨100, rfl, by decide⟩⟩, by decide +kernel⟩

/-- A station that is not IDLE keeps its recipe through a step (the premises of the frozen tables). -/
theorem test_frozen :
    (tStep tWait .active).station0.run.state ≠ .idle ∧
    (tStepped { tStep tWait .active with pending := [.recipeClear 20 7 [0]] }).station0.recipeLength = 2 := by
  decide +kernel
end Sys2Proof.Machine
end

/-! PROOFS. The recipe tables of chapter 1: the lock (R14, R15), the editing requests and STEP_READ (R8 to R12), and the
refusals of START (R21, R22). -/

namespace Sys2Proof.Machine

open Sys2Proof

/-! ### The checks a request's rule begins with -/

theorem withStation_of_none {b : Byte} {rule : StationId → State → State × Answer} {s : State}
    (hb : stationOf b = none) : withStation b rule s = (s, badStation) := by
  simp [withStation, hb]

theorem withStation_of_some {b : Byte} {n : StationId} {rule : StationId → State → State × Answer} {s : State}
    (hb : stationOf b = some n) : withStation b rule s = rule n s := by
  simp [withStation, hb]

theorem whenIdle_of_idle {n : StationId} {rule : State → State × Answer} {s : State}
    (hi : (s.st n).run.state = .idle) : whenIdle n rule s = rule s := if_pos hi

theorem whenIdle_of_not_idle {n : StationId} {rule : State → State × Answer} {s : State}
    (hi : (s.st n).run.state ≠ .idle) :
    whenIdle n rule s = (s, refuse .wrongState (stateCode (s.st n).run.state)) := if_neg hi

/-- A node number has five bits, so the byte a refusal names it by holds it whole. -/
theorem holderDetail_eq_holderNumber (h : Option NodeId) : holderDetail h = holderNumber h := by
  cases h with
  | none => rfl
  | some k =>
    have hk : k.toNat < 32 := k.isLt
    simp [holderDetail, holderNumber, optNode, optCode, byteOf]
    omega

/-- A command whose rule begins with the station check refuses a station that does not exist. -/
theorem answers_badStation {c : Instr} {s : State} {b : Byte} {rule : State → State × Answer}
    {body : StationId → State → State × Answer} (h : AtHead c s)
    (hc : exec c s = .next (serve (commandRequest c) rule s)) (hr : rule s = withStation b body s)
    (hb : stationOf b = none) : Answers c s (refuse .badValue 255) s :=
  answers_of_rule rule h hc (hr.trans (withStation_of_none hb))

/-- For a station that exists, such a command answers what the rest of its rule gives there. -/
theorem answers_of_station {c : Instr} {s t : State} {a : Answer} {b : Byte} {n : StationId}
    {rule : State → State × Answer} {body : StationId → State → State × Answer} (h : AtHead c s)
    (hc : exec c s = .next (serve (commandRequest c) rule s)) (hr : rule s = withStation b body s)
    (hb : stationOf b = some n) (hbody : body n s = (t, a)) : Answers c s a t :=
  answers_of_rule rule h hc (hr.trans ((withStation_of_some hb).trans hbody))

/-! ### The recipe lock (R14, R15) -/

theorem lockStation_unknown {q : NodeId} {n : StationId} {s : State} (hq : s.nodeIndex q = none) :
    lockStation q n s = (s, refuse .notKnown 0) := by
  simp [lockStation, hq]

theorem lockStation_free {q : NodeId} {n : StationId} {s : State} (hq : s.nodeIndex q ≠ none)
    (hl : (s.st n).lockHolder = none) :
    lockStation q n s = (s.modSt n (fun st => { st with lockHolder := some q }), lockAnswer .granted q) := by
  obtain ⟨i, hi⟩ := Option.ne_none_iff_exists'.mp hq
  simp [lockStation, hi, hl]

theorem lockStation_own {q : NodeId} {n : StationId} {s : State} (hq : s.nodeIndex q ≠ none)
    (hl : (s.st n).lockHolder = some q) : lockStation q n s = (s, lockAnswer .granted q) := by
  obtain ⟨i, hi⟩ := Option.ne_none_iff_exists'.mp hq
  simp [lockStation, hi, hl]

theorem lockStation_held {q h : NodeId} {n : StationId} {s : State} (hq : s.nodeIndex q ≠ none)
    (hl : (s.st n).lockHolder = some h) (hne : h ≠ q) : lockStation q n s = (s, lockAnswer .held h) := by
  obtain ⟨i, hi⟩ := Option.ne_none_iff_exists'.mp hq
  simp [lockStation, hi, hl, hne]

theorem unlockStation_holder {q : NodeId} {n : StationId} {s : State} (hl : (s.st n).lockHolder = some q) :
    unlockStation q n s = (s.modSt n (fun st => { st with lockHolder := none }), done []) := if_pos hl

theorem unlockStation_other {q : NodeId} {n : StationId} {s : State} (hl : (s.st n).lockHolder ≠ some q) :
    unlockStation q n s = (s, refuse .notHolder (holderNumber (s.st n).lockHolder)) := by
  rw [← holderDetail_eq_holderNumber]
  exact if_neg hl

/-- Settles O1: the station check comes first, and behind it each branch of R14 and R15 is one equation of `lockStation`
or `unlockStation`. -/
theorem lockAndUnlock : Obligations.LockAndUnlock := by
  intro s q tag b
  refine ⟨fun h => ⟨answers_badStation h rfl rfl, fun n hn => ?_⟩, fun h => ⟨answers_badStation h rfl rfl, fun n hn => ?_⟩⟩
  · have answer {t a} : lockStation q n s = (t, a) → Answers (.lock q tag [b]) s a t := answers_of_station h rfl rfl hn
    exact ⟨fun hq => answer (lockStation_unknown hq), fun hq =>
      ⟨fun hl => answer (lockStation_free hq hl), fun hl => answer (lockStation_own hq hl),
        fun _ hl hne => answer (lockStation_held hq hl hne)⟩⟩
  · have answer {t a} : unlockStation q n s = (t, a) → Answers (.unlock q tag [b]) s a t :=
      answers_of_station h rfl rfl hn
    exact ⟨fun hl => answer (unlockStation_holder hl), fun hl => answer (unlockStation_other hl)⟩

/-! ### Editing (R8 to R12) -/

/-- The answers of an editing request in the order of its checks: station, IDLE, lock, and then its own (R8). -/
theorem answers_editing {c : Instr} {s : State} {q : NodeId} {b : Byte} {rule : State → State × Answer}
    {body : StationId → State → State × Answer} (h : AtHead c s)
    (hc : exec c s = .next (serve (commandRequest c) rule s)) (hr : rule s = withEditing q b body s) :
    (stationOf b = none → Answers c s (refuse .badValue 255) s) ∧
    ∀ n, stationOf b = some n →
      ((s.st n).run.state ≠ .idle → Answers c s (refuse .wrongState (stateCode (s.st n).run.state)) s) ∧
      ((s.st n).run.state = .idle → (s.st n).lockHolder ≠ some q →
        Answers c s (refuse .notHolder (holderNumber (s.st n).lockHolder)) s) ∧
      ((s.st n).run.state = .idle → (s.st n).lockHolder = some q →
        ∀ t a, body n s = (t, a) → Answers c s a t) := by
  refine ⟨answers_badStation h hc hr, fun n hn => ⟨fun hi => ?_, fun hi hl => ?_, fun hi hl t a hbody => ?_⟩⟩
  · exact answers_of_station h hc hr hn (whenIdle_of_not_idle hi)
  · rw [← holderDetail_eq_holderNumber]
    exact answers_of_station h hc hr hn ((whenIdle_of_idle hi).trans (if_neg hl))
  · exact answers_of_station h hc hr hn ((whenIdle_of_idle hi).trans ((if_pos hl).trans hbody))

theorem stepReadRule_badStation {b i : Byte} {s : State} (hn : stationOf b = none) :
    stepReadRule [b, i] s = (s, refuse .badValue 255) := by
  simp [stepReadRule, withStation_of_none hn, badStation]

theorem stepReadRule_inside {b i : Byte} {n : StationId} {s : State} {o : Option StepRecord}
    (hn : stationOf b = some n) (hi : i.toNat < 48) (ho : (s.st n).steps[i.toNat] = o) :
    stepReadRule [b, i] s = (s, o.elim (done []) (fun r => { status := .done, detail := 1, data := StepRecord.encode r })) := by
  subst ho
  cases ho : (s.st n).steps[i.toNat] <;> simp [stepReadRule, withStation_of_some hn, hi, ho]

theorem stepReadRule_outside {b i : Byte} {n : StationId} {s : State} (hn : stationOf b = some n) (hi : 47 < i.toNat) :
    stepReadRule [b, i] s = (s, refuse .badValue 0) := by
  have hnone : (s.st n).steps[i.toNat]? = none := Vector.getElem?_eq_none (by omega)
  simp [stepReadRule, withStation_of_some hn, hnone]

/-- Settles O2: the three editing requests share the checks of `answers_editing`, and each adds its own; STEP_READ looks at
the station and the slot alone. -/
theorem editingRequests : Obligations.EditingRequests := by
  refine ⟨fun s q tag b i len record c hlen hc h => ?_, fun s q tag b i h => ?_⟩
  · simp only [List.mem_cons, List.not_mem_nil, or_false] at hc
    obtain rfl | rfl | rfl := hc
    · -- STEP_WRITE
      obtain ⟨hstation, hedit⟩ := answers_editing h rfl (if_neg (not_not.mpr hlen))
      refine ⟨hstation, fun n hn => ?_⟩
      obtain ⟨hidle, hlock, answer⟩ := hedit n hn
      refine ⟨hidle, hlock, fun hi hl => ⟨fun _ => ⟨fun hslot => ?_, fun hslot f hf => ?_, fun hslot r hr => ?_⟩,
        nofun, nofun⟩⟩
      · exact answer hi hl _ _ (if_pos hslot)
      · exact answer hi hl _ _ (by simp [hf, Nat.not_lt.mpr hslot])
      · exact answer hi hl _ _ (by simp [hr, Nat.not_lt.mpr hslot, storeStep])
    · -- RECIPE_LENGTH
      obtain ⟨hstation, hedit⟩ := answers_editing h rfl rfl
      refine ⟨hstation, fun n hn => ?_⟩
      obtain ⟨hidle, hlock, answer⟩ := hedit n hn
      refine ⟨hidle, hlock, fun hi hl => ⟨nofun, fun _ => ?_, nofun⟩⟩
      exact ⟨fun hlong => answer hi hl _ _ (if_pos hlong), fun hfits => answer hi hl _ _ (if_neg (Nat.not_lt.mpr hfits))⟩
    · -- RECIPE_CLEAR
      obtain ⟨hstation, hedit⟩ := answers_editing h rfl rfl
      refine ⟨hstation, fun n hn => ?_⟩
      obtain ⟨hidle, hlock, answer⟩ := hedit n hn
      exact ⟨hidle, hlock, fun hi hl => ⟨nofun, nofun, fun _ => answer hi hl _ _ rfl⟩⟩
  · refine ⟨fun hn => answers_of_rule _ h rfl (stepReadRule_badStation hn), fun n hn =>
      ⟨fun hi => ?_, fun hi => ⟨fun ho => ?_, fun r ho => ?_⟩⟩⟩
    · exact answers_of_rule _ h rfl (stepReadRule_outside hn hi)
    · exact answers_of_rule _ h rfl (stepReadRule_inside hn hi ho)
    · exact answers_of_rule _ h rfl (stepReadRule_inside hn hi ho)

/-! ### The recipe check of START (R22) -/

theorem offends_of_empty {st : Station} {i c : Nat} (hs : (st.steps[i]?).join = none) : st.offends i c ↔ c = 0 := by
  simp [Station.offends, hs]

/-- The reason codes end at LOOP_NESTED, 8. -/
theorem offends_lt {st : Station} {i c : Nat} (h : st.offends i c) : c < 9 := by
  by_contra hc
  obtain ⟨k, rfl⟩ := Nat.exists_eq_add_of_le' (Nat.le_of_not_lt hc)
  cases hs : (st.steps[i]?).join <;> simp [Station.offends, hs] at h

/-- An empty slot has loop count 0, so a loop step below slot `i` stands in a filled slot. -/
theorem nestedLoop_iff (st : Station) (target i : Nat) :
    st.nestedLoop target i = true ↔
      ∃ j rj, target ≤ j ∧ j < i ∧ st.steps[j]? = some (some rj) ∧ 0 < rj.loopCount := by
  have hslot (j : Nat) : 0 < (st.slot j).loopCount ↔ ∃ rj, st.steps[j]? = some (some rj) ∧ 0 < rj.loopCount := by
    unfold Station.slot
    rcases st.steps[j]? with _ | _ | r <;> simp
  simp only [Station.nestedLoop, List.any_eq_true, List.mem_range, Bool.and_eq_true, decide_eq_true_eq, hslot]
  constructor
  · rintro ⟨j, hj, ht, rj, hs, hc⟩
    exact ⟨j, rj, ht, hj, hs, hc⟩
  · rintro ⟨j, rj, ht, hj, hs, hc⟩
    exact ⟨j, hj, ht, rj, hs, hc⟩

/-- The reason the model gives is the lowest code whose criterion holds of the slot. -/
theorem slotFault_eq_find (st : Station) (i : Nat) [DecidablePred (st.offends i)] :
    st.slotFault i = (List.range 9).find? (fun c => decide (st.offends i c)) := by
  have hrange : List.range 9 = [0, 1, 2, 3, 4, 5, 6, 7, 8] := rfl
  have hcons (c : Nat) (l : List Nat) : (c :: l).find? (fun c => decide (st.offends i c)) =
      if st.offends i c then some c else l.find? (fun c => decide (st.offends i c)) := by
    by_cases hc : st.offends i c <;> simp [hc]
  cases hs : (st.steps[i]?).join with
  | none => simp [Station.slotFault, hs, hrange, offends_of_empty hs]
  | some r =>
    simp only [Station.slotFault, hs, hrange, hcons, List.find?_nil, Station.recordFault]
    rw [if_neg (c := st.offends i 0) (by simp [Station.offends, hs])]
    refine if_congr ?noEnd rfl (if_congr ?timeZero rfl (if_congr ?weightZero rfl (if_congr ?tempZero rfl
      (if_congr ?heatHigh rfl (if_congr ?altZero rfl (if_congr ?loopTarget rfl (if_congr ?loopNested rfl rfl)))))))
    case heatHigh => simp only [Station.offends, hs]; omega
    case loopNested => simp [Station.offends, hs, nestedLoop_iff]
    all_goals simp [Station.offends, hs, and_assoc]

/-- The recipe's fault is that of its lowest offending slot. -/
theorem recipeFault_of_lowest {st : Station} {i c : Nat} (hi : i < st.recipeLength) (hc : st.slotFault i = some c)
    (hlow : ∀ j, j < i → st.slotFault j = none) : st.recipeFault = some (i, c) := by
  obtain ⟨k, hk⟩ := Nat.exists_eq_add_of_lt hi
  refine List.findSome?_eq_some_iff.mpr
    ⟨List.range i, i, (List.range k).map (fun j => i + (j + 1)), ?_, by simp [hc], fun j hj => ?_⟩
  · rw [hk, Nat.add_assoc, List.range_add, List.range_succ_eq_map]
    simp
  · simp [hlow j (List.mem_range.mp hj)]

theorem slotFault_eq_some {st : Station} {i c : Nat} (h : st.firstReason i c) : st.slotFault i = some c := by
  classical
  obtain ⟨hc, hfirst⟩ := h
  rw [slotFault_eq_find, List.find?_range_eq_some]
  exact ⟨decide_eq_true hc, List.mem_range.mpr (offends_lt hc), fun d hd => by simp [hfirst d hd]⟩

theorem slotFault_eq_none {st : Station} {i : Nat} (h : ∀ d, ¬ st.offends i d) : st.slotFault i = none := by
  classical
  rw [slotFault_eq_find, List.find?_range_eq_none]
  exact fun d _ => by simp [h d]

/-! ### The checks of START in their order (R21) -/

/-- The roles stand in `allRoles` in the order of their numbers, so a search there meets the lowest number first. -/
theorem find_allRoles {p : Role → Bool} {r : Role} (hr : p r = true) (hlow : ∀ r', roleNo r' < roleNo r → p r' = false) :
    allRoles.find? p = some r := by
  have hlt : roleNo r < allRoles.length := by cases r <;> decide
  have hat : allRoles[roleNo r] = r := by cases r <;> rfl
  have hno : ∀ (j : Nat) (hj : j < allRoles.length), roleNo allRoles[j] = j := by decide
  refine List.find?_eq_some_iff_getElem.mpr ⟨hr, roleNo r, hlt, hat, fun j hj => ?_⟩
  rw [hlow _ (by rw [hno j]; exact hj)]
  rfl

theorem find_allRoles_none {p : Role → Bool} (h : ∀ r, p r = false) : allRoles.find? p = none := by
  simp [h]

theorem unbound_eq_none {st : Station} (h : ∀ r, st.binding.get r ≠ none) : st.unbound = none :=
  find_allRoles_none (fun r => by simpa [Option.isSome_iff_ne_none] using h r)

theorem unbound_eq_some {st : Station} {r : Role} (hr : st.binding.get r = none)
    (hlow : ∀ r', roleNo r' < roleNo r → st.binding.get r' ≠ none) : st.unbound = some r :=
  find_allRoles (by simp [hr]) (fun r' hr' => by simpa [Option.isSome_iff_ne_none] using hlow r' hr')

theorem startRefusal_not_idle {s : State} {q : NodeId} {n : StationId} {first : Nat}
    (hi : (s.st n).run.state ≠ .idle) :
    s.startRefusal q n first = some (refuse .wrongState (stateCode (s.st n).run.state)) := if_pos hi

theorem startRefusal_capture {s : State} {q : NodeId} {n : StationId} {first : Nat} (hi : (s.st n).run.state = .idle)
    (hop : (s.st n).weigh.op = .zeroing ∨ (s.st n).weigh.op = .calibrating) :
    s.startRefusal q n first = some (refuse .wrongState (opCode (s.st n).weigh.op)) := by
  simp [State.startRefusal, hi, hop]

section
variable {s : State} {q : NodeId} {n : StationId} {first : Nat} (hi : (s.st n).run.state = .idle)
  (hz : (s.st n).weigh.op ≠ .zeroing) (hc : (s.st n).weigh.op ≠ .calibrating)
include hi hz hc

theorem startRefusal_locked {k : NodeId} (hl : (s.st n).lockHolder = some k) (hk : k ≠ q) :
    s.startRefusal q n first = some (refuse .locked k.toNat) := by
  have hd : holderDetail (some k) = k.toNat := holderDetail_eq_holderNumber (some k)
  simp [State.startRefusal, hi, hz, hc, hl, hk, hd]

variable (hl : (s.st n).lockHolder = none ∨ (s.st n).lockHolder = some q)
include hl

theorem startRefusal_unbound {r : Role} (hr : (s.st n).unbound = some r) :
    s.startRefusal q n first = some (refuse .noBinding (roleNo r)) := by
  obtain hl | hl := hl <;> simp [State.startRefusal, hi, hz, hc, hl, hr]

variable (hb : (s.st n).unbound = none)
include hb

theorem startRefusal_silent {r : Role} (hr : s.firstSilent n = some r) :
    s.startRefusal q n first = some (refuse .notReady (roleNo r)) := by
  obtain hl | hl := hl <;> simp [State.startRefusal, hi, hz, hc, hl, hb, hr]

theorem startRefusal_isolated (hs : s.firstSilent n = none) (ha : s.appliance.health = .isolated) :
    s.startRefusal q n first = some (refuse .notReady 5) := by
  obtain hl | hl := hl <;> simp [State.startRefusal, hi, hz, hc, hl, hb, hs, State.applianceIsolated, ha]

end

/-- Past checks 1 to 4 the first step and the recipe decide (R21 checks 5 and 6). -/
theorem startRefusal_of_ready {s : State} {q : NodeId} {n : StationId} {first : Nat} (h : s.startReady q n) :
    s.startRefusal q n first =
      if (s.st n).recipeLength ≤ first then some (refuse .badValue 0)
      else (s.st n).recipeFault.map (fun f => { status := .badRecipe, detail := f.1, data := [byteOf f.2] }) := by
  obtain ⟨hi, hz, hc, hl, hroles, ha⟩ := h
  have hb : (s.st n).unbound = none := unbound_eq_none (fun r => (hroles r).1)
  have hs : s.firstSilent n = none := find_allRoles_none (fun r => (hroles r).2)
  obtain hl | hl := hl <;> simp [State.startRefusal, hi, hz, hc, hl, hb, hs, State.applianceIsolated, ha]

theorem startRule_badStation {q : NodeId} {b f : Byte} {s : State} (hn : stationOf b = none) :
    startRule q [b, f] s = (s, refuse .badValue 255) := by
  simp [startRule, withStation_of_none hn, badStation]

theorem startRule_refused {q : NodeId} {b f : Byte} {n : StationId} {s : State} {a : Answer} (hn : stationOf b = some n)
    (ha : s.startRefusal q n f.toNat = some a) : startRule q [b, f] s = (s, a) := by
  simp [startRule, withStation_of_some hn, ha]

/-- Settles O4: each clause is the equation of `startRefusal` for the first check that fails. -/
theorem startRefusals : Obligations.StartRefusals := by
  intro s q tag b f h
  refine ⟨fun hn => answers_of_rule _ h rfl (startRule_badStation hn), fun n hn => ?_⟩
  have answer {a : Answer} (ha : s.startRefusal q n f.toNat = some a) : Answers (.start q tag [b, f]) s a s :=
    answers_of_rule _ h rfl (startRule_refused hn ha)
  refine ⟨fun hi => answer (startRefusal_not_idle hi), fun hi hz => ?_, fun hi hc => ?_, fun hi hz hc =>
    ⟨fun k hl hk => answer (startRefusal_locked hi hz hc hl hk), fun hl => ⟨fun r hr hlow => ?_, fun hbound => ?_⟩⟩,
    fun hready => ⟨fun hf => ?_, fun hf i c hi hc hlow => ?_⟩⟩
  · simpa [hz, opCode] using answer (startRefusal_capture hi (.inl hz))
  · simpa [hc, opCode] using answer (startRefusal_capture hi (.inr hc))
  · exact answer (startRefusal_unbound hi hz hc hl (unbound_eq_some hr hlow))
  · have hb : (s.st n).unbound = none := unbound_eq_none hbound
    exact ⟨fun r hr hlow => answer (startRefusal_silent hi hz hc hl hb (find_allRoles hr hlow)),
      fun hs ha => answer (startRefusal_isolated hi hz hc hl hb (find_allRoles_none hs) ha)⟩
  · exact answer (by rw [startRefusal_of_ready hready, if_pos hf])
  · have hfault : (s.st n).recipeFault = some (i, c) :=
      recipeFault_of_lowest hi (slotFault_eq_some hc) (fun j hj => slotFault_eq_none (hlow j hj))
    exact answer (by simp [startRefusal_of_ready hready, Nat.not_le.mpr hf, hfault])

end Sys2Proof.Machine

/-! PROOFS. Running a recipe (chapter 2): what a recomputed speed and a tested interlock leave of the drive context
(R116, R129), entry into IDLE (R24), and CLEAR_FAULT (R55). -/

namespace Sys2Proof.Machine

open Sys2Proof

/-! ### The drive context behind the unlock interlock (R116, R129) -/

/-- The drive context once the interlock let the unlock go (R129). -/
def DriveContext.unlocked (d : DriveContext) : DriveContext :=
  { d with lidCommand := some .unlock, pendingUnlock := false }

/-- Testing the interlock leaves the drive context, or lets the unlock go at a commanded speed of 0. -/
theorem testUnlock_drive {n : StationId} {s : State} {d : DriveContext} (hd : (s.st n).drive = d) :
    ((testUnlock n s).st n).drive = d ∨ d.commanded = 0 ∧ ((testUnlock n s).st n).drive = d.unlocked := by
  subst hd
  unfold testUnlock
  split
  · next h =>
    simp only [State.bladeStill, Bool.and_eq_true, beq_iff_eq] at h
    obtain ⟨⟨⟨_, hzero, _⟩, _⟩, _⟩ := h
    exact .inr ⟨hzero, by simp [DriveContext.unlocked]⟩
  · exact .inl rfl

/-- Recomputing the speed composes it from the request, and may let a pending unlock go at a commanded speed of 0. -/
theorem recomputeDrive_drive {n : StationId} {s : State} {d : DriveContext}
    (hd : composeSpeed (s.requestOf n) (s.st n).drive = d) :
    ((recomputeDrive n s).st n).drive = d ∨ d.commanded = 0 ∧ ((recomputeDrive n s).st n).drive = d.unlocked := by
  simp only [recomputeDrive, hd]
  split
  · exact testUnlock_drive (by (repeat' split) <;> simp)
  · left; (repeat' split) <;> simp

/-- Of a change of state or phase only the recomputed speed reaches the drive context (R25). -/
@[simp] theorem stateChanged_drive (n : StationId) (rule : Adoption) (inSample : Bool) (s : State) (m : StationId) :
    ((stateChanged n rule inSample s).st m).drive = ((recomputeDrive n s).st m).drive := by
  simp [stateChanged]

/-- A change of state or phase keeps the manual demands. -/
theorem stateChanged_manual (n : StationId) (rule : Adoption) (inSample : Bool) (s : State) :
    ((stateChanged n rule inSample s).st n).drive.manualSpeed = (s.st n).drive.manualSpeed ∧
    ((stateChanged n rule inSample s).st n).drive.manualHeat = (s.st n).drive.manualHeat ∧
    ((stateChanged n rule inSample s).st n).drive.manualLid = (s.st n).drive.manualLid := by
  rw [stateChanged_drive]
  obtain h | ⟨-, h⟩ := recomputeDrive_drive (n := n) (s := s) rfl <;> rw [h] <;> exact ⟨rfl, rfl, rfl⟩

/-- An unlock that is pending before a change of state or phase still waits behind it, or has gone out. -/
theorem unlockAsked_stateChanged {n : StationId} {rule : Adoption} {inSample : Bool} {s : State}
    (hp : (s.st n).drive.pendingUnlock = true) : UnlockAsked (stateChanged n rule inSample s) n := by
  unfold UnlockAsked
  rw [stateChanged_drive]
  obtain h | ⟨h0, h⟩ := recomputeDrive_drive (n := n) (s := s) rfl <;> rw [h]
  · exact .inl hp
  · exact .inr ⟨rfl, h0⟩

/-! ### Entry into IDLE (R24) -/

theorem onlyRuns_enterIdle (n : StationId) (unlock inSample : Bool) (s : State) :
    OnlyRuns s (enterIdle n unlock inSample s) n := by
  simp [OnlyRuns]

/-- Whether or not it asks for the unlock, entry into IDLE empties the run context. -/
@[simp] theorem enterIdle_run (n : StationId) (unlock inSample : Bool) (s : State) :
    ((enterIdle n unlock inSample s).st n).run = (s.st n).run.emptied .idle := by
  have hrun : ((stateChanged n .keep inSample (s.modRun n (clearedRun .idle))).st n).run = (s.st n).run.emptied .idle := by
    simp [clearedRun, RunContext.emptied]
  cases unlock <;> simp [enterIdle, hrun]

/-! ### CLEAR_FAULT (R55) -/

theorem causeHolds_iff (s : State) (n : StationId) (c : FaultCause) : s.causeHolds n c = true ↔ s.holds n c := by
  cases c with
  | link => simp [State.causeHolds, State.holds, State.applianceIsolated]
  | driveFault => cases h : (s.st n).drive.report <;> simp [State.causeHolds, State.holds, h]
  | heaterFault => cases h : (s.st n).heat.report <;> simp [State.causeHolds, State.holds, h]
  | thermoSensor => cases h : (s.st n).heat.sensorFault <;> simp [State.causeHolds, State.holds, h]
  | overtemp => cases h : (s.st n).heat.bowl <;> simp [State.causeHolds, State.holds, Station.tooHot, h]
  | lidLock => simp [State.causeHolds, State.holds]
  | driveSilent | heaterSilent | weighSilent | thermoSilent => rfl

theorem clearFaultRule_wrongState {n : StationId} {s : State} (hf : (s.st n).run.state ≠ .fault) :
    clearFaultRule n s = (s, refuse .wrongState (stateCode (s.st n).run.state)) := if_neg hf

theorem clearFaultRule_holding {n : StationId} {s : State} {c : FaultCause} (hf : (s.st n).run.state = .fault)
    (hc : (s.st n).run.faultCause = some c) (hh : s.holds n c) :
    clearFaultRule n s = (s, refuse .wrongState (causeCode c)) := by
  simp [clearFaultRule, hf, hc, (causeHolds_iff s n c).mpr hh]

theorem clearFaultRule_cleared {n : StationId} {s : State} {c : FaultCause} (hf : (s.st n).run.state = .fault)
    (hc : (s.st n).run.faultCause = some c) (hh : ¬ s.holds n c) :
    clearFaultRule n s = (enterIdle n false false s, done []) := by
  simp [clearFaultRule, hf, hc, mt (causeHolds_iff s n c).mp hh]

/-- Settles O14: each refusal is one equation of `clearFaultRule`, and the accepted request is an entry into IDLE that asks
for no unlock, where a pending one waits on or goes out. -/
theorem clearFaultTestsFirstCause : Obligations.ClearFaultTestsFirstCause := by
  intro s q tag b h
  refine ⟨answers_badStation h rfl rfl, fun n hn => ?_⟩
  have answer {t a} : clearFaultRule n s = (t, a) → Answers (.clearFault q tag [b]) s a t :=
    answers_of_station h rfl rfl hn
  refine ⟨fun hf => answer (clearFaultRule_wrongState hf), fun hf c hc =>
    ⟨fun hh => answer (clearFaultRule_holding hf hc hh), fun hh => ⟨enterIdle n false false s, ?_⟩⟩⟩
  obtain ⟨hspeed, hheat, hlid⟩ := stateChanged_manual n .keep false (s.modRun n (clearedRun .idle))
  rw [modRun_st_drive] at hspeed hheat hlid
  exact ⟨answer (clearFaultRule_cleared hf hc hh), enterIdle_run .., hspeed, hheat, hlid, enterIdle_notices ..,
    fun hp => unlockAsked_stateChanged (by rwa [modRun_st_drive]), onlyRuns_enterIdle ..⟩

end Sys2Proof.Machine

/-! PROOFS. Weighing (chapter 3): the item table of WEIGH_CONFIG, what an accepted write leaves, and its two forms
(R58, R59). -/

namespace Sys2Proof.Machine

open Sys2Proof

/-! ### The items and their ranges (R58) -/

/-- The ten weigh items in the order of their identifiers. -/
def WeighConfig.items (g : WeighConfig) : List Int :=
  [g.cap, g.still, g.stir, g.band, g.doseTol, g.gain, g.zero0, g.zero1, g.zero2, g.zero3]

/-- The bounds of the weigh items in the order of their identifiers. -/
def weighRanges : List (Int × Int) :=
  [(10000, 200000), (1, 32), (1, 32), (1, 255), (0, 255), (1, 4194303), (-8388608, 8388607), (-8388608, 8388607),
    (-8388608, 8388607), (-8388608, 8388607)]

theorem weighValue_eq_getElem? (g : WeighConfig) (j : Nat) : weighValue g j = g.items[j]? :=
  match j with
  | 0 | 1 | 2 | 3 | 4 | 5 | 6 | 7 | 8 | 9 => rfl
  | _ + 10 => rfl

theorem weighInRange_iff (j : Nat) (v : Int) :
    weighInRange j v = true ↔ ∃ x y, weighRanges[j]? = some (x, y) ∧ x ≤ v ∧ v ≤ y :=
  match j with
  | 0 | 1 | 2 | 3 | 4 | 5 | 6 | 7 | 8 | 9 => by simp [weighInRange, weighRanges]
  | _ + 10 => by simp [weighInRange, weighRanges]

theorem lt_of_weighInRange {i : Nat} {v : Int} (h : weighInRange i v = true) : i < 10 := by
  obtain ⟨x, y, hxy, -⟩ := (weighInRange_iff i v).mp h
  exact (List.getElem?_eq_some_iff.mp hxy).1

/-- A write in range replaces its item alone. The two windows are kept as natural numbers, which hold it since their range
begins at 1. -/
theorem items_setWeighItem (g : WeighConfig) {i : Nat} {v : Int} (h : weighInRange i v = true) :
    (setWeighItem g i v).items = g.items.set i v := by
  have window (hv : 1 ≤ v) : (v.toNat : Int) = v := Int.toNat_of_nonneg (by omega)
  match i with
  | 0 | 3 | 4 | 5 | 6 | 7 | 8 | 9 => rfl
  | 1 | 2 =>
    have hv : 1 ≤ v ∧ v ≤ 32 := by simpa [weighInRange] using h
    simp [setWeighItem, WeighConfig.items, window hv.1]
  | _ + 10 => exact absurd (lt_of_weighInRange h) (by omega)

theorem weighValue_setWeighItem (g : WeighConfig) {i : Nat} (j : Nat) {v : Int} (h : weighInRange i v = true) :
    weighValue (setWeighItem g i v) j = if j = i then some v else weighValue g j := by
  have hi : i < g.items.length := lt_of_weighInRange h
  rw [weighValue_eq_getElem?, weighValue_eq_getElem?, items_setWeighItem g h, List.getElem?_set]
  simp only [hi, if_true, eq_comm (a := i)]

/-! ### What an accepted write leaves (R59) -/

/-- Two changes of one station, the second of its weigh context, are one. -/
theorem modWeigh_modSt (s : State) (n : StationId) (f : Station → Station) (k : WeighContext → WeighContext) :
    (s.modSt n f).modWeigh n k = s.modSt n (fun st => { f st with weigh := k (f st).weigh }) := by
  cases n <;> rfl

theorem applyWeighItem_cap (n : StationId) (v : Int) (s : State) :
    applyWeighItem n 0 v s = s.modSt n (fun st => { st with
      weighCfg := { st.weighCfg with cap := v }, weigh := capWeigh v st.weigh }) :=
  modWeigh_modSt ..

theorem applyWeighItem_filter {n : StationId} {i : Nat} {v : Int} {s : State} (h1 : 1 ≤ i) (h4 : i ≤ 4) :
    applyWeighItem n i v s = s.modSt n (fun st => { st with weighCfg := setWeighItem st.weighCfg i v }) := by
  simp [applyWeighItem, show i ≠ 0 by omega, show ¬ 5 ≤ i by omega]

theorem applyWeighItem_calibration {n : StationId} {i : Nat} {v : Int} {s : State} (h5 : 5 ≤ i) :
    applyWeighItem n i v s = s.modSt n (fun st => { st with
      weighCfg := setWeighItem st.weighCfg i v, weigh := flushRing st.weigh }) := by
  simp [applyWeighItem, show i ≠ 0 by omega, h5, modWeigh_modSt]

/-! ### The two forms (R58) -/

/-- The write form has six arguments, so its code does not stand for the read form. -/
theorem exec_weighConfigWrite (q : NodeId) (tag b i b0 b1 b2 b3 : Byte) (s : State) :
    exec (.weighConfigWrite q tag [b, i, b0, b1, b2, b3]) s =
      .next (serve (commandRequest (.weighConfigWrite q tag [b, i, b0, b1, b2, b3]))
        (weighConfigWriteRule [b, i, b0, b1, b2, b3]) s) := rfl

/-- The read form has two arguments, so its code does not stand for the write form. -/
theorem exec_weighConfigRead (q : NodeId) (tag b i : Byte) (s : State) :
    exec (.weighConfigRead q tag [b, i]) s =
      .next (serve (commandRequest (.weighConfigRead q tag [b, i])) (weighConfigReadRule [b, i]) s) := rfl

theorem weighConfigReadRule_badStation {s : State} {b i : Byte} (hn : stationOf b = none) :
    weighConfigReadRule [b, i] s = (s, refuse .badValue 255) := by
  simp [weighConfigReadRule, withStation_of_none hn, badStation]

section
variable {s : State} {n : StationId} {b i b0 b1 b2 b3 : Byte} (hn : stationOf b = some n)
include hn

theorem weighConfigWriteRule_not_idle (hi : (s.st n).run.state ≠ .idle) :
    weighConfigWriteRule [b, i, b0, b1, b2, b3] s = (s, refuse .wrongState (stateCode (s.st n).run.state)) :=
  (withStation_of_some hn).trans (whenIdle_of_not_idle hi)

theorem weighConfigWriteRule_busy (hi : (s.st n).run.state = .idle) (ho : (s.st n).weigh.op ≠ .none) :
    weighConfigWriteRule [b, i, b0, b1, b2, b3] s = (s, refuse .busy (opCode (s.st n).weigh.op)) :=
  (withStation_of_some hn).trans ((whenIdle_of_idle hi).trans (if_pos ho))

/-- Past the station, its state and its operation, the identifier and the value decide. -/
theorem weighConfigWriteRule_of_free (hi : (s.st n).run.state = .idle) (ho : (s.st n).weigh.op = .none) :
    weighConfigWriteRule [b, i, b0, b1, b2, b3] s =
      if 9 < i.toNat then (s, refuse .badValue 0)
      else if weighInRange i.toNat (s32 b0 b1 b2 b3) then
        (applyWeighItem n i.toNat (s32 b0 b1 b2 b3) s, done (putS32 (s32 b0 b1 b2 b3)))
      else (s, refuse .badValue 1) :=
  (withStation_of_some hn).trans ((whenIdle_of_idle hi).trans (if_neg (not_not.mpr ho)))

theorem weighConfigReadRule_none (hv : weighValue (s.st n).weighCfg i.toNat = none) :
    weighConfigReadRule [b, i] s = (s, refuse .badValue 0) := by
  simp [weighConfigReadRule, withStation_of_some hn, hv]

theorem weighConfigReadRule_some {v : Int} (hv : weighValue (s.st n).weighCfg i.toNat = some v) :
    weighConfigReadRule [b, i] s = (s, done (putS32 v)) := by
  simp [weighConfigReadRule, withStation_of_some hn, hv]

end

/-- Settles O8: the items and ranges are the two tables; each refusal is one equation of the rule, and an accepted write is
one of the three equations of `applyWeighItem`. -/
theorem weighConfigWriteAndRead : Obligations.WeighConfigWriteAndRead := by
  refine ⟨weighValue_eq_getElem?, fun g i j v h => weighValue_setWeighItem g j h, weighInRange_iff,
    fun s q tag b i b0 b1 b2 b3 c => ⟨?write, ?read⟩⟩
  case write =>
    rintro rfl h
    have answer {a t} : weighConfigWriteRule [b, i, b0, b1, b2, b3] s = (t, a) →
        Answers (.weighConfigWrite q tag [b, i, b0, b1, b2, b3]) s a t :=
      answers_of_rule _ h (exec_weighConfigWrite ..)
    refine ⟨answers_badStation h (exec_weighConfigWrite ..) rfl, fun n hn =>
      ⟨fun hi => answer (weighConfigWriteRule_not_idle hn hi), fun hi ho => answer (weighConfigWriteRule_busy hn hi ho),
        fun hi ho => ?_⟩⟩
    rw [weighConfigWriteRule_of_free hn hi ho] at answer
    refine ⟨fun h9 => answer (if_pos h9),
      fun h9 hv => answer (by simp [Nat.not_lt.mpr h9, hv]), fun hv => ?_⟩
    have h9 : ¬ 9 < i.toNat := by have := lt_of_weighInRange hv; omega
    rw [if_neg h9, if_pos hv] at answer
    refine ⟨fun h0 => answer ?_, fun h1 h4 => answer ?_, fun h5 => answer ?_⟩
    · rw [h0, applyWeighItem_cap]; rfl
    · rw [applyWeighItem_filter h1 h4]
    · rw [applyWeighItem_calibration h5]; rfl
  case read =>
    rintro rfl h
    have answer {a t} : weighConfigReadRule [b, i] s = (t, a) → Answers (.weighConfigRead q tag [b, i]) s a t :=
      answers_of_rule _ h (exec_weighConfigRead ..)
    exact ⟨fun hn => answer (weighConfigReadRule_badStation hn), fun n hn =>
      ⟨fun hv => answer (weighConfigReadRule_none hn hv), fun v hv => answer (weighConfigReadRule_some hn hv)⟩⟩

end Sys2Proof.Machine

/-! PROOFS. The power budget (chapter 5): the division in each of its steps with the bounds of its grants (R109), and the
grant step with what a HEAT_SET changes (R110). -/

namespace Sys2Proof.Machine

open Sys2Proof

/-! ### The division of a total (R109) -/

section
variable {a d0 d1 : Nat}

theorem divideGrants_of_le (h : d0 + d1 ≤ a) : divideGrants a d0 d1 = (d0, d1) := if_pos h

theorem divideGrants_of_lt_share0 (h : a < d0 + d1) (h0 : d0 < a / 2) :
    divideGrants a d0 d1 = (d0, min d1 (a - d0)) := by
  simp [divideGrants, h.not_ge, h0]

/-- Demands that ask for more than `a` are not both below their shares, so the earlier test for station 0 fails here. -/
theorem divideGrants_of_lt_share1 (h : a < d0 + d1) (h1 : d1 < a - a / 2) :
    divideGrants a d0 d1 = (min d0 (a - d1), d1) := by
  have h0 : ¬ d0 < a / 2 := by omega
  simp [divideGrants, h.not_ge, h0, h1]

theorem divideGrants_of_shares_le (h : a < d0 + d1) (h0 : a / 2 ≤ d0) (h1 : a - a / 2 ≤ d1) :
    divideGrants a d0 d1 = (a / 2, a - a / 2) := by
  simp [divideGrants, h.not_ge, h0.not_gt, h1.not_gt]

/-- Steps 4 and 5 of R109: what can end a division that its step 2 did not. -/
theorem lt_share_cases (a d0 d1 : Nat) : d0 < a / 2 ∨ d1 < a - a / 2 ∨ a / 2 ≤ d0 ∧ a - a / 2 ≤ d1 := by omega

theorem divideGrants_add_of_lt (h : a < d0 + d1) : (divideGrants a d0 d1).1 + (divideGrants a d0 d1).2 = a := by
  obtain h0 | h1 | ⟨h0, h1⟩ := lt_share_cases a d0 d1
  · rw [divideGrants_of_lt_share0 h h0]; omega
  · rw [divideGrants_of_lt_share1 h h1]; omega
  · rw [divideGrants_of_shares_le h h0 h1]; omega

theorem divideGrants_add_le (a d0 d1 : Nat) : (divideGrants a d0 d1).1 + (divideGrants a d0 d1).2 ≤ a := by
  obtain h | h := Nat.lt_or_ge a (d0 + d1)
  · exact (divideGrants_add_of_lt h).le
  · rwa [divideGrants_of_le h]

theorem divideGrants_le (a d0 d1 : Nat) : (divideGrants a d0 d1).1 ≤ d0 ∧ (divideGrants a d0 d1).2 ≤ d1 := by
  obtain h | h := Nat.lt_or_ge a (d0 + d1)
  · obtain h0 | h1 | ⟨h0, h1⟩ := lt_share_cases a d0 d1
    · rw [divideGrants_of_lt_share0 h h0]; exact ⟨le_rfl, min_le_left ..⟩
    · rw [divideGrants_of_lt_share1 h h1]; exact ⟨min_le_left .., le_rfl⟩
    · rw [divideGrants_of_shares_le h h0 h1]; exact ⟨h0, h1⟩
  · rw [divideGrants_of_le h]; exact ⟨le_rfl, le_rfl⟩

theorem divideShares_zero (d0 d1 old0 old1 : Nat) : divideShares 0 d0 d1 old0 old1 = (0, 0) := rfl

theorem divideShares_of_lt (h : a < d0 + d1) (old0 old1 : Nat) :
    divideShares a d0 d1 old0 old1 = (a / 2, a - a / 2) := by
  obtain rfl | ha := Nat.eq_zero_or_pos a
  · rfl
  · simp [divideShares, ha.ne', h.not_ge]

end

/-! ### What the division leaves of the arbiter (R109) -/

section
variable {b : Arbiter} {a d0 d1 : Nat}
variable (ha : a = b.budget - (b.side0.draw + b.side1.draw)) (h0 : d0 = b.side0.counted) (h1 : d1 = b.side1.counted)
include ha h0 h1

theorem divideArbiter_grants :
    ((divideArbiter b).side0.grant, (divideArbiter b).side1.grant) = divideGrants a d0 d1 := by
  subst ha h0 h1; rfl

theorem divideArbiter_shares :
    ((divideArbiter b).side0.share, (divideArbiter b).side1.share) =
      divideShares a d0 d1 b.side0.share b.side1.share := by
  subst ha h0 h1; rfl

end

/-- Settles O23: grants and shares of the arbiter are those of the division of `a`, and each clause is one of its
equations or bounds. -/
theorem divisionOfPower : Obligations.DivisionOfPower := by
  intro b a d0 d1 ha h0 h1
  have grants {x y} (h : divideGrants a d0 d1 = (x, y)) :
      (divideArbiter b).side0.grant = x ∧ (divideArbiter b).side1.grant = y :=
    Prod.mk.inj ((divideArbiter_grants ha h0 h1).trans h)
  have shares {x y} (h : divideShares a d0 d1 b.side0.share b.side1.share = (x, y)) :
      (divideArbiter b).side0.share = x ∧ (divideArbiter b).side1.share = y :=
    Prod.mk.inj ((divideArbiter_shares ha h0 h1).trans h)
  obtain ⟨hg0, hg1⟩ := grants Prod.mk.eta.symm
  refine ⟨ha.symm, rfl, fun hz => shares (hz ▸ divideShares_zero ..), fun h => grants (divideGrants_of_le h),
    fun h => ?more, ?_, ?_, ?_⟩
  case more =>
    obtain ⟨hs0, hs1⟩ := shares (divideShares_of_lt h ..)
    exact ⟨hs0, hs1, fun below0 => grants (divideGrants_of_lt_share0 h below0),
      fun below1 => (grants (divideGrants_of_lt_share1 h below1)).symm,
      fun above0 above1 => grants (divideGrants_of_shares_le h above0 above1),
      by rw [hg0, hg1, divideGrants_add_of_lt h]⟩
  · exact hg0 ▸ (divideGrants_le a d0 d1).1
  · exact hg1 ▸ (divideGrants_le a d0 d1).2
  · rw [hg0, hg1]; exact divideGrants_add_le a d0 d1

/-! ### The grant step (R110) -/

theorem grantDue_iff (g : Nat) (last : Option Nat) :
    grantDue g last = true ↔ last = none ∨
      ∃ v, last = some v ∧ (v + 10 ≤ g ∨ g + 10 ≤ v ∨ g = 0 ∧ v ≠ 0 ∨ g ≠ 0 ∧ v = 0) := by
  cases last with
  | none => simp [grantDue]
  | some v => simp [grantDue, or_assoc]

theorem sendHeatSet_of_unbound {s : State} {n : StationId} (h : (s.st n).binding.heater = none) :
    sendHeatSet n s = s := by
  simp [sendHeatSet, h]

/-- The last value sent becomes the grant of the state the HEAT_SET is composed in. -/
theorem sendHeatSet_of_bound {s : State} {n : StationId} {k : NodeId} (h : (s.st n).binding.heater = some k) :
    sendHeatSet n s = originate (.heatSet n) k (putU16 (s.side n).grant)
      (s.modSide n (fun x => { x with lastSent := some (s.side n).grant })) := by
  have hmod : s.modSide n (fun x => { x with lastSent := some x.grant }) =
      s.modSide n (fun x => { x with lastSent := some (s.side n).grant }) := by
    cases n <;> rfl
  simp [sendHeatSet, h, hmod, heatPayload]

theorem testGrant_of_due {s : State} {n : StationId} (h : grantDue (s.side n).grant (s.side n).lastSent = true) :
    testGrant n s = sendHeatSet n s := if_pos h

theorem testGrant_of_not_due {s : State} {n : StationId} (h : ¬ grantDue (s.side n).grant (s.side n).lastSent = true) :
    testGrant n s = s := if_neg h

theorem testGrant_of_unbound {s : State} {n : StationId} (h : (s.st n).binding.heater = none) : testGrant n s = s := by
  rw [testGrant, sendHeatSet_of_unbound h, ite_self]

/-- Settles O24: the clauses are the criterion `grantDue` and the two forms of `sendHeatSet`. -/
theorem grantStepSendsHeatSet : Obligations.GrantStepSendsHeatSet := by
  rintro s n g rfl
  refine ⟨testGrant_of_unbound, fun k hk => ⟨fun due => ?_, fun v hv hlo hhi hzero => ?_⟩⟩
  · rw [testGrant_of_due ((grantDue_iff ..).mpr due), sendHeatSet_of_bound hk]
  · refine testGrant_of_not_due fun due => ?_
    obtain hnone | ⟨w, hw, hstep⟩ := (grantDue_iff ..).mp due
    · exact absurd (hv.symm.trans hnone) (by simp)
    · obtain rfl : v = w := Option.some.inj (hv.symm.trans hw)
      omega

end Sys2Proof.Machine

/-! PROOFS. The guard of the stir drive, heater and lid (chapter 6): which setpoints it takes (R120), and what the manual
demand of each kind leaves (R121, R123). -/

namespace Sys2Proof.Machine

open Sys2Proof

/-! ### Which setpoints the guard takes (R120) -/

theorem guardRole_eq_none {k : BitVec 5} (h4 : k ≠ 4) (h5 : k ≠ 5) (h6 : k ≠ 6) : guardRole k = none :=
  (if_neg h4).trans ((if_neg h5).trans (if_neg h6))

theorem guardRole_eq_some {k : BitVec 5} {role : Role}
    (h : k = 4 ∧ role = .drive ∨ k = 5 ∧ role = .heater ∨ k = 6 ∧ role = .lid) : guardRole k = some role := by
  obtain ⟨rfl, rfl⟩ | ⟨rfl, rfl⟩ | ⟨rfl, rfl⟩ := h <;> rfl

theorem roleStation_eq_none {s : State} {role : Role} {k : NodeId}
    (h : ∀ m, (s.st m).binding.get role ≠ some k) : s.roleStation role k = none :=
  (if_neg (h .zero)).trans (if_neg (h .one))

/-- Station 0 is looked at first, so a node of station 1 has to be absent there. -/
theorem roleStation_eq_some {s : State} {role : Role} {k : NodeId} {n : StationId}
    (hn : (s.st n).binding.get role = some k) (ho : (s.st (otherStation n)).binding.get role ≠ some k) :
    s.roleStation role k = some n := by
  cases n with
  | zero => exact if_pos hn
  | one => exact (if_neg ho).trans (if_pos hn)

/-- The station whose guard takes a setpoint for `dest` of this kind. -/
def State.guardStation (s : State) (kind : BitVec 5) (dest : NodeId) : Option StationId :=
  (guardRole kind).bind (fun role => s.roleStation role dest)

section
variable {s : State} {p : Port} {rc : RouteClass} {f : Frame}

theorem guardFrame_of_no_station (h : s.guardStation f.kind f.dest = none) :
    guardFrame p rc f s = forwardPart p rc f s := by
  simp only [State.guardStation] at h
  simp only [guardFrame, h]

variable {n : StationId} (h : s.guardStation f.kind f.dest = some n)
include h

theorem guardFrame_of_bad_format (hd : guardDemand f.kind f.payload = none) :
    guardFrame p rc f s = countPort p .format s := by
  simp only [State.guardStation] at h
  simp only [guardFrame, h, hd]

theorem guardFrame_of_not_idle (hd : guardDemand f.kind f.payload ≠ none) (hi : (s.st n).run.state ≠ .idle) :
    guardFrame p rc f s = countStation n .owned s := by
  obtain ⟨demand, hd⟩ := Option.ne_none_iff_exists'.mp hd
  simp only [State.guardStation] at h
  simp only [guardFrame, h, hd, if_neg hi]

theorem guardFrame_of_idle {demand : StationId → State → State} (hd : guardDemand f.kind f.payload = some demand)
    (hi : (s.st n).run.state = .idle) : guardFrame p rc f s = demand n s := by
  simp only [State.guardStation] at h
  simp only [guardFrame, h, hd, if_pos hi]

end

/-! ### What each kind asks of the station (R120, R197) -/

section
variable {k : BitVec 5} (payload : List Byte)

theorem guardDemand_speedSet (hk : k = 4) :
    guardDemand k payload = (readSpeedSet payload).map (fun x n => manualSpeed n x.1 x.2) := by
  subst hk; rfl

theorem guardDemand_heatSet (hk : k = 5) :
    guardDemand k payload = (readHeatSet payload).map (fun w n => manualHeat n w) := by
  subst hk; rfl

theorem guardDemand_lidSet (hk : k = 6) :
    guardDemand k payload = (readLidSet payload).map (fun c n => manualLid n c) := by
  subst hk; rfl

end

/-! ### What a manual demand leaves (R121, R123) -/

theorem onlyRuns_manualSpeed (n : StationId) (v : Nat) (dir : Direction) (s : State) :
    OnlyRuns s (manualSpeed n v dir s) n := by
  simp [OnlyRuns]

theorem onlyRuns_manualHeat (n : StationId) (w : Nat) (s : State) : OnlyRuns s (manualHeat n w s) n := by
  simp [OnlyRuns]

theorem onlyRuns_manualLid (n : StationId) (c : LidCmd) (s : State) : OnlyRuns s (manualLid n c s) n := by
  simp [OnlyRuns]

/-- A station in IDLE asks for its manual speed (R25). -/
theorem requestOf_of_idle {s : State} {n : StationId} (hi : (s.st n).run.state = .idle) :
    (s.requestOf n).1 = (s.st n).drive.manualSpeed := by
  simp [State.requestOf, hi]

/-- The manual speed is held, and the speed is recomputed from it under the envelope. -/
theorem manualSpeed_drive {s : State} {n : StationId} (v : Nat) (dir : Direction) (hi : (s.st n).run.state = .idle) :
    ((manualSpeed n v dir s).st n).drive.manualSpeed = v ∧ ((manualSpeed n v dir s).st n).drive.manualDir = dir ∧
    ((manualSpeed n v dir s).st n).drive.speedHold = some (s.st n).limits.manualHold ∧
    ((manualSpeed n v dir s).st n).drive.commanded = min v (s.st n).drive.envelope := by
  unfold manualSpeed
  obtain h | ⟨-, h⟩ := recomputeDrive_drive (n := n) (s := s.modDrive n (fun d =>
    { d with manualSpeed := v, manualDir := dir, speedHold := some (s.st n).limits.manualHold })) rfl <;>
  simp [h, composeSpeed, DriveContext.unlocked, requestOf_of_idle, hi]

/-- The heat regulator follows the demand without touching the drive context. -/
theorem manualHeat_drive (n : StationId) (w : Nat) (s : State) :
    ((manualHeat n w s).st n).drive = { (s.st n).drive with
      manualHeat := min w (s.st n).limits.pmax, heatHold := some (s.st n).limits.manualHold } := by
  simp [manualHeat]

/-- Successive changes of one drive context are one. -/
theorem modDrive_modDrive (s : State) (n : StationId) (f g : DriveContext → DriveContext) :
    (s.modDrive n f).modDrive n g = s.modDrive n (fun d => g (f d)) := by
  cases n <;> rfl

theorem manualLid_lock {s : State} {n : StationId} {k : NodeId} (hk : (s.st n).binding.lid = some k) :
    manualLid n .lock s = originate (.lidSet n) k [0] (s.modDrive n (fun d =>
      { d with manualLid := some .lock, lidCommand := some .lock, pendingUnlock := false })) := by
  have hp : lidPayload .lock = [0] := rfl
  simp [manualLid, lockLid, sendLidSet, hk, hp, modDrive_modDrive]

/-- A pending unlock that is asked for waits, or the interlock lets it go at once. -/
theorem unlockAsked_askUnlock (n : StationId) (s : State) : UnlockAsked (askUnlock n s) n := by
  unfold UnlockAsked askUnlock
  obtain h | ⟨h0, h⟩ := testUnlock_drive (n := n) (s := s.modDrive n (fun d => { d with pendingUnlock := true })) rfl
    <;> rw [h]
  · exact .inl (by simp)
  · exact .inr ⟨rfl, h0⟩

theorem askUnlock_manualLid (n : StationId) (s : State) :
    ((askUnlock n s).st n).drive.manualLid = (s.st n).drive.manualLid := by
  unfold askUnlock
  obtain h | ⟨-, h⟩ := testUnlock_drive (n := n) (s := s.modDrive n (fun d => { d with pendingUnlock := true })) rfl
    <;> simp [h, DriveContext.unlocked]

theorem manualLid_unlock_manualLid (n : StationId) (s : State) :
    ((manualLid n .unlock s).st n).drive.manualLid = some .unlock := by
  simp [manualLid, askUnlock_manualLid]

/-- Settles O29: the guard's station is found by kind and binding, each way out of R120 is one equation of `guardFrame`, and
in IDLE the result is the manual demand of the kind. -/
theorem guardedSetpoints : Obligations.GuardedSetpoints := by
  intro s p rc f role n
  refine ⟨fun h4 h5 h6 => ?other, fun hrole => ⟨fun hfree => ?unbound, fun hn ho => ?bound⟩⟩
  case other => exact guardFrame_of_no_station (by simp [State.guardStation, guardRole_eq_none h4 h5 h6])
  case unbound =>
    exact guardFrame_of_no_station
      (by simp [State.guardStation, guardRole_eq_some hrole, roleStation_eq_none hfree])
  case bound =>
    have hg : s.guardStation f.kind f.dest = some n := by
      simp [State.guardStation, guardRole_eq_some hrole, roleStation_eq_some hn ho]
    refine ⟨fun hk hr => ?_, fun hk hr => ?_, fun hk hr => ?_, fun hr hi => ?owned,
      fun hi => ⟨?speed, ?heat, ?lock, ?unlock⟩⟩
    · exact guardFrame_of_bad_format hg (by rw [guardDemand_speedSet _ hk, hr, Option.map_none])
    · exact guardFrame_of_bad_format hg (by rw [guardDemand_heatSet _ hk, hr, Option.map_none])
    · exact guardFrame_of_bad_format hg (by rw [guardDemand_lidSet _ hk, hr, Option.map_none])
    case owned =>
      refine guardFrame_of_not_idle hg ?_ hi
      obtain ⟨hk, hr⟩ | ⟨hk, hr⟩ | ⟨hk, hr⟩ := hr
      · simpa [guardDemand_speedSet _ hk] using hr
      · simpa [guardDemand_heatSet _ hk] using hr
      · simpa [guardDemand_lidSet _ hk] using hr
    case speed =>
      rintro v d hk hr u rfl
      rw [guardFrame_of_idle hg (by rw [guardDemand_speedSet _ hk, hr, Option.map_some]) hi]
      exact ⟨onlyRuns_manualSpeed .., manualSpeed_run .., manualSpeed_drive v d hi⟩
    case heat =>
      rintro w hk hr u rfl
      rw [guardFrame_of_idle hg (by rw [guardDemand_heatSet _ hk, hr, Option.map_some]) hi]
      exact ⟨onlyRuns_manualHeat .., manualHeat_run .., manualHeat_drive ..⟩
    case lock =>
      intro k hk hr hl
      rw [guardFrame_of_idle hg (by rw [guardDemand_lidSet _ hk, hr, Option.map_some]) hi, manualLid_lock hl]
    case unlock =>
      rintro hk hr u rfl
      rw [guardFrame_of_idle hg (by rw [guardDemand_lidSet _ hk, hr, Option.map_some]) hi]
      exact ⟨onlyRuns_manualLid .., manualLid_run .., unlockAsked_askUnlock .., manualLid_unlock_manualLid ..⟩

end Sys2Proof.Machine

/-! PROOFS. The node table (chapter 7): what its entries and searches read after a change (R131), how a node is bound (R140),
and what the removal of entries leaves (R16, R131). -/

namespace Sys2Proof.Machine

open Sys2Proof

/-! ### Entries and searches (R131) -/

theorem entryAt_of_lt {s : State} {i : Nat} (h : i < 16) : s.entryAt i = s.nodes[i] := by
  simp [State.entryAt, h]

theorem entryAt_of_le {s : State} {i : Nat} (h : 16 ≤ i) : s.entryAt i = none := by
  simp [State.entryAt, Nat.not_lt.mpr h]

theorem entryAt_setEntry_same {s : State} {i : Nat} {o : Option NodeEntry} (h : i < 16) :
    (s.setEntry i o).entryAt i = o := by
  simp [entryAt_of_lt h, State.setEntry]

theorem entryAt_setEntry_ne {s : State} {i j : Nat} {o : Option NodeEntry} (h : i ≠ j) :
    (s.setEntry i o).entryAt j = s.entryAt j := by
  simp [State.entryAt, State.setEntry, h]

/-- An emptied place reads empty, also outside the table. -/
theorem entryAt_setEntry_none (s : State) (i j : Nat) :
    (s.setEntry i none).entryAt j = if j = i then none else s.entryAt j := by
  split
  · next h =>
    subst h
    obtain hj | hj := Nat.lt_or_ge j 16
    · exact entryAt_setEntry_same hj
    · exact entryAt_of_le hj
  · next h => exact entryAt_setEntry_ne (Ne.symm h)

/-- The last of two writes at one index counts. -/
theorem setEntry_setEntry (s : State) (i : Nat) (o o' : Option NodeEntry) :
    (s.setEntry i o).setEntry i o' = s.setEntry i o' := by
  simp [State.setEntry]

@[simp] theorem setEntry_side (s : State) (i : Nat) (o : Option NodeEntry) (n : StationId) :
    (s.setEntry i o).side n = s.side n := by
  cases n <;> rfl

/-- A search of the table finds the lowest index that passes. -/
theorem findIdx_nodes_eq_some {s : State} {q : Option NodeEntry → Bool} {i : Nat} :
    s.nodes.toList.findIdx? q = some i ↔
      i < 16 ∧ q (s.entryAt i) = true ∧ ∀ j, j < i → q (s.entryAt j) = false := by
  rw [List.findIdx?_eq_some_iff_getElem]
  constructor
  · rintro ⟨hi, hq, hlow⟩
    have hi : i < 16 := by simpa using hi
    exact ⟨hi, by simpa [entryAt_of_lt hi] using hq,
      fun j hj => by simpa [entryAt_of_lt (hj.trans hi)] using hlow j hj⟩
  · rintro ⟨hi, hq, hlow⟩
    exact ⟨by simpa using hi, by simpa [entryAt_of_lt hi] using hq,
      fun j hj => by simpa [entryAt_of_lt (hj.trans hi)] using hlow j hj⟩

theorem findIdx_nodes_eq_none {s : State} {q : Option NodeEntry → Bool} :
    s.nodes.toList.findIdx? q = none ↔ ∀ i, i < 16 → q (s.entryAt i) = false := by
  rw [List.findIdx?_eq_none_iff, List.forall_mem_iff_forall_getElem]
  constructor
  · intro h i hi
    have hq := h i (by simpa using hi)
    rwa [Vector.getElem_toList, ← entryAt_of_lt hi] at hq
  · intro h i hi
    have hi : i < 16 := by simpa using hi
    simpa only [entryAt_of_lt hi, Vector.getElem_toList] using h i hi

theorem freeNode_eq_some {s : State} {i : Nat} (h : s.firstFree i) : s.freeNode = some i := by
  obtain ⟨hi, hfree, hlow⟩ := h
  exact findIdx_nodes_eq_some.mpr ⟨hi, by simp [hfree], fun j hj => by simpa [Option.isSome_iff_ne_none] using hlow j hj⟩

theorem freeNode_eq_none {s : State} (h : ∀ i, i < 16 → s.entryAt i ≠ none) : s.freeNode = none :=
  findIdx_nodes_eq_none.mpr (fun i hi => by simpa [Option.isSome_iff_ne_none] using h i hi)

/-- The index at which a node is found holds that node. -/
theorem nodeIndex_number {s : State} {k : NodeId} {i : Nat} {e : NodeEntry} (hk : s.nodeIndex k = some i)
    (he : s.entryAt i = some e) : i < 16 ∧ e.number = k := by
  obtain ⟨hi, hq, -⟩ := findIdx_nodes_eq_some.mp hk
  exact ⟨hi, by simpa [he, holdsNode] using hq⟩

/-- A node's entry rewritten in place is found where it was. -/
theorem nodeIndex_setEntry {s : State} {k : NodeId} {i : Nat} {e : NodeEntry} (hk : s.nodeIndex k = some i)
    (he : e.number = k) : (s.setEntry i (some e)).nodeIndex k = some i := by
  obtain ⟨hi, -, hlow⟩ := findIdx_nodes_eq_some.mp hk
  refine findIdx_nodes_eq_some.mpr ⟨hi, by simp [entryAt_setEntry_same hi, holdsNode, he], fun j hj => ?_⟩
  rw [entryAt_setEntry_ne hj.ne']
  exact hlow j hj

theorem nodeEntry_eq_some {s : State} {k : NodeId} {i : Nat} {e : NodeEntry} (hk : s.nodeIndex k = some i)
    (he : s.entryAt i = some e) : s.nodeEntry k = some e := by
  simp [State.nodeEntry, hk, he]

theorem learnedCount_eq_zero {s : State} (p : Port) (h : ∀ i e, s.entryAt i = some e → e.origin ≠ .learned) :
    s.learnedCount p = 0 := by
  refine List.countP_eq_zero.mpr fun o ho => ?_
  obtain ⟨i, hi, rfl⟩ := List.mem_iff_getElem.mp ho
  have hi : i < 16 := by simpa using hi
  have hat := h i
  rw [entryAt_of_lt hi] at hat
  cases hn : s.nodes[i] <;> simp_all [learnedOn]

/-! ### The station and role of a node (R140) -/

theorem boundAs_of_bindings {s t : State} (h : ∀ n, (t.st n).binding = (s.st n).binding) (k : NodeId) :
    t.boundAs k = s.boundAs k := by
  have h0 : t.station0.binding = s.station0.binding := h .zero
  have h1 : t.station1.binding = s.station1.binding := h .one
  simp [State.boundAs, h0, h1]

@[simp] theorem setEntry_boundAs (s : State) (i : Nat) (o : Option NodeEntry) (k : NodeId) :
    (s.setEntry i o).boundAs k = s.boundAs k :=
  boundAs_of_bindings (by simp) k

@[simp] theorem setNotice_boundAs (b : NoticeBit) (s : State) (k : NodeId) : (setNotice b s).boundAs k = s.boundAs k :=
  boundAs_of_bindings (by simp) k

theorem roleOf_eq_none {b : Binding} {k : NodeId} (h : ∀ r, b.get r ≠ some k) : roleOf b k = none :=
  find_allRoles_none (by simpa using h)

theorem roleOf_eq_some {b : Binding} {k : NodeId} {r : Role} (h : ∀ q, b.get q = some k ↔ q = r) :
    roleOf b k = some r := by
  refine find_allRoles (by simpa using (h r).mpr rfl) fun q hq => ?_
  have hne : q ≠ r := by rintro rfl; exact absurd hq (lt_irrefl _)
  simpa using mt (h q).mp hne

theorem boundAs_eq_none {s : State} {k : NodeId} (h : ∀ n r, (s.st n).binding.get r ≠ some k) :
    s.boundAs k = none := by
  have h0 : roleOf s.station0.binding k = none := roleOf_eq_none (h .zero)
  have h1 : roleOf s.station1.binding k = none := roleOf_eq_none (h .one)
  simp [State.boundAs, h0, h1]

theorem boundAs_eq_some {s : State} {k : NodeId} {n : StationId} {r : Role}
    (h : ∀ m q, (s.st m).binding.get q = some k ↔ m = n ∧ q = r) : s.boundAs k = some (n, r) := by
  cases n with
  | zero =>
    have h0 : roleOf s.station0.binding k = some r := roleOf_eq_some (fun q => by simpa [st_zero] using h .zero q)
    simp [State.boundAs, h0]
  | one =>
    have h0 : roleOf s.station0.binding k = none := roleOf_eq_none (fun q => by simpa [st_zero] using h .zero q)
    have h1 : roleOf s.station1.binding k = some r := roleOf_eq_some (fun q => by simpa [st_one] using h .one q)
    simp [State.boundAs, h0, h1]

/-! ### Removal (R16, R131) -/

/-- A station whose recipe lock becomes free where `gone` holds of its holder. -/
def freeLocks (gone : NodeId → Bool) (st : Station) : Station :=
  if st.lockHolder.any gone then { st with lockHolder := none } else st

theorem freeLock_eq_freeLocks (k : NodeId) (st : Station) : freeLock k st = freeLocks (· == k) st := by
  cases h : st.lockHolder <;> simp [freeLock, freeLocks, h]

theorem freeLocks_freeLocks (g h : NodeId → Bool) (st : Station) :
    freeLocks g (freeLocks h st) = freeLocks (fun k => h k || g k) st := by
  cases hl : st.lockHolder with
  | none => simp [freeLocks, hl]
  | some k => cases hk : h k <;> simp [freeLocks, hl, hk]

@[simp] theorem freeLocks_lockHolder (gone : NodeId → Bool) (st : Station) :
    (freeLocks gone st).lockHolder = st.lockHolder.filter (fun k => !gone k) := by
  cases hl : st.lockHolder with
  | none => simp [freeLocks, hl]
  | some k => cases hk : gone k <;> simp [freeLocks, hl, hk, Option.filter_some]

@[simp] theorem freeLocks_binding (gone : NodeId → Bool) (st : Station) : (freeLocks gone st).binding = st.binding := by
  unfold freeLocks; split <;> rfl

@[simp] theorem freeLocks_run (gone : NodeId → Bool) (st : Station) : (freeLocks gone st).run = st.run := by
  unfold freeLocks; split <;> rfl

theorem freeLocks_of_unlocked {gone : NodeId → Bool} {st : Station} (h : st.lockHolder = none) :
    freeLocks gone st = st := by
  simp [freeLocks, h]

theorem removeEntry_of_some {s : State} {i : Nat} {e : NodeEntry} (he : s.entryAt i = some e) :
    removeEntry i s = ((s.setEntry i none).modSt .zero (freeLock e.number)).modSt .one (freeLock e.number) := by
  simp only [removeEntry, he]
  rfl

theorem entryAt_of_nodes {s t : State} (h : t.nodes = s.nodes) (j : Nat) : t.entryAt j = s.entryAt j := by
  simp [State.entryAt, h]

/-- Whether the entry at an index is one that `p` accepts for node `k`. -/
def State.accepted (s : State) (p : NodeEntry → Bool) (k : NodeId) (i : Nat) : Bool :=
  (s.entryAt i).any (fun e => e.number == k && p e)

/-- One turn of the removal: the entry at an index goes where `p` accepts it. -/
def removeIf (p : NodeEntry → Bool) (i : Nat) (s : State) : State :=
  match s.entryAt i with
  | some e => if p e then removeEntry i s else s
  | none => s

/-- What a turn can do: it removes the entry, or it finds none to remove and changes nothing. -/
theorem removeIf_cases (p : NodeEntry → Bool) (i : Nat) (s : State) :
    (∃ e, s.entryAt i = some e ∧ p e = true ∧ removeIf p i s =
      ((s.setEntry i none).modSt .zero (freeLock e.number)).modSt .one (freeLock e.number)) ∨
    (s.entryAt i).any p = false ∧ removeIf p i s = s := by
  cases he : s.entryAt i with
  | none => exact .inr ⟨rfl, by simp [removeIf, he]⟩
  | some e =>
    cases hp : p e with
    | false => exact .inr ⟨by simp [hp], by simp [removeIf, he, hp]⟩
    | true => exact .inl ⟨e, rfl, hp, by simp [removeIf, he, hp, removeEntry_of_some he]⟩

theorem removeIf_entryAt (p : NodeEntry → Bool) (i : Nat) (s : State) (j : Nat) :
    (removeIf p i s).entryAt j = if j = i then (s.entryAt i).filter (fun e => !p e) else s.entryAt j := by
  obtain ⟨e, he, hp, h⟩ | ⟨hp, h⟩ := removeIf_cases p i s
  · rw [h, entryAt_of_nodes (s := s.setEntry i none) (by simp), entryAt_setEntry_none, he]
    simp [hp, Option.filter_some]
  · have hkeep : (s.entryAt i).filter (fun e => !p e) = s.entryAt i := by
      cases he : s.entryAt i <;> simp_all
    rw [h, hkeep]
    split
    · next hj => rw [hj]
    · rfl

/-- The lock of a removed node becomes free. -/
theorem removeIf_st (p : NodeEntry → Bool) (i : Nat) (s : State) (n : StationId) :
    (removeIf p i s).st n = freeLocks (fun k => s.accepted p k i) (s.st n) := by
  obtain ⟨e, he, hp, h⟩ | ⟨hp, h⟩ := removeIf_cases p i s
  · have hgone : (fun k => s.accepted p k i) = (· == e.number) := by
      funext k
      simp [State.accepted, he, hp, Bool.beq_comm]
    rw [h, hgone, ← freeLock_eq_freeLocks]
    cases n with
    | zero => rw [st_modSt_ne (by decide), st_modSt, setEntry_st]
    | one => rw [st_modSt, st_modSt_ne (by decide), setEntry_st]
  · have hgone : (fun k => s.accepted p k i) = fun _ => false := by
      funext k
      cases he : s.entryAt i <;> simp_all [State.accepted]
    rw [h, hgone]
    simp [freeLocks]

@[simp] theorem removeIf_control (p : NodeEntry → Bool) (i : Nat) (s : State) :
    (removeIf p i s).control = s.control := by
  obtain ⟨e, -, -, h⟩ | ⟨-, h⟩ := removeIf_cases p i s <;> simp [h]

@[simp] theorem removeIf_appliance (p : NodeEntry → Bool) (i : Nat) (s : State) :
    (removeIf p i s).appliance = s.appliance := by
  obtain ⟨e, -, -, h⟩ | ⟨-, h⟩ := removeIf_cases p i s <;> simp [h]

@[simp] theorem removeIf_notices (p : NodeEntry → Bool) (i : Nat) (s : State) :
    (removeIf p i s).notices = s.notices := by
  obtain ⟨e, -, -, h⟩ | ⟨-, h⟩ := removeIf_cases p i s <;> simp [h]

/-- The turns at the indices below `m`, in their order. -/
def removeBelow (p : NodeEntry → Bool) : Nat → State → State
  | 0, s => s
  | m + 1, s => removeIf p m (removeBelow p m s)

theorem removeBelow_eq_foldl (p : NodeEntry → Bool) (m : Nat) (s : State) :
    removeBelow p m s = (List.range m).foldl (fun s i => removeIf p i s) s := by
  induction m with
  | zero => rfl
  | succ m ih => simp [removeBelow, List.range_succ, ih]

theorem removeWhere_eq_removeBelow (p : NodeEntry → Bool) (s : State) : removeWhere p s = removeBelow p 16 s :=
  (removeBelow_eq_foldl p 16 s).symm

/-- Below `m` only the entries that `p` does not accept remain, and from `m` on every entry. -/
theorem removeBelow_entryAt (p : NodeEntry → Bool) (m : Nat) (s : State) (j : Nat) :
    (removeBelow p m s).entryAt j = if j < m then (s.entryAt j).filter (fun e => !p e) else s.entryAt j := by
  induction m generalizing j with
  | zero => simp [removeBelow]
  | succ m ih =>
    rw [removeBelow, removeIf_entryAt]
    obtain hj | rfl | hj := Nat.lt_trichotomy j m
    · rw [if_neg hj.ne, ih, if_pos hj, if_pos (by omega)]
    · rw [if_pos rfl, ih, if_neg (lt_irrefl _), if_pos (by omega)]
    · rw [if_neg hj.ne', ih, if_neg (by omega), if_neg (by omega)]

/-- The locks of the removed nodes become free. -/
theorem removeBelow_st (p : NodeEntry → Bool) (m : Nat) (s : State) (n : StationId) :
    (removeBelow p m s).st n = freeLocks (fun k => (List.range m).any (s.accepted p k)) (s.st n) := by
  induction m with
  | zero => simp [removeBelow, freeLocks]
  | succ m ih =>
    have hm : (removeBelow p m s).entryAt m = s.entryAt m := by simp [removeBelow_entryAt]
    rw [removeBelow, removeIf_st, ih, freeLocks_freeLocks]
    simp [State.accepted, hm, List.range_succ]

@[simp] theorem removeBelow_control (p : NodeEntry → Bool) (m : Nat) (s : State) :
    (removeBelow p m s).control = s.control := by
  induction m <;> simp_all [removeBelow]

@[simp] theorem removeBelow_appliance (p : NodeEntry → Bool) (m : Nat) (s : State) :
    (removeBelow p m s).appliance = s.appliance := by
  induction m <;> simp_all [removeBelow]

@[simp] theorem removeBelow_notices (p : NodeEntry → Bool) (m : Nat) (s : State) :
    (removeBelow p m s).notices = s.notices := by
  induction m <;> simp_all [removeBelow]

end Sys2Proof.Machine

/-! PROOFS. The requests on the node table (chapter 7): NODE_WRITE (R142), its delete form (R143), NODE_READ (R144) and
NODE_FLUSH (R145). -/

namespace Sys2Proof.Machine

open Sys2Proof

/-! ### The arguments of NODE_WRITE (R142) -/

theorem nodeOf_eq_none {own : NodeId} {b : Byte} (h : 30 < b.toNat ∨ b.setWidth 5 = own) : nodeOf own b = none := if_pos h

theorem nodeOf_eq_some {own : NodeId} {b : Byte} (h : b.toNat ≤ 30) (ho : b.setWidth 5 ≠ own) :
    nodeOf own b = some (b.setWidth 5) :=
  if_neg (not_or.mpr ⟨Nat.not_lt.mpr h, ho⟩)

theorem silenceLimitOk_iff (v : Nat) : silenceLimitOk v = true ↔ v = 0 ∨ 20 ≤ v ∧ v ≤ 2000 ∧ v % 10 = 0 := by
  simp [silenceLimitOk, and_assoc]

section
variable {s : State} {kb pb lo hi : Byte}

theorem nodeWriteRule_badNode (h : 30 < kb.toNat ∨ kb.setWidth 5 = s.ownNode) :
    nodeWriteRule [kb, pb, lo, hi] s = (s, refuse .badValue 0) := by
  simp [nodeWriteRule, nodeOf_eq_none h]

variable (hk : kb.toNat ≤ 30) (ho : kb.setWidth 5 ≠ s.ownNode)
include hk ho

theorem nodeWriteRule_badPort (hp : portOf pb = none) :
    nodeWriteRule [kb, pb, lo, hi] s = (s, refuse .badValue 1) := by
  simp [nodeWriteRule, nodeOf_eq_some hk ho, hp]

variable {p : Port} (hp : portOf pb = some p)
include hp

theorem nodeWriteRule_badLimit (h : silenceLimitOk (u16 lo hi) = false) :
    nodeWriteRule [kb, pb, lo, hi] s = (s, refuse .badValue 2) := by
  simp [nodeWriteRule, nodeOf_eq_some hk ho, hp, h]

theorem nodeWriteRule_checked (h : silenceLimitOk (u16 lo hi) = true) :
    nodeWriteRule [kb, pb, lo, hi] s = nodeWrite (kb.setWidth 5) p (u16 lo hi) s := by
  simp [nodeWriteRule, nodeOf_eq_some hk ho, hp, h]

end

/-! ### The entry that is written, and the silence due at once (R142, R139) -/

theorem silenceDue_iff {e : NodeEntry} (h : e.origin = .static) : e.silenceDue = true ↔ e.due := by
  simp [NodeEntry.silenceDue, NodeEntry.due, h, and_assoc]

theorem writeEntry_of_not_due {s : State} {i : Nat} {e : NodeEntry} (h : e.silenceDue = false) :
    writeEntry i e s = s.setEntry i (some e) := by
  simp [writeEntry, h]

/-- The silence marks the entry just written, so one write of the marked entry stands for both. -/
theorem writeEntry_of_due {s : State} {i : Nat} {e : NodeEntry} (h : e.silenceDue = true) :
    writeEntry i e s = becomeSilent i e s := by
  simp [writeEntry, h, becomeSilent, setEntry_setEntry]

theorem becomeSilent_unbound {s : State} {i : Nat} {e : NodeEntry} (h : s.boundAs e.number = none) :
    becomeSilent i e s = setNotice .nodeSilent (s.setEntry i (some { e with silent := true })) := by
  simp [becomeSilent, h]

theorem becomeSilent_bound {s : State} {i : Nat} {e : NodeEntry} {n : StationId} {r : Role}
    (h : s.boundAs e.number = some (n, r)) :
    becomeSilent i e s = roleSilent n r (setNotice .nodeSilent (s.setEntry i (some { e with silent := true }))) := by
  simp [becomeSilent, h]

/-- A new entry has age 0, below the tenth of every limit that NODE_WRITE accepts. -/
theorem staticEntry_not_due {k : NodeId} {p : Port} {v : Nat} (h : silenceLimitOk v = true) :
    (staticEntry k p v).silenceDue = false := by
  rw [silenceLimitOk_iff] at h
  simp only [NodeEntry.silenceDue, staticEntry, Nat.le_zero_eq, Bool.and_eq_false_iff, bne_eq_false_iff_eq,
    decide_eq_false_iff_not, Nat.div_eq_zero_iff]
  omega

/-! ### NODE_WRITE past its checks (R142) -/

section
variable {s : State} {k : NodeId} {p : Port} {v : Nat}

section
variable {i : Nat} {e : NodeEntry} (hi : s.nodeIndex k = some i) (he : s.entryAt i = some e)
include hi he

theorem nodeWrite_wrongPort {n : StationId} {r : Role} (hb : s.boundAs k = some (n, r)) (hp : e.port ≠ p) :
    nodeWrite k p v s = (s, refuse .wrongState (10 * stationNo n + roleNo r)) := by
  simp [nodeWrite, hi, nodeEntry_eq_some hi he, hb, hp, bindingNo]

theorem nodeWrite_known (h : s.boundAs k = none ∨ e.port = p) :
    nodeWrite k p v s = (writeEntry i (e.rewritten p v) s, done [byteOf i]) := by
  have hrewritten : rewrittenEntry e p v = e.rewritten p v := rfl
  cases hb : s.boundAs k with
  | none => simp [nodeWrite, hi, nodeEntry_eq_some hi he, hb, hrewritten]
  | some b =>
    have hp : e.port = p := h.resolve_left (by simp [hb])
    simp [nodeWrite, hi, nodeEntry_eq_some hi he, hb, hp, hrewritten]

end

variable (hk : s.nodeIndex k = none)
include hk

theorem nodeWrite_full (h : s.freeNode = none) : nodeWrite k p v s = (s, refuse .full 0) := by
  simp [nodeWrite, hk, h]

theorem nodeWrite_new {i : Nat} (h : s.freeNode = some i) :
    nodeWrite k p v s = (writeEntry i (staticEntry k p v) s, done [byteOf i]) := by
  simp [nodeWrite, hk, h]

end

/-- The write form has four arguments, so its code does not stand for the delete form. -/
theorem exec_nodeWrite (q : NodeId) (tag kb pb lo hi : Byte) (s : State) :
    exec (.nodeWrite q tag [kb, pb, lo, hi]) s =
      .next (serve (commandRequest (.nodeWrite q tag [kb, pb, lo, hi])) (nodeWriteRule [kb, pb, lo, hi]) s) := rfl

/-- Settles O31: each refusal is one equation of `nodeWriteRule` or `nodeWrite`, and an accepted write leaves what
`writeEntry` makes of the rewritten or the new entry. -/
theorem nodeWriteTable : Obligations.NodeWriteTable := by
  rintro s q tag kb pb lo hi c rfl h
  have answer {a t} : nodeWriteRule [kb, pb, lo, hi] s = (t, a) →
      Answers (.nodeWrite q tag [kb, pb, lo, hi]) s a t :=
    answers_of_rule _ h (exec_nodeWrite ..)
  refine ⟨fun hk => answer (nodeWriteRule_badNode hk), fun hk ho =>
    ⟨fun hp => answer (nodeWriteRule_badPort hk ho hp), fun p hp => ⟨fun h0 hv => ?limit, fun hv => ?checked⟩⟩⟩
  case limit =>
    refine answer (nodeWriteRule_badLimit hk ho hp ?_)
    rw [Bool.eq_false_iff, ne_eq, silenceLimitOk_iff]
    omega
  case checked =>
    have hok : silenceLimitOk (u16 lo hi) = true := (silenceLimitOk_iff _).mpr hv
    rw [nodeWriteRule_checked hk ho hp hok] at answer
    refine ⟨fun i e hn he => ⟨fun n r hb hport => answer (nodeWrite_wrongPort hn he hb hport), fun hfree => ?known⟩,
      fun hn => ⟨fun hfull => answer (nodeWrite_full hn (freeNode_eq_none hfull)), fun i hfirst => ?new⟩⟩
    case known =>
      obtain ⟨-, hnumber⟩ := nodeIndex_number hn he
      have hdue : (e.rewritten p (u16 lo hi)).silenceDue = true ↔ (e.rewritten p (u16 lo hi)).due := silenceDue_iff rfl
      rw [nodeWrite_known hn he hfree] at answer
      refine ⟨fun hnot => ?_, ?_⟩
      · rw [writeEntry_of_not_due (Bool.eq_false_iff.mpr (mt hdue.mp hnot))] at answer
        exact answer rfl
      · rintro hd v rfl
        rw [writeEntry_of_due (hdue.mpr hd)] at answer
        rw [← hnumber]
        exact ⟨fun hb => answer (Prod.ext (becomeSilent_unbound hb) rfl),
          fun n r hb => answer (Prod.ext (becomeSilent_bound hb) rfl)⟩
    case new =>
      rw [nodeWrite_new hn (freeNode_eq_some hfirst), writeEntry_of_not_due (staticEntry_not_due hok)] at answer
      exact answer rfl

/-! ### NODE_DELETE (R143, R16) -/

section
variable {s : State} {kb : Byte}

theorem nodeDeleteRule_badNode (h : 30 < kb.toNat ∨ kb.setWidth 5 = s.ownNode) :
    nodeDeleteRule [kb] s = (s, refuse .badValue 0) := by
  simp [nodeDeleteRule, nodeOf_eq_none h]

variable (hk : kb.toNat ≤ 30) (ho : kb.setWidth 5 ≠ s.ownNode)
include hk ho

theorem nodeDeleteRule_unknown (hi : s.nodeIndex (kb.setWidth 5) = none) :
    nodeDeleteRule [kb] s = (s, refuse .notKnown 0) := by
  simp [nodeDeleteRule, nodeOf_eq_some hk ho, hi]

variable {i : Nat} (hi : s.nodeIndex (kb.setWidth 5) = some i)
include hi

theorem nodeDeleteRule_bound {n : StationId} {r : Role} (hb : s.boundAs (kb.setWidth 5) = some (n, r)) :
    nodeDeleteRule [kb] s = (s, refuse .wrongState (10 * stationNo n + roleNo r)) := by
  simp [nodeDeleteRule, nodeOf_eq_some hk ho, hi, hb, bindingNo]

theorem nodeDeleteRule_removes (hb : s.boundAs (kb.setWidth 5) = none) :
    nodeDeleteRule [kb] s = (removeEntry i s, done []) := by
  simp [nodeDeleteRule, nodeOf_eq_some hk ho, hi, hb]

end

/-- The delete form has one argument, so its code does not stand for the write form. -/
theorem exec_nodeDelete (q : NodeId) (tag kb : Byte) (s : State) :
    exec (.nodeDelete q tag [kb]) s =
      .next (serve (commandRequest (.nodeDelete q tag [kb])) (nodeDeleteRule [kb]) s) := rfl

/-! ### NODE_READ (R144) -/

theorem nodeReadRule_outside {s : State} {b : Byte} (h : 15 < b.toNat) :
    nodeReadRule [b] s = (s, refuse .badValue 0) := by
  simp [nodeReadRule, h]

theorem nodeReadRule_inside {s : State} {b : Byte} (h : b.toNat ≤ 15) :
    nodeReadRule [b] s =
      (s, (s.entryAt b.toNat).elim (done []) (fun e => { status := .done, detail := 1, data := s.nodeBytes e })) := by
  cases he : s.entryAt b.toNat <;> simp [nodeReadRule, Nat.not_lt.mpr h, he]

/-! ### NODE_FLUSH (R145) -/

theorem isLearned_iff (e : NodeEntry) : e.isLearned = true ↔ e.origin = .learned := by
  simp [NodeEntry.isLearned]

theorem removeWhere_entryAt (p : NodeEntry → Bool) (s : State) (i : Nat) :
    (removeWhere p s).entryAt i = (s.entryAt i).filter (fun e => !p e) := by
  rw [removeWhere_eq_removeBelow, removeBelow_entryAt]
  split
  · rfl
  · next hi => simp [entryAt_of_le (Nat.not_lt.mp hi)]

theorem removeWhere_st (p : NodeEntry → Bool) (s : State) (n : StationId) :
    (removeWhere p s).st n = freeLocks (fun k => (List.range 16).any (s.accepted p k)) (s.st n) := by
  rw [removeWhere_eq_removeBelow, removeBelow_st]

theorem any_accepted_iff {s : State} {p : NodeEntry → Bool} {k : NodeId} :
    (List.range 16).any (s.accepted p k) = true ↔ ∃ i e, s.entryAt i = some e ∧ e.number = k ∧ p e = true := by
  simp only [List.any_eq_true, List.mem_range, State.accepted, Option.any_eq_true, Bool.and_eq_true, beq_iff_eq]
  constructor
  · rintro ⟨i, -, e, he, hk, hp⟩
    exact ⟨i, e, he, hk, hp⟩
  · rintro ⟨i, e, he, hk, hp⟩
    refine ⟨i, ?_, e, he, hk, hp⟩
    by_contra hi
    simp [entryAt_of_le (Nat.not_lt.mp hi)] at he

/-- A lock whose holder is among the removed nodes becomes free, and every other stays. -/
theorem removeWhere_lockHolder {p : NodeEntry → Bool} {s : State} {n : StationId} {k : NodeId}
    (h : (s.st n).lockHolder = some k) :
    ((∃ i e, s.entryAt i = some e ∧ e.number = k ∧ p e = true) → ((removeWhere p s).st n).lockHolder = none) ∧
    (¬ (∃ i e, s.entryAt i = some e ∧ e.number = k ∧ p e = true) →
      ((removeWhere p s).st n).lockHolder = some k) := by
  rw [← any_accepted_iff, removeWhere_st, freeLocks_lockHolder, h]
  constructor <;> intro hgone <;> simp only [hgone, Option.filter_some] <;> rfl

theorem removeWhere_of_unlocked {p : NodeEntry → Bool} {s : State} {n : StationId} (h : (s.st n).lockHolder = none) :
    (removeWhere p s).st n = s.st n := by
  rw [removeWhere_st, freeLocks_of_unlocked h]

/-- Settles O32: the answers of NODE_DELETE and NODE_READ are equations of their rules, and NODE_FLUSH is the removal of the
LEARNED entries, whose entries and locks the laws of `removeWhere` give. -/
theorem nodeDeleteReadFlush : Obligations.NodeDeleteReadFlush := by
  refine fun s q tag kb => ⟨fun h => ?delete, fun h => ?read, fun h => ?flush⟩
  case delete =>
    have answer {a t} : nodeDeleteRule [kb] s = (t, a) → Answers (.nodeDelete q tag [kb]) s a t :=
      answers_of_rule _ h (exec_nodeDelete ..)
    refine ⟨fun hk => answer (nodeDeleteRule_badNode hk), fun hk ho =>
      ⟨fun hi => answer (nodeDeleteRule_unknown hk ho hi), fun i e hi he =>
        ⟨fun n r hb => answer (nodeDeleteRule_bound hk ho hi hb), fun hb => ?_⟩⟩⟩
    rw [← removeEntry_of_some he]
    exact answer (nodeDeleteRule_removes hk ho hi hb)
  case read =>
    have answer {a t} : nodeReadRule [kb] s = (t, a) → Answers (.nodeRead q tag [kb]) s a t :=
      answers_of_rule _ h rfl
    refine ⟨fun hi => answer (nodeReadRule_outside hi), fun hi he => ?_, fun e hi he => ?_⟩
    · exact answer (by rw [nodeReadRule_inside hi, he]; rfl)
    · refine answer ?_
      rw [nodeReadRule_inside hi, he]
      cases hb : s.boundAs e.number <;> simp [State.nodeBytes, optCode, bindingNo, hb]
  case flush =>
    have hat (i : Nat) := removeWhere_entryAt NodeEntry.isLearned s i
    have hnone (i : Nat) (e : NodeEntry) (he : (removeWhere NodeEntry.isLearned s).entryAt i = some e) :
        e.origin ≠ .learned := by
      rw [hat, Option.filter_eq_some_iff] at he
      simpa [← isLearned_iff] using he.2
    refine ⟨removeWhere NodeEntry.isLearned s, answers_of_rule _ h rfl rfl,
      fun i => ⟨fun e he hl => ?_, fun e he hs => ?_, fun he => ?_⟩,
      learnedCount_eq_zero _ hnone, learnedCount_eq_zero _ hnone, fun n k hk => ?_,
      fun n hn => removeWhere_of_unlocked hn, fun n => ?_, ?_, ?_, ?_⟩
    · simp [hat, he, NodeEntry.isLearned, hl, Option.filter_some]
    · simp [hat, he, NodeEntry.isLearned, hs, Option.filter_some]
    · simp [hat, he]
    · simpa only [isLearned_iff] using removeWhere_lockHolder (p := NodeEntry.isLearned) hk
    · simp [removeWhere_st]
    all_goals simp [removeWhere_eq_removeBelow]

end Sys2Proof.Machine

/-! PROOFS. The admission of a frame by its source and arrival port (R133 to R136), and what a role that is heard again
brings about in its station: the arbiter after a recomputation (R107 to R110) and the speed under a new envelope (R115,
R116). -/

namespace Sys2Proof.Machine

open Sys2Proof

/-! ### The arbiter after a recomputation (R107 to R110) -/

/-- The last value sent is within the grant step of the grant (R110). -/
def ArbiterSide.followsGrant (a : ArbiterSide) : Prop :=
  ∃ v, a.lastSent = some v ∧ a.grant < v + 10 ∧ v < a.grant + 10 ∧ (a.grant = 0 ↔ v = 0)

theorem side_of_arbiter {s t : State} (h : t.arbiter = s.arbiter) (m : StationId) : t.side m = s.side m := by
  cases m <;> simp [State.side, h]

/-- Of the arbiter a grant test writes at most the last value sent to its own station. -/
theorem testGrant_arbiter (n : StationId) (s : State) :
    (testGrant n s).arbiter = s.arbiter ∨
    (testGrant n s).arbiter = (s.modSide n (fun a => { a with lastSent := some a.grant })).arbiter := by
  unfold testGrant sendHeatSet
  split
  · split
    · exact .inl rfl
    · exact .inr (originate_arbiter ..)
  · exact .inl rfl

theorem testGrant_side_ne {n m : StationId} (s : State) (h : m ≠ n) : (testGrant n s).side m = s.side m := by
  obtain ha | ha := testGrant_arbiter n s
  · exact side_of_arbiter ha m
  · rw [side_of_arbiter ha, side_modSide_ne h]

@[simp] theorem testGrant_counted (n m : StationId) (s : State) :
    ((testGrant n s).side m).counted = (s.side m).counted := by
  obtain ha | ha := testGrant_arbiter n s <;> rw [side_of_arbiter ha]
  cases n <;> cases m <;> rfl

/-- The last value sent has no part in the division. -/
theorem arbiterSound_testGrant {n : StationId} {s : State} (h : ArbiterSound s) : ArbiterSound (testGrant n s) := by
  unfold ArbiterSound at h ⊢
  obtain ha | ha := testGrant_arbiter n s <;> rw [ha]
  · exact h
  · cases n <;> exact h

/-- Behind its test the last value sent follows the grant: it did before, or it was just sent. -/
theorem testGrant_followsGrant {n : StationId} {s : State} (hb : (s.st n).binding.heater ≠ none) :
    ((testGrant n s).side n).followsGrant := by
  obtain ⟨k, hk⟩ := Option.ne_none_iff_exists'.mp hb
  by_cases due : grantDue (s.side n).grant (s.side n).lastSent = true
  · rw [testGrant_of_due due, sendHeatSet_of_bound hk, side_of_arbiter (originate_arbiter ..), side_modSide]
    exact ⟨(s.side n).grant, rfl, Nat.lt_add_of_pos_right (by decide), Nat.lt_add_of_pos_right (by decide), Iff.rfl⟩
  · rw [testGrant_of_not_due due]
    rw [grantDue_iff, not_or] at due
    obtain ⟨hsent, hstep⟩ := due
    obtain ⟨v, hv⟩ := Option.ne_none_iff_exists'.mp hsent
    have hnear := mt (fun far => ⟨v, hv, far⟩) hstep
    exact ⟨v, hv, by omega⟩

@[simp] theorem recomputeArbiter_counted (s : State) (m : StationId) :
    ((recomputeArbiter s).side m).counted = (s.side m).counted := by
  simp only [recomputeArbiter, testGrant_counted]
  cases m <;> rfl

theorem arbiterFollows_recomputeArbiter (s : State) : ArbiterFollows (recomputeArbiter s) := by
  have hdivided : ArbiterSound { s with arbiter := divideArbiter s.arbiter } := ⟨rfl, rfl⟩
  refine ⟨arbiterSound_testGrant (arbiterSound_testGrant hdivided), fun n hn => ?_⟩
  rw [recomputeArbiter_binding] at hn
  cases n with
  | zero =>
    rw [recomputeArbiter, testGrant_side_ne _ (by decide)]
    exact testGrant_followsGrant (by simpa using hn)
  | one => exact testGrant_followsGrant (by simpa using hn)

theorem followDemand_counted (n : StationId) (s : State) :
    ((followDemand n s).side n).counted = s.countedDemand n := by
  unfold followDemand
  split
  · next h => exact h
  · simp

theorem followDemand_counted_ne {n m : StationId} {s : State} (h : m ≠ n) :
    ((followDemand n s).side m).counted = (s.side m).counted := by
  unfold followDemand
  split
  · rfl
  · simp [side_modSide_ne h]

/-! ### The speed under a recomputed envelope (R115, R116) -/

theorem lidLocked_of {s t : State} {n : StationId} (h : t.outline = s.outline)
    (hlid : (t.st n).drive.lidReport = (s.st n).drive.lidReport) : t.lidLocked n = s.lidLocked n := by
  simp only [State.lidLocked, binding_of h, silent_of h, hlid]

theorem envelopeOf_of {s t : State} {n : StationId} (h : t.outline = s.outline) (hheat : (t.st n).heat = (s.st n).heat)
    (hlid : (t.st n).drive.lidReport = (s.st n).drive.lidReport) : t.envelopeOf n = s.envelopeOf n := by
  have hhot : (t.st n).hot = (s.st n).hot := by simp only [Station.hot, hheat, limits_of h]
  simp only [State.envelopeOf, lidLocked_of h hlid, hhot, limits_of h]

theorem requestOf_fst_of {s t : State} {n : StationId} (h : t.outline = s.outline) (hrun : (t.st n).run = (s.st n).run)
    (hmanual : (t.st n).drive.manualSpeed = (s.st n).drive.manualSpeed) : (t.requestOf n).1 = (s.requestOf n).1 := by
  have hstep : t.curStep n = s.curStep n := by simp [State.curStep, hrun, steps_of h]
  unfold State.requestOf
  simp only [hrun, hmanual, hstep]
  split <;> rfl

/-- The inputs of envelope and request stay, and the speed is composed from both. -/
theorem recomputeEnvelope_drive {n : StationId} {s : State} {d : DriveContext}
    (hd : d = ((recomputeEnvelope n s).st n).drive) :
    d.envelope = s.envelopeOf n ∧ d.requested = (s.requestOf n).1 ∧
    d.commanded = min (s.requestOf n).1 (s.envelopeOf n) ∧ d.lidReport = (s.st n).drive.lidReport ∧
    d.manualSpeed = (s.st n).drive.manualSpeed := by
  have hreq : ((s.modDrive n (fun d => { d with envelope := s.envelopeOf n })).requestOf n).1 = (s.requestOf n).1 :=
    requestOf_fst_of (by simp) (by simp) (by simp)
  subst hd
  unfold recomputeEnvelope
  obtain h | ⟨-, h⟩ := recomputeDrive_drive (n := n)
    (s := s.modDrive n (fun d => { d with envelope := s.envelopeOf n })) rfl <;>
  simp [h, composeSpeed, DriveContext.unlocked, hreq]

/-- Envelope and speed agree with the state that the recomputation leaves. -/
theorem recomputeEnvelope_agrees {n : StationId} {s u : State} (hu : u = recomputeEnvelope n s) :
    (u.st n).drive.envelope = u.envelopeOf n ∧ (u.st n).drive.requested = (u.requestOf n).1 ∧
    (u.st n).drive.commanded = min (u.requestOf n).1 (u.st n).drive.envelope ∧
    (u.st n).drive.lidReport = (s.st n).drive.lidReport := by
  obtain ⟨henv, hreq, hcmd, hlid, hmanual⟩ := recomputeEnvelope_drive (n := n) (s := s) rfl
  subst hu
  have henvelope : (recomputeEnvelope n s).envelopeOf n = s.envelopeOf n := envelopeOf_of (by simp) (by simp) hlid
  have hrequest : ((recomputeEnvelope n s).requestOf n).1 = (s.requestOf n).1 :=
    requestOf_fst_of (by simp) (by simp) hmanual
  rw [henvelope, hrequest, henv]
  exact ⟨rfl, hreq, hcmd, hlid⟩

theorem onlyRuns_recomputeEnvelope (n : StationId) (s : State) : OnlyRuns s (recomputeEnvelope n s) n := by
  simp [OnlyRuns]

/-! ### A node heard on its own port (R134, R141) -/

theorem silent_eq {s : State} {n : StationId} {r : Role} {k : NodeId} {e : NodeEntry}
    (hb : (s.st n).binding.get r = some k) (he : s.nodeEntry k = some e) : s.silent n r = e.silent := by
  simp [State.silent, hb, he]

theorem countedDemand_of_heard {s : State} {n : StationId} {k : NodeId} (hb : (s.st n).binding.heater = some k)
    (hs : s.silent n .heater = false) : s.countedDemand n = (s.st n).heat.demand := by
  simp [State.countedDemand, hb, hs]

section
variable {s : State} {i : Nat} {e : NodeEntry}

theorem hearNode_of_heard (h : e.silent = false) : hearNode i e s = s.setEntry i (some { e with age := 0 }) := by
  cases e
  subst h
  rfl

variable (h : e.silent = true)
include h

theorem hearNode_unbound (hb : s.boundAs e.number = none) :
    hearNode i e s = s.setEntry i (some { e with age := 0, silent := false }) := by
  simp [hearNode, h, hb]

theorem hearNode_bound {n : StationId} {r : Role} (hb : s.boundAs e.number = some (n, r)) :
    hearNode i e s = roleHeard n r (s.setEntry i (some { e with age := 0, silent := false })) := by
  simp [hearNode, h, hb]

end

/-- Whatever its station makes of it, the entry has age 0 and is not silent. -/
theorem hearNode_entryAt {s : State} {i : Nat} {e : NodeEntry} (hi : i < 16) :
    (hearNode i e s).entryAt i = some { e with age := 0, silent := false } := by
  have hnodes : (hearNode i e s).nodes = (s.setEntry i (some { e with age := 0, silent := false })).nodes := by
    cases hs : e.silent with
    | false => rw [hearNode_of_heard hs, ← hs]
    | true =>
      cases hb : s.boundAs e.number with
      | none => rw [hearNode_unbound hs hb]
      | some b => rw [hearNode_bound hs hb, roleHeard_nodes]
  rw [entryAt_of_nodes hnodes, entryAt_setEntry_same hi]

/-- The heater's demand counts again, and the arbiter recomputes (R107, R141). -/
theorem roleHeard_heater {s u : State} {n : StationId} {k : NodeId} (hu : u = roleHeard n .heater s)
    (hb : (s.st n).binding.heater = some k) (hs : s.silent n .heater = false) :
    (u.side n).counted = (s.st n).heat.demand ∧
    (u.side (otherStation n)).counted = (s.side (otherStation n)).counted ∧ ArbiterFollows u ∧
    (∀ m, u.st m = s.st m) ∧ u.notices = s.notices := by
  have hother : otherStation n ≠ n := by cases n <;> decide
  subst hu
  refine ⟨?_, ?_, arbiterFollows_recomputeArbiter _, fun m => ?_, ?_⟩
  · rw [roleHeard, recomputeArbiter_counted, followDemand_counted, countedDemand_of_heard hb hs]
  · rw [roleHeard, recomputeArbiter_counted, followDemand_counted_ne hother]
  · simp [roleHeard]
  · simp

/-- The scale and the thermometer are heard without more (R141). -/
theorem roleHeard_sensor {s : State} {n : StationId} {r : Role} (h : r = .weigh ∨ r = .thermo) :
    roleHeard n r s = s := by
  obtain rfl | rfl := h <;> rfl

/-- The envelope is recomputed from the report kept, and the speed with it (R126, R141). -/
theorem roleHeard_lid {s u : State} {n : StationId} (hu : u = roleHeard n .lid s) :
    (u.st n).drive.envelope = u.envelopeOf n ∧ (u.st n).drive.requested = (u.requestOf n).1 ∧
    (u.st n).drive.commanded = min (u.requestOf n).1 (u.st n).drive.envelope ∧
    (u.st n).drive.lidReport = (s.st n).drive.lidReport ∧ (u.st n).run = (s.st n).run ∧
    (u.st n).heat = (s.st n).heat ∧ u.arbiter = s.arbiter ∧ u.notices = s.notices ∧ OnlyRuns s u n := by
  obtain ⟨henv, hreq, hcmd, hlid⟩ := recomputeEnvelope_agrees hu
  refine ⟨henv, hreq, hcmd, hlid, ?_, ?_, ?_, ?_, ?_⟩
  all_goals subst hu
  · exact roleHeard_run ..
  · exact roleHeard_heat ..
  · exact recomputeEnvelope_arbiter ..
  · exact roleHeard_notices ..
  · exact onlyRuns_recomputeEnvelope n s

/-! ### The way of a frame through admission (R133 to R136) -/

theorem limitRoom_iff (s : State) (p : Port) : s.limitRoom p = true ↔ s.room p := by
  simp [State.limitRoom, State.room]

section
variable {s : State} {p : Port} {k : NodeId}

theorem admitSource_clash (h : k = s.ownNode ∨ k = 31) : admitSource p k s = (countPort p .idClash s, false) := if_pos h

section
variable (hc : (s.port p).cfg.admission = .closed)
include hc

theorem admitUnknown_closed : admitUnknown p k s = (countPort p .admission s, false) := by
  simp [admitUnknown, hc]

theorem admitMoved_closed (i : Nat) : admitMoved p i k s = (countPort p .admission s, false) := by
  simp [admitMoved, hc]

end

theorem admitUnknown_learned {i : Nat} (hc : (s.port p).cfg.admission ≠ .closed) (hi : s.freeNode = some i)
    (hr : s.room p) : admitUnknown p k s = (s.setEntry i (some (learnedEntry k p)), true) := by
  have hroom : s.limitRoom p = true := (limitRoom_iff s p).mpr hr
  cases ha : (s.port p).cfg.admission with
  | closed => exact absurd ha hc
  | opened | guarded => simp [admitUnknown, ha, hi, hroom]

theorem admitUnknown_noRoom (hc : (s.port p).cfg.admission ≠ .closed) (h : s.freeNode = none ∨ ¬ s.room p) :
    admitUnknown p k s =
      if (s.port p).cfg.admission = .opened then (s, true) else (countPort p .admission s, false) := by
  rw [← limitRoom_iff, Bool.not_eq_true] at h
  cases ha : (s.port p).cfg.admission with
  | closed => exact absurd ha hc
  | opened | guarded =>
    obtain hfull | hroom := h
    · simp [admitUnknown, ha, hfull]
    · simp [admitUnknown, ha, hroom]

theorem admitMoved_room {i : Nat} (hc : (s.port p).cfg.admission ≠ .closed) (hr : s.room p) :
    admitMoved p i k s = (s.setEntry i (some (learnedEntry k p)), true) := by
  have hroom : s.limitRoom p = true := (limitRoom_iff s p).mpr hr
  cases ha : (s.port p).cfg.admission with
  | closed => exact absurd ha hc
  | opened | guarded => simp [admitMoved, ha, hroom]

theorem admitMoved_noRoom {i : Nat} (hc : (s.port p).cfg.admission ≠ .closed) (hr : ¬ s.room p) :
    admitMoved p i k s =
      if (s.port p).cfg.admission = .opened then (removeEntry i s, true) else (countPort p .admission s, false) := by
  have hroom : s.limitRoom p = false := by rwa [← limitRoom_iff, Bool.not_eq_true] at hr
  cases ha : (s.port p).cfg.admission with
  | closed => exact absurd ha hc
  | opened | guarded => simp [admitMoved, ha, hroom]

section
variable (hk : ¬ (k = s.ownNode ∨ k = 31))
include hk

theorem admitSource_unknown (hi : s.nodeIndex k = none) : admitSource p k s = admitUnknown p k s := by
  rw [admitSource, Config.broadcast, if_neg hk, hi]

variable {i : Nat} {e : NodeEntry} (hi : s.nodeIndex k = some i) (he : s.entryAt i = some e)
include hi he

theorem admitSource_heard (hp : e.port = p) : admitSource p k s = (hearNode i e s, true) := by
  simp only [admitSource, Config.broadcast, if_neg hk, hi, he, if_pos hp]

theorem admitSource_conflict (hp : e.port ≠ p) (hs : e.origin = .static) :
    admitSource p k s = (countPort p .portConflict s, false) := by
  simp only [admitSource, Config.broadcast, if_neg hk, hi, he, if_neg hp, if_pos hs]

theorem admitSource_moved (hp : e.port ≠ p) (hl : e.origin = .learned) : admitSource p k s = admitMoved p i k s := by
  have hs : e.origin ≠ .static := by simp [hl]
  simp only [admitSource, Config.broadcast, if_neg hk, hi, he, if_neg hp, if_neg hs]

end

end

/-- Settles O30: `admitSource` sends the frame one of four ways, an unknown and a moved source are the cases of mode and
room, and a node heard again is `roleHeard` of its one role. -/
theorem admissionBySource : Obligations.AdmissionBySource := by
  intro s p k
  refine ⟨admitSource_clash, fun ho h31 => ?_⟩
  have hk : ¬ (k = s.ownNode ∨ k = 31) := not_or.mpr ⟨ho, h31⟩
  refine ⟨fun hi => ?unknown, fun i e hi he => ⟨fun hp => ?heard,
    fun hp hs => admitSource_conflict hk hi he hp hs, fun hp hl => ?moved⟩⟩
  case unknown =>
    rw [admitSource_unknown hk hi]
    refine ⟨admitUnknown_closed, fun hc =>
      ⟨fun i hfirst hr => admitUnknown_learned hc (freeNode_eq_some hfirst) hr, fun hfull => ?_⟩⟩
    rw [admitUnknown_noRoom hc (hfull.imp_left freeNode_eq_none)]
    exact ⟨fun ha => if_pos ha, fun ha => if_neg (by simp [ha])⟩
  case moved =>
    rw [admitSource_moved hk hi he hp hl]
    refine ⟨fun hc => admitMoved_closed hc i, admitMoved_room, fun ha hr => ?_, fun ha hr => ?_⟩
    · rw [admitMoved_noRoom (by simp [ha]) hr, if_neg (by simp [ha])]
    · rw [admitMoved_noRoom (by simp [ha]) hr, if_pos ha, removeEntry_of_some he]
  case heard =>
    obtain ⟨hi16, hnumber⟩ := nodeIndex_number hi he
    rw [admitSource_heard hk hi he hp]
    refine ⟨rfl, hearNode_entryAt hi16, hearNode_of_heard, ?_⟩
    rintro v u hsilent hv rfl
    have hst (m) : v.st m = s.st m := by rw [hv, setEntry_st]
    have hside (m) : v.side m = s.side m := by rw [hv, setEntry_side]
    have harbiter : v.arbiter = s.arbiter := by rw [hv, setEntry_arbiter]
    have hnotices : v.notices = s.notices := by rw [hv, setEntry_notices]
    refine ⟨fun hfree => hv ▸ hearNode_unbound hsilent (hnumber ▸ boundAs_eq_none hfree), fun n r hone => ?_⟩
    rw [hearNode_bound hsilent (hnumber ▸ boundAs_eq_some hone), ← hv]
    refine ⟨?drive, ?heater, fun hr => roleHeard_sensor hr, ?lid⟩
    case drive =>
      rintro rfl
      rfl
    case heater =>
      rintro rfl
      have hb : (v.st n).binding.heater = some k := by rw [hst]; exact (hone n .heater).mpr ⟨rfl, rfl⟩
      have hentry : v.nodeEntry k = some { e with age := 0, silent := false } := by
        rw [hv]
        exact nodeEntry_eq_some (nodeIndex_setEntry hi hnumber) (entryAt_setEntry_same hi16)
      simpa only [hst, hside, hnotices] using roleHeard_heater rfl hb (silent_eq (r := .heater) hb hentry)
    case lid =>
      rintro rfl
      have hlid := roleHeard_lid (s := v) (n := n) rfl
      rwa [hst, harbiter, hnotices] at hlid

end Sys2Proof.Machine

/-! PROOFS. The requests on the route table (section 8.1): the codes of an entry, the order of its checks, ROUTE_WRITE and
ROUTE_READ (R152), and ROUTE_DEFAULT (R153). -/

namespace Sys2Proof.Machine

open Sys2Proof

/-! ### The codes of an entry (section 8.1) -/

section
variable {b : Byte}

theorem arrivalOf_eq_getElem? (b : Byte) :
    arrivalOf b = [ArrivalMatch.control, .appliance, .either][b.toNat]? := by
  simp only [arrivalOf, BitVec.toNat_eq]
  rcases b.toNat with _ | _ | _ | n <;> simp

theorem actionOf_eq_getElem? (b : Byte) :
    actionOf b = [RouteAction.forward, .drop, .take, .takeAndForward, .guard][b.toNat]? := by
  simp only [actionOf, BitVec.toNat_eq]
  rcases b.toNat with _ | _ | _ | _ | _ | n <;> simp

theorem classOf_eq_getElem? (b : Byte) :
    classOf b = [RouteClass.fixed .urgent, .fixed .control, .fixed .bulk, .byPriority][b.toNat]? := by
  simp only [classOf, BitVec.toNat_eq]
  rcases b.toNat with _ | _ | _ | _ | n <;> simp

theorem arrivalOf_eq_none (h : 2 < b.toNat) : arrivalOf b = none :=
  (arrivalOf_eq_getElem? b).trans (List.getElem?_eq_none h)

theorem exists_arrivalOf (h : b.toNat ≤ 2) : ∃ a, arrivalOf b = some a :=
  ⟨_, (arrivalOf_eq_getElem? b).trans (List.getElem?_eq_getElem (Nat.lt_succ_of_le h))⟩

theorem actionOf_eq_none (h : 4 < b.toNat) : actionOf b = none :=
  (actionOf_eq_getElem? b).trans (List.getElem?_eq_none h)

theorem exists_actionOf (h : b.toNat ≤ 4) : ∃ a, actionOf b = some a :=
  ⟨_, (actionOf_eq_getElem? b).trans (List.getElem?_eq_getElem (Nat.lt_succ_of_le h))⟩

theorem classOf_eq_none (h : 3 < b.toNat) : classOf b = none :=
  (classOf_eq_getElem? b).trans (List.getElem?_eq_none h)

theorem fieldOf_eq_none (h : 31 < b.toNat) : fieldOf b = none := if_pos h

theorem fieldOf_eq_some (h : b.toNat ≤ 31) : fieldOf b = some (b.setWidth 5) := if_neg (Nat.not_lt.mpr h)

/-- The code an arrival match is read from is the one it is put as. -/
theorem byteOf_arrivalCode {a : ArrivalMatch} (h : arrivalOf b = some a) : byteOf (arrivalCode a) = b := by
  unfold arrivalOf at h
  split_ifs at h <;> cases h <;> subst b <;> rfl

theorem byteOf_actionCode {a : RouteAction} (h : actionOf b = some a) : byteOf (actionCode a) = b := by
  unfold actionOf at h
  split_ifs at h <;> cases h <;> subst b <;> rfl

theorem byteOf_classCode {c : RouteClass} (h : classOf b = some c) : byteOf (classCode c) = b := by
  unfold classOf at h
  split_ifs at h <;> cases h <;> subst b <;> rfl

end

/-! ### The checks of an entry in their order (R152) -/

section
variable {pt kv km sv sm dv dm act cls en : Byte}

theorem readRoute_badArrival (hp : arrivalOf pt = none) :
    readRoute pt kv km sv sm dv dm act cls en = .error 1 := by
  simp [readRoute, hp]

variable {a : ArrivalMatch} (hp : arrivalOf pt = some a)
include hp

/-- The values and masks are fields 2 to 7; the first above 31 is named. -/
theorem readRoute_badField {j : Nat} {b : Byte} (hb : [kv, km, sv, sm, dv, dm][j]? = some b) (h31 : 31 < b.toNat)
    (hbefore : ∀ i c, i < j → [kv, km, sv, sm, dv, dm][i]? = some c → c.toNat ≤ 31) :
    readRoute pt kv km sv sm dv dm act cls en = .error (j + 2) := by
  have hfield (i : Nat) (c : Byte) (hi : i < j) (hc : [kv, km, sv, sm, dv, dm][i]? = some c) :
      fieldOf c = some (c.setWidth 5) := fieldOf_eq_some (hbefore i c hi hc)
  have hbad := fieldOf_eq_none h31
  have hj : j < 6 := (List.getElem?_eq_some_iff.mp hb).1
  interval_cases j <;> obtain rfl := Option.some.inj hb <;>
    simp [readRoute, hp, hbad, hfield 0, hfield 1, hfield 2, hfield 3, hfield 4]

variable (hf : ∀ b ∈ [kv, km, sv, sm, dv, dm], b.toNat ≤ 31)
include hf

theorem readRoute_badAction (ha : actionOf act = none) :
    readRoute pt kv km sv sm dv dm act cls en = .error 8 := by
  simp [readRoute, hp, fieldOf_eq_some, hf, ha]

variable {x : RouteAction} (ha : actionOf act = some x)
include ha

theorem readRoute_badClass (hc : classOf cls = none) :
    readRoute pt kv km sv sm dv dm act cls en = .error 9 := by
  simp [readRoute, hp, fieldOf_eq_some, hf, ha, hc]

theorem readRoute_ok {c : RouteClass} (hc : classOf cls = some c) :
    readRoute pt kv km sv sm dv dm act cls en = .ok ⟨en.getLsbD 0, a, kv.setWidth 5, km.setWidth 5, sv.setWidth 5,
      sm.setWidth 5, dv.setWidth 5, dm.setWidth 5, x, c⟩ := by
  simp [readRoute, hp, fieldOf_eq_some, hf, ha, hc]

end

/-! ### ROUTE_WRITE and ROUTE_READ (R152) -/

section
variable {s : State} {i pt kv km sv sm dv dm act cls en : Byte}

theorem routeWriteRule_outside (hi : 23 < i.toNat) :
    routeWriteRule [i, pt, kv, km, sv, sm, dv, dm, act, cls, en] s = (s, refuse .badValue 0) := if_pos hi

theorem routeWriteRule_refused {k : Nat} (hi : i.toNat ≤ 23)
    (hr : readRoute pt kv km sv sm dv dm act cls en = .error k) :
    routeWriteRule [i, pt, kv, km, sv, sm, dv, dm, act, cls, en] s = (s, refuse .badValue k) := by
  simp [routeWriteRule, Nat.not_lt.mpr hi, hr]

theorem routeWriteRule_accepted {e : RouteEntry} (hi : i.toNat ≤ 23)
    (hr : readRoute pt kv km sv sm dv dm act cls en = .ok e) :
    routeWriteRule [i, pt, kv, km, sv, sm, dv, dm, act, cls, en] s =
      ({ s with routes := s.routes.setIfInBounds i.toNat e }, done []) := by
  simp [routeWriteRule, Nat.not_lt.mpr hi, hr]

theorem routeReadRule_outside (hi : 23 < i.toNat) : routeReadRule [i] s = (s, refuse .badValue 0) := by
  have hnone : s.routes[i.toNat]? = none := Vector.getElem?_eq_none hi
  simp [routeReadRule, hnone]

theorem routeReadRule_inside {e : RouteEntry} (he : s.routes[i.toNat]? = some e) :
    routeReadRule [i] s = (s, done (putRoute e)) := by
  simp [routeReadRule, he]

/-! ### ROUTE_DEFAULT (R153) -/

theorem routeDefaultWriteRule_refused (hi : 1 < i.toNat) :
    routeDefaultWriteRule [i] s = (s, refuse .badValue 1) := by
  have h0 : i ≠ 0 := by rintro rfl; exact absurd hi (by decide)
  have h1 : i ≠ 1 := by rintro rfl; exact absurd hi (by decide)
  exact (if_neg h0).trans (if_neg h1)

end

/-- The write form has one argument, so its code does not stand for the read form. -/
theorem exec_routeDefaultWrite (q : NodeId) (tag i : Byte) (s : State) :
    exec (.routeDefaultWrite q tag [i]) s =
      .next (serve (commandRequest (.routeDefaultWrite q tag [i])) (routeDefaultWriteRule [i]) s) := rfl

/-- The read form has no argument, so its code does not stand for the write form. -/
theorem exec_routeDefaultRead (q : NodeId) (tag : Byte) (s : State) :
    exec (.routeDefaultRead q tag []) s =
      .next (serve (commandRequest (.routeDefaultRead q tag [])) (routeDefaultReadRule []) s) := rfl

/-- Settles O36: the codes are the three tables; a ROUTE_WRITE inside the table is refused with the first check of
`readRoute` that fails and else stores the entry read, and ROUTE_READ puts the codes an entry would be read from. -/
theorem routeRequests : Obligations.RouteRequests := by
  refine ⟨fun b => ⟨arrivalOf_eq_getElem? b, actionOf_eq_getElem? b, classOf_eq_getElem? b⟩,
    fun s q tag i pt kv km sv sm dv dm act cls en c => ⟨?write, ?read, ?defaultWrite, ?defaultRead⟩⟩
  case write =>
    rintro rfl h
    refine ⟨fun hi => answers_of_rule _ h rfl (routeWriteRule_outside hi), fun hi => ⟨fun k hk => ?refused, ?accepted⟩⟩
    case refused =>
      refine answers_of_rule _ h rfl (routeWriteRule_refused hi ?_)
      obtain ⟨rfl, hp⟩ | ⟨h2, -, hp, ⟨b, hb, h31⟩, hbefore⟩ | ⟨rfl, hp, hf, ha⟩ | ⟨rfl, hp, hf, ha, hc⟩ := hk
      · exact readRoute_badArrival (arrivalOf_eq_none hp)
      all_goals obtain ⟨a, hp⟩ := exists_arrivalOf hp
      · obtain ⟨j, rfl⟩ := Nat.exists_eq_add_of_le' h2
        exact readRoute_badField hp hb h31 fun i c hij => hbefore i c (Nat.add_lt_add_right hij 2)
      · exact readRoute_badAction hp hf (actionOf_eq_none ha)
      · obtain ⟨x, ha⟩ := exists_actionOf ha
        exact readRoute_badClass hp hf ha (classOf_eq_none hc)
    case accepted =>
      rintro ⟨⟩ hp ha hc hf rfl rfl rfl rfl rfl rfl rfl
      exact answers_of_rule _ h rfl (routeWriteRule_accepted hi (readRoute_ok hp hf ha hc))
  case read =>
    rintro rfl h
    refine ⟨fun hi => answers_of_rule _ h rfl (routeReadRule_outside hi), fun e b1 b8 b9 he h1 h8 h9 => ?_⟩
    rw [← byteOf_arrivalCode h1, ← byteOf_actionCode h8, ← byteOf_classCode h9]
    exact answers_of_rule _ h rfl (routeReadRule_inside he)
  case defaultWrite =>
    rintro rfl h
    have answer {a t} : routeDefaultWriteRule [i] s = (t, a) → Answers (.routeDefaultWrite q tag [i]) s a t :=
      answers_of_rule _ h (exec_routeDefaultWrite ..)
    refine ⟨fun hi => answer ?_, fun hi => answer ?_, fun hi => answer (routeDefaultWriteRule_refused hi)⟩
    · subst hi; rfl
    · subst hi; rfl
  case defaultRead =>
    rintro rfl h
    exact answers_of_rule _ h (exec_routeDefaultRead ..) rfl

end Sys2Proof.Machine

/-! PROOFS. What a step can do, said once for every invariant: a reset (section 10.6), a chain of self-contained pieces of one
event, or the effect of one request with its reply (R183). -/

namespace Sys2Proof.Machine

open Sys2Proof

/-! ### The pieces of a step -/

/-- What the rule of a request leaves before its reply (R183), with the checks it has passed. A refusal and a read leave the
state. -/
inductive Effect (s : State) : State → Prop
  | unchanged : Effect s s
  | lock (n : StationId) (q : NodeId) (hq : s.nodeIndex q ≠ none) :
      Effect s (s.modSt n (fun st => { st with lockHolder := some q }))
  | unlock (n : StationId) : Effect s (s.modSt n (fun st => { st with lockHolder := none }))
  | storeStep (n : StationId) (i : Nat) (r : StepRecord) (hi : (s.st n).run.state = .idle) : Effect s (storeStep n i r s)
  | recipeLength (n : StationId) (len : Nat) (hi : (s.st n).run.state = .idle) :
      Effect s (s.modSt n (fun st => { st with recipeLength := len }))
  | recipeClear (n : StationId) (hi : (s.st n).run.state = .idle) :
      Effect s (s.modSt n (fun st => { st with steps := Vector.replicate 48 none, recipeLength := 0 }))
  | start (n : StationId) (q : NodeId) (first : Nat) (h : s.startRefusal q n first = none) :
      Effect s (startStation n first s)
  | pause (n : StationId) (h : (s.st n).run.state = .running) : Effect s (pauseStation n .request s)
  | resume (n : StationId) (h : (s.st n).run.state = .paused) : Effect s (resumeStation n s)
  | stopStep (n : StationId) (h : (s.st n).run.state = .running ∨ (s.st n).run.state = .paused) :
      Effect s (enterIdle n true false (endStep n .stopped s))
  | stopWarming (n : StationId) (h : (s.st n).run.state = .warming) : Effect s (enterIdle n true false s)
  | stopIdle (n : StationId) (h : (s.st n).run.state = .idle) :
      Effect s (askUnlock n (dropManualHeat n (dropManualSpeed n s)))
  | finish (n : StationId) (o : StepOutcome) (h : (s.st n).run.state = .running) : Effect s (finishStep n o false s)
  | adjust (n : StationId) (a : Adjustment) (h : (s.st n).run.state = .running ∨ (s.st n).run.state = .paused) :
      Effect s (adjustStation n a s)
  | clearFault (n : StationId) (h : (s.st n).run.state = .fault) : Effect s (enterIdle n false false s)
  | bind (n : StationId) (d h w t l : RoleArg) (hi : (s.st n).run.state = .idle)
      (hr : s.firstFailing n 0 [] [d, h, w, t, l] = none)
      (hw : w.toNode ≠ (s.st n).binding.weigh → (s.st n).weigh.op = .none) :
      Effect s (bindStation n ⟨d.toNode, h.toNode, w.toNode, t.toNode, l.toNode⟩ s)
  | limit (n : StationId) (id v : Nat) (hi : (s.st n).run.state = .idle) (h : limitInRange id v = true) :
      Effect s (applyLimit n id v s)
  | weighItem (n : StationId) (id : Nat) (v : Int) (hi : (s.st n).run.state = .idle)
      (ho : (s.st n).weigh.op = .none) (h : weighInRange id v = true) : Effect s (applyWeighItem n id v s)
  | heatItem (n : StationId) (id v : Nat) (hi : (s.st n).run.state = .idle) (h : heatInRange id v = true) :
      Effect s (s.modSt n (fun st => { st with heatCfg := setHeatItem st.heatCfg id v }))
  | budget (w : Nat) (h : 500 ≤ w ∧ w ≤ 3600) : Effect s (setBudget w s)
  | tare (n : StationId) (h : (s.st n).weigh.op = .none) : Effect s (s.modWeigh n (startOp .taring Config.tareMs none))
  | retare (n : StationId) (h : (s.st n).weigh.op = .taring) :
      Effect s ((endOp n .superseded s).modWeigh n (startOp .taring Config.tareMs none))
  | capture (n : StationId) (op : WeighOp) (mass : Option Int)
      (h : op = .zeroing ∨ op = .calibrating ∧ ∃ m, mass = some m ∧ 100 ≤ m) : Effect s (startCapture n op mass s)
  | snapshot (page : Nat) : Effect s (takeSnapshot page s)
  | enableNotices (en : BitVec 16) : Effect s (enableNotices en s)
  | clearNotices (named : BitVec 16) : Effect s { s with notices := clearNotices named s.notices }
  | zeroPort (p : Port) (first count : Nat) :
      Effect s (s.modPort p (fun q => { q with counters := zeroed q.counters first count }))
  | zeroStation (n : StationId) (first count : Nat) :
      Effect s (s.modSt n (fun st => { st with counters := zeroed st.counters first count }))
  | reportInterval (n : StationId) (v : Nat) (h : intervalOk v = true) :
      Effect s (s.modSt n (fun st => { st with reportInterval := v, reportTimer := reportTimerOf v }))
  | portItem (p : Port) (id v : Nat) (h : portItemInRange id v = true) (hc : s.portItemClashes p id v = false) :
      Effect s (applyPortItem p id v s)
  | restartPort (p : Port) : Effect s (restartPort p s)
  | nodeWrite (k : NodeId) (p : Port) (limit : Nat) (h31 : k ≠ 31) (ho : k ≠ s.ownNode)
      (h : silenceLimitOk limit = true) : Effect s (nodeWrite k p limit s).1
  | removeNode (k : NodeId) (i : Nat) (hi : s.nodeIndex k = some i) (hb : s.boundAs k = none) : Effect s (removeEntry i s)
  | flushNodes : Effect s (removeWhere NodeEntry.isLearned s)
  | route (i : Nat) (e : RouteEntry) : Effect s { s with routes := s.routes.setIfInBounds i e }
  | routeDefault (b : Bool) : Effect s { s with defaultForward := b }

/-- A self-contained piece of an event, with what the state it starts from must satisfy. -/
inductive Move (s : State) : State → Prop
  | pending (l : List Instr) : Move s { s with pending := l }
  | requests (l : List Request) : Move s { s with requests := l }
  | passMs : Move s (passMs s)
  | countPort (p : Port) (c : PortCounter) : Move s (countPort p c s)
  | countStation (n : StationId) (c : StationCounter) : Move s (countStation n c s)
  | setNotice (b : NoticeBit) : Move s (setNotice b s)
  | updateDropMode (p : Port) : Move s (updateDropMode p s)
  | goodFrame (p : Port) (h : (s.port p).hears = true) : Move s (goodFrameAt p s)
  | receiveError (p : Port) (error : RxError) (h : (s.port p).hears = true) : Move s (receiveErrorAt p error s)
  | startMark (p : Port) (h : (s.port p).hears = true) :
      Move s (s.modPort p (fun q => { q with activity := .receiving, errorMark := none, voided := false }))
  | transmissionStart (p : Port) (gap : Nat) (h : (s.port p).mayStart gap = true) :
      Move s (s.modPort p (fun q => offerFrame (reloadCredits q)))
  | lostArbitration (p : Port) (e : Queued) (h : (s.port p).activity = .contending e) :
      Move s (Machine.countPort p .lostArbitrations (returnUnsent p e
        (s.modPort p (fun q => { q with activity := .receiving, wasTransmitter := false }))))
  | wonArbitration (p : Port) (e : Queued) (h : (s.port p).activity = .contending e) :
      Move s (s.modPort p (fun q => spendCredit e.cls { q with activity := .transmitting e }))
  | emptyAccumulator : Move s { s with notices := { s.notices with accumulator := 0 } }
  | completed (p : Port) (e : Queued) (h : (s.port p).activity = .transmitting e) :
      Move s (updateDropModes (followCounts p (Machine.countPort p .transmitted (s.modPort p (fun q =>
        { q with activity := .idle, wasTransmitter := true, tx := q.tx - 1 })))))
  | transmitError (p : Port) (error : TxError) (e : Queued)
      (h : (s.port p).activity = .transmitting e ∨ (s.port p).activity = .contending e) :
      Move s (transmitErrorAt p error s)
  | joined (p : Port) (h : (s.port p).health = .joining) : Move s (setHealth p .active s)
  | recover (p : Port) (h : (s.port p).health = .isolated) : Move s (recoverPort p s)
  | stepTimer (n : StationId) (o : StepOutcome) (h : (s.st n).inPhase .active = true) :
      Move s (finishStep n o false
        (s.modRun n (fun r => { r with elapsed := r.effLimit.getD r.elapsed, tenthMs := 0 })))
  | reversal (n : StationId) (at' : Nat) (d : Direction) (h : (s.st n).inPhase .active = true) :
      Move s (recomputeDrive n (s.modRun n (fun r => { r with
        elapsed := at', reversal := some (flipDirection d), tenthMs := if at' = r.elapsed then r.tenthMs else 0 })))
  | lockingDeadline (n : StationId) (h : (s.st n).inPhase .locking = true) : Move s (enterFault n .lidLock 0 false s)
  | basingDeadline (n : StationId) (h : (s.st n).inPhase .basing = true) :
      Move s (leaveBasing n (s.modRun n (fun r => { r with
        doseBase := some (s.st n).weigh.net, deadline := none
        flags := { r.flags with baseUnsettled := true } })))
  | warmingLimit (n : StationId) (h : (s.st n).run.state = .warming) : Move s (enterIdle n true false s)
  | endOp (n : StationId) (o : OpOutcome) : Move s (endOp n o s)
  | dropManualSpeed (n : StationId) : Move s (dropManualSpeed n s)
  | dropManualHeat (n : StationId) : Move s (dropManualHeat n s)
  | spinDown (n : StationId) :
      Move s (testUnlock n (s.modDrive n (fun d => { d with spinDown := none, spinDownElapsed := true })))
  | refresh (n : StationId) :
      Move s (testUnlock n (refreshLid n (sendHeatSet n (sendSpeedSet n
        (s.modDrive n (fun d => { d with refreshTimer := (s.st n).limits.refresh }))))))
  | reportTimer (n : StationId) :
      Move s (s.modSt n (fun st => { st with reportTimer := reportTimerOf st.reportInterval }))
  | weightReport (n : StationId) : Move s (sendWeightReport n s)
  | removeLearned (i : Nat) (e : NodeEntry) (he : s.entryAt i = some e) (hl : e.origin = .learned) :
      Move s (removeEntry i s)
  | becomeSilent (i : Nat) (e : NodeEntry) (he : s.entryAt i = some e) (hd : e.silenceDue = true) :
      Move s (becomeSilent i e s)
  | hearNode (i : Nat) (e : NodeEntry) (he : s.entryAt i = some e) : Move s (hearNode i e s)
  | learn (p : Port) (i : Nat) (k : NodeId) (hi : s.freeNode = some i) (hr : s.limitRoom p = true)
      (hk : s.nodeIndex k = none) (ho : k ≠ s.ownNode) (h31 : k ≠ 31) :
      Move s (s.setEntry i (some (learnedEntry k p)))
  | moveLearned (p : Port) (i : Nat) (k : NodeId) (e : NodeEntry) (hi : s.nodeIndex k = some i)
      (he : s.entryAt i = some e) (hl : e.origin = .learned) (hp : e.port ≠ p) (hr : s.limitRoom p = true) :
      Move s (s.setEntry i (some (learnedEntry k p)))
  | enqueue (p : Port) (c : QClass) (f : Frame) (h : s.held .control + s.held .appliance < 48) :
      Move s (enqueueTransit p c f s)
  | weighSample (n : StationId) (x : WeighSample)
      (hx : ∀ c ∈ [x.c0, x.c1, x.c2, x.c3], -8388608 ≤ c ∧ c ≤ 8388607) : Move s (takeWeighSample n x s)
  | thermoSample (n : StationId) (t : Int) (fault : Bool) : Move s (takeThermoSample n t fault s)
  | driveState (n : StationId) (r : DriveReport) : Move s (takeDriveState n r s)
  | heatState (n : StationId) (r : HeatReport) : Move s (takeHeatState n r s)
  | lidState (n : StationId) (r : LidReport) : Move s (takeLidState n r s)
  | manualSpeed (n : StationId) (v : Nat) (dir : Direction) (h : (s.st n).run.state = .idle) :
      Move s (manualSpeed n v dir s)
  | manualHeat (n : StationId) (w : Nat) (h : (s.st n).run.state = .idle) : Move s (manualHeat n w s)
  | manualLid (n : StationId) (c : LidCmd) (h : (s.st n).run.state = .idle) : Move s (manualLid n c s)

/-- A chain of such pieces. -/
abbrev Moves : State → State → Prop := Relation.ReflTransGen Move

theorem Moves.of {s t : State} (h : Move s t) : Moves s t := .single h

/-- What a reset or a RESTART leaves (R193, R194). -/
inductive Reset (s : State) : State → Prop
  | powerOn (own : NodeId) (l : List Instr) : Reset s { State.powerOn own with pending := l }
  | asserted : Reset s { State.blank 27 with inReset := true, pending := s.pending }
  | kept : Reset s (setNotice .restarted (keptState s))

/-- A command that resets the part, or may. -/
def resetsPart : Instr → Bool
  | .powerOnReset _ => true
  | .resetAsserted => true
  | .restart _ _ _ => true
  | _ => false

/-- A request taken up in its turn: the effect of its rule, the reply, and its place in the queue given up (R183). -/
inductive Served (s : State) : State → Prop
  | intro (r : Request) (a : Answer) (l : List Request) (u : State) (hf : s.replyFree = true)
      (h : Effect { s with requests := l } u) : Served s (leaveQueue (sendReply r a u))

/-! ### The rules of the requests -/

section
variable {s : State}

theorem ite_effect {c : Prop} [Decidable c] {x y : State × Answer} (hx : Effect s x.1) (hy : Effect s y.1) :
    Effect s (if c then x else y).1 := by
  split
  · exact hx
  · exact hy

theorem withStation_effect {b : Byte} {rule : StationId → State → State × Answer}
    (h : ∀ n, Effect s (rule n s).1) : Effect s (withStation b rule s).1 := by
  unfold withStation; split
  · exact .unchanged
  · exact h _

theorem withPort_effect {b : Byte} {rule : Port → State → State × Answer} (h : ∀ p, Effect s (rule p s).1) :
    Effect s (withPort b rule s).1 := by
  unfold withPort; split
  · exact .unchanged
  · exact h _

theorem whenIdle_effect {n : StationId} {rule : State → State × Answer}
    (h : (s.st n).run.state = .idle → Effect s (rule s).1) : Effect s (whenIdle n rule s).1 := by
  unfold whenIdle; split
  · next hi => exact h hi
  · exact .unchanged

theorem withEditing_effect {q : NodeId} {b : Byte} {rule : StationId → State → State × Answer}
    (h : ∀ n, (s.st n).run.state = .idle → Effect s (rule n s).1) : Effect s (withEditing q b rule s).1 := by
  refine withStation_effect fun n => whenIdle_effect fun hi => ?_
  split
  · exact h n hi
  · exact .unchanged

theorem oneStation_effect {args : List Byte} {rule : StationId → State → State × Answer}
    (h : ∀ n, Effect s (rule n s).1) : Effect s (oneStation args rule s).1 := by
  unfold oneStation; split
  · exact withStation_effect h
  · exact .unchanged

theorem lockRule_effect (q : NodeId) (args : List Byte) : Effect s (lockRule q args s).1 := by
  unfold lockRule; split
  · refine withStation_effect fun n => ?_
    unfold lockStation; split
    · exact .unchanged
    · next hi =>
      split
      · exact .lock n q (by simp [hi])
      · split <;> exact .unchanged
  · exact .unchanged

theorem unlockRule_effect (q : NodeId) (args : List Byte) : Effect s (unlockRule q args s).1 := by
  unfold unlockRule; split
  · refine withStation_effect fun n => ?_
    unfold unlockStation; split
    · exact .unlock n
    · exact .unchanged
  · exact .unchanged

theorem stepWriteRule_effect (q : NodeId) (args : List Byte) : Effect s (stepWriteRule q args s).1 := by
  unfold stepWriteRule; split
  · refine ite_effect .unchanged ?_
    refine withEditing_effect fun n hi => ?_
    refine ite_effect .unchanged ?_
    split
    · exact .unchanged
    · exact .storeStep n _ _ hi
  · exact .unchanged

theorem stepReadRule_effect (args : List Byte) : Effect s (stepReadRule args s).1 := by
  unfold stepReadRule; split
  · exact withStation_effect fun n => by split <;> exact .unchanged
  · exact .unchanged

theorem recipeLengthRule_effect (q : NodeId) (args : List Byte) : Effect s (recipeLengthRule q args s).1 := by
  unfold recipeLengthRule; split
  · refine withEditing_effect fun n hi => ?_
    split
    · exact .unchanged
    · exact .recipeLength n _ hi
  · exact .unchanged

theorem recipeClearRule_effect (q : NodeId) (args : List Byte) : Effect s (recipeClearRule q args s).1 := by
  unfold recipeClearRule; split
  · exact withEditing_effect fun n hi => .recipeClear n hi
  · exact .unchanged

theorem startRule_effect (q : NodeId) (args : List Byte) : Effect s (startRule q args s).1 := by
  unfold startRule; split
  · refine withStation_effect fun n => ?_
    split
    · exact .unchanged
    · next h => exact .start n q _ h
  · exact .unchanged

theorem pauseRule_effect (n : StationId) : Effect s (pauseRule n s).1 := by
  unfold pauseRule; split
  · next h => exact .pause n h
  · exact .unchanged

theorem resumeRule_effect (n : StationId) : Effect s (resumeRule n s).1 := by
  unfold resumeRule; split
  · next h => exact .resume n h
  · exact .unchanged

theorem stopRule_effect (n : StationId) : Effect s (stopRule n s).1 := by
  unfold stopRule; split
  · next h => exact .stopStep n (.inl h)
  · next h => exact .stopStep n (.inr h)
  · next h => exact .stopWarming n h
  · next h => exact .stopIdle n h
  · exact .unchanged

theorem skipRule_effect (n : StationId) : Effect s (skipRule n s).1 := by
  unfold skipRule; split
  · next h => exact .finish n _ h
  · exact .unchanged

theorem confirmRefusal_running {n : StationId} {e : Nat} (h : s.confirmRefusal n e = none) :
    (s.st n).run.state = .running := by
  by_contra hr
  simp [State.confirmRefusal, hr] at h

theorem confirmRule_effect (args : List Byte) : Effect s (confirmRule args s).1 := by
  unfold confirmRule; split
  · refine withStation_effect fun n => ?_
    split
    · exact .unchanged
    · next h => exact .finish n _ (confirmRefusal_running h)
  · exact .unchanged

theorem adjustRule_effect (n : StationId) (a : Adjustment) : Effect s (adjustRule n a s).1 := by
  unfold adjustRule; (repeat' split)
  case isFalse.isFalse.isFalse h _ _ => exact .adjust n a (by tauto)
  all_goals exact .unchanged

theorem clearFaultRule_effect (n : StationId) : Effect s (clearFaultRule n s).1 := by
  unfold clearFaultRule; split
  · next h =>
    split
    · exact ite_effect .unchanged (.clearFault n h)
    · exact .clearFault n h
  · exact .unchanged

theorem stationBindRule_effect (args : List Byte) : Effect s (stationBindRule args s).1 := by
  unfold stationBindRule; split
  · refine withStation_effect fun n => whenIdle_effect fun hi => ?_
    (repeat' split)
    case h_2.isFalse hr hw => exact .bind n _ _ _ _ _ hi hr (by tauto)
    all_goals exact .unchanged
  · exact .unchanged

theorem stationLimitsWriteRule_effect (args : List Byte) : Effect s (stationLimitsWriteRule args s).1 := by
  unfold stationLimitsWriteRule; split
  · refine withStation_effect fun n => whenIdle_effect fun hi => ?_
    (repeat' split)
    case isFalse.isTrue h => exact .limit n _ _ hi h
    all_goals exact .unchanged
  · exact .unchanged

theorem stationLimitsReadRule_effect (args : List Byte) : Effect s (stationLimitsReadRule args s).1 := by
  unfold stationLimitsReadRule; split
  · exact withStation_effect fun n => by split <;> exact .unchanged
  · exact .unchanged

theorem weighConfigWriteRule_effect (args : List Byte) : Effect s (weighConfigWriteRule args s).1 := by
  unfold weighConfigWriteRule; split
  · refine withStation_effect fun n => whenIdle_effect fun hi => ?_
    (repeat' split)
    case isFalse.isFalse.isTrue ho _ h => exact .weighItem n _ _ hi (not_not.mp ho) h
    all_goals exact .unchanged
  · exact .unchanged

theorem weighConfigReadRule_effect (args : List Byte) : Effect s (weighConfigReadRule args s).1 := by
  unfold weighConfigReadRule; split
  · exact withStation_effect fun n => by split <;> exact .unchanged
  · exact .unchanged

theorem heatConfigWriteRule_effect (args : List Byte) : Effect s (heatConfigWriteRule args s).1 := by
  unfold heatConfigWriteRule; split
  · refine withStation_effect fun n => whenIdle_effect fun hi => ?_
    (repeat' split)
    case isFalse.isTrue h => exact .heatItem n _ _ hi h
    all_goals exact .unchanged
  · exact .unchanged

theorem heatConfigReadRule_effect (args : List Byte) : Effect s (heatConfigReadRule args s).1 := by
  unfold heatConfigReadRule; split
  · exact withStation_effect fun n => by split <;> exact .unchanged
  · exact .unchanged

theorem budgetSetWriteRule_effect (args : List Byte) : Effect s (budgetSetWriteRule args s).1 := by
  unfold budgetSetWriteRule; (repeat' split)
  case h_1.isFalse h => exact .budget _ (by omega)
  all_goals exact .unchanged

theorem tareRule_effect (n : StationId) : Effect s (tareRule n s).1 := by
  unfold tareRule; split
  · exact .unchanged
  · split
    · exact .unchanged
    · exact .unchanged
    · next h => exact .retare n h
    · next h => exact .tare n h

theorem zeroRule_effect (n : StationId) : Effect s (zeroRule n s).1 := by
  unfold zeroRule; split
  · exact .unchanged
  · exact .capture n _ _ (.inl rfl)

theorem calibrateRule_effect (n : StationId) (m : Nat) : Effect s (calibrateRule n m s).1 := by
  unfold calibrateRule; (repeat' split)
  case h_2.isFalse h => exact .capture n _ _ (.inr ⟨rfl, _, rfl, by omega⟩)
  all_goals exact .unchanged

theorem statusReadRule_effect (args : List Byte) : Effect s (statusReadRule args s).1 := by
  unfold statusReadRule; (repeat' split)
  case h_1.isFalse.isFalse.isTrue => exact .snapshot _
  all_goals exact .unchanged

theorem noticeEnableRule_effect (args : List Byte) : Effect s (noticeEnableRule args s).1 := by
  unfold noticeEnableRule; split
  · exact .enableNotices _
  · exact .unchanged

theorem noticeClearRule_effect (args : List Byte) : Effect s (noticeClearRule args s).1 := by
  unfold noticeClearRule; split
  · exact .clearNotices _
  · exact .unchanged

theorem readPortCounters_effect (p : Port) (first count : Nat) (clear : Bool) :
    Effect s (readPortCounters p first count clear s).1 := by
  simp only [readPortCounters]; (repeat' split)
  case isFalse.isFalse.isTrue => exact .zeroPort p first count
  all_goals exact .unchanged

theorem readStationCounters_effect (n : StationId) (first count : Nat) (clear : Bool) :
    Effect s (readStationCounters n first count clear s).1 := by
  simp only [readStationCounters]; (repeat' split)
  case isFalse.isFalse.isTrue => exact .zeroStation n first count
  all_goals exact .unchanged

theorem countersReadRule_effect (args : List Byte) : Effect s (countersReadRule args s).1 := by
  unfold countersReadRule; (repeat' split)
  · exact readPortCounters_effect ..
  · exact readPortCounters_effect ..
  · exact readStationCounters_effect ..
  · exact readStationCounters_effect ..
  all_goals exact .unchanged

theorem reportConfigWriteRule_effect (args : List Byte) : Effect s (reportConfigWriteRule args s).1 := by
  unfold reportConfigWriteRule; split
  · refine withStation_effect fun n => ?_
    split
    · next h => exact .reportInterval n _ h
    · exact .unchanged
  · exact .unchanged

theorem portConfigWriteRule_effect (args : List Byte) : Effect s (portConfigWriteRule args s).1 := by
  unfold portConfigWriteRule; split
  · refine withPort_effect fun p => ?_
    (repeat' split)
    case isFalse.isFalse.isFalse h hc => exact .portItem p _ _ (by simpa using h) (by simpa using hc)
    all_goals exact .unchanged
  · exact .unchanged

theorem portConfigReadRule_effect (args : List Byte) : Effect s (portConfigReadRule args s).1 := by
  unfold portConfigReadRule; split
  · exact withPort_effect fun p => by split <;> exact .unchanged
  · exact .unchanged

theorem portRestartRule_effect (args : List Byte) : Effect s (portRestartRule args s).1 := by
  unfold portRestartRule; split
  · exact withPort_effect fun p => .restartPort p
  · exact .unchanged

/-- A node number that a request may write is neither 31 nor the part's own (R131, R142). -/
theorem nodeOf_spec {own k : NodeId} {b : Byte} (h : nodeOf own b = some k) : k ≠ 31 ∧ k ≠ own := by
  unfold nodeOf at h
  split at h
  · cases h
  · next hb =>
    cases h
    rw [not_or] at hb
    refine ⟨fun h31 => hb.1 ?_, hb.2⟩
    have hlt := b.isLt
    have := congrArg BitVec.toNat h31
    simp only [BitVec.toNat_setWidth, show BitVec.toNat (31 : NodeId) = 31 from rfl] at this
    omega

theorem nodeWriteRule_effect (args : List Byte) : Effect s (nodeWriteRule args s).1 := by
  unfold nodeWriteRule; split
  · split
    · exact .unchanged
    · next hk =>
      split
      · exact .unchanged
      · split
        · next h => exact .nodeWrite _ _ _ (nodeOf_spec hk).1 (nodeOf_spec hk).2 h
        · exact .unchanged
  · exact .unchanged

theorem nodeDeleteRule_effect (args : List Byte) : Effect s (nodeDeleteRule args s).1 := by
  unfold nodeDeleteRule; split
  · split
    · exact .unchanged
    · split
      · exact .unchanged
      · next hi =>
        split
        · exact .unchanged
        · next hb => exact .removeNode _ _ hi hb
  · exact .unchanged

theorem nodeReadRule_effect (args : List Byte) : Effect s (nodeReadRule args s).1 := by
  unfold nodeReadRule; split
  · refine ite_effect .unchanged ?_
    split <;> exact .unchanged
  · exact .unchanged

theorem nodeFlushRule_effect (args : List Byte) : Effect s (nodeFlushRule args s).1 := by
  unfold nodeFlushRule; split
  · dsimp only; exact .flushNodes
  · exact .unchanged

theorem routeWriteRule_effect (args : List Byte) : Effect s (routeWriteRule args s).1 := by
  unfold routeWriteRule; split
  · refine ite_effect .unchanged ?_
    split
    · exact .unchanged
    · exact .route _ _
  · exact .unchanged

theorem routeReadRule_effect (args : List Byte) : Effect s (routeReadRule args s).1 := by
  unfold routeReadRule; split
  · split <;> exact .unchanged
  · exact .unchanged

theorem portStatusRule_effect (args : List Byte) : Effect s (portStatusRule args s).1 := by
  unfold portStatusRule; split
  · exact withPort_effect fun p => .unchanged
  · exact .unchanged

theorem reportConfigReadRule_effect (args : List Byte) : Effect s (reportConfigReadRule args s).1 := by
  unfold reportConfigReadRule; split
  · exact withStation_effect fun n => .unchanged
  · exact .unchanged

theorem routeDefaultWriteRule_effect (args : List Byte) : Effect s (routeDefaultWriteRule args s).1 := by
  unfold routeDefaultWriteRule; (repeat' split)
  · exact .routeDefault _
  · exact .routeDefault _
  all_goals exact .unchanged

end

end Sys2Proof.Machine

/-! PROOFS. The events as chains of pieces (chapters 7 to 9), and the ways a step can go (R183). -/

namespace Sys2Proof.Machine

open Sys2Proof Relation

/-! ### The arrival of a frame (R154) -/

/-- One more piece at the end of a chain. -/
theorem Moves.then {s t u : State} (h : Moves s t) (m : Move t u) : Moves s u := h.tail m

/-- The transit buffers in use, which the room for a frame depends on (R155). -/
def State.heldSum (s : State) : Nat := s.held .control + s.held .appliance

theorem heldSum_of_held {s t : State} (h : ∀ r, t.held r = s.held r) : t.heldSum = s.heldSum := by
  simp [State.heldSum, h]

@[simp] theorem setEntry_held (s : State) (i : Nat) (o : Option NodeEntry) (r : Port) : (s.setEntry i o).held r = s.held r :=
  rfl

@[simp] theorem hearNode_held (i : Nat) (e : NodeEntry) (s : State) (r : Port) : (hearNode i e s).held r = s.held r := by
  simp only [hearNode]; (repeat' split) <;> simp

@[simp] theorem removeEntry_held (i : Nat) (s : State) (r : Port) : (removeEntry i s).held r = s.held r := by
  unfold removeEntry; split
  · simp [releaseLocks]
  · rfl

@[simp] theorem admitUnknown_held (p : Port) (k : NodeId) (s : State) (r : Port) :
    (admitUnknown p k s).1.held r = s.held r := by
  unfold admitUnknown; (repeat' split) <;> simp

@[simp] theorem admitMoved_held (p : Port) (i : Nat) (k : NodeId) (s : State) (r : Port) :
    (admitMoved p i k s).1.held r = s.held r := by
  unfold admitMoved; (repeat' split) <;> simp

/-- Admission holds and frees no transit buffer. -/
@[simp] theorem admitSource_held (p : Port) (k : NodeId) (s : State) (r : Port) :
    (admitSource p k s).1.held r = s.held r := by
  unfold admitSource; (repeat' split) <;> simp

theorem joinRequests_held (q : Request) (s : State) (r : Port) : (joinRequests q s).held r = s.held r := by
  unfold joinRequests; split
  · rfl
  · simp

theorem deliver_held {p : Port} {src : NodeId} {role : Role} {give : StationId → State → State} {s : State}
    (h : ∀ n r, (give n s).held r = s.held r) (r : Port) : (deliver p src role give s).held r = s.held r := by
  unfold deliver; (repeat' split) <;> simp [h]

/-- The take part holds and frees no transit buffer. -/
@[simp] theorem takePart_held (p : Port) (f : Frame) (counts : Bool) (s : State) (r : Port) :
    (takePart p f counts s).held r = s.held r := by
  unfold takePart takeRequest
  (repeat' split) <;> simp [deliver_held, joinRequests_held]

theorem admitUnknown_moves {p : Port} {k : NodeId} {s : State} (hk : s.nodeIndex k = none) (ho : k ≠ s.ownNode)
    (h31 : k ≠ 31) : Moves s (admitUnknown p k s).1 := by
  unfold admitUnknown; split
  · exact .of (.countPort ..)
  · split
    · next hi hr => exact .of (.learn p _ k hi hr hk ho h31)
    · split
      · exact .refl
      · exact .of (.countPort ..)

theorem admitMoved_moves {p : Port} {i : Nat} {k : NodeId} {s : State} {e : NodeEntry} (hi : s.nodeIndex k = some i)
    (he : s.entryAt i = some e) (hl : e.origin = .learned) (hp : e.port ≠ p) : Moves s (admitMoved p i k s).1 := by
  unfold admitMoved; split
  · exact .of (.countPort ..)
  · split
    · next hr => exact .of (.moveLearned p i k e hi he hl hp hr)
    · split
      · exact .of (.removeLearned i e he hl)
      · exact .of (.countPort ..)

/-- The index of a number is that of an entry. -/
theorem entryAt_ne_none_of_nodeIndex {s : State} {k : NodeId} {i : Nat} (hi : s.nodeIndex k = some i) :
    s.entryAt i ≠ none := by
  obtain ⟨-, h, -⟩ := findIdx_nodes_eq_some.mp hi
  intro hn
  rw [hn] at h
  cases h

/-- Admission is one piece (R133 to R136). -/
theorem admitSource_moves (p : Port) (k : NodeId) (s : State) : Moves s (admitSource p k s).1 := by
  unfold admitSource; split
  · exact .of (.countPort ..)
  · next h =>
    rw [not_or] at h
    split
    · next hk => exact admitUnknown_moves hk h.1 h.2
    · next i hi =>
      split
      · next hn => exact absurd hn (entryAt_ne_none_of_nodeIndex hi)
      · next e he =>
        split
        · exact .of (.hearNode i e he)
        · next hp =>
          split
          · exact .of (.countPort ..)
          · next ho => exact admitMoved_moves hi he (by cases h : e.origin <;> simp_all) hp

theorem forwardPart_moves {p : Port} {rc : RouteClass} {f : Frame} {s : State} (h : s.heldSum < 48) :
    Moves s (forwardPart p rc f s) := by
  simp only [forwardPart]; (repeat' split)
  · exact .of (.countPort ..)
  · exact (Moves.of (.countPort ..)).then (.setNotice _)
  · exact .of (.enqueue p _ f h)

theorem deliver_moves {p : Port} {src : NodeId} {role : Role} {give : StationId → State → State} {s : State}
    (h : ∀ n, Move s (give n s)) : Moves s (deliver p src role give s) := by
  unfold deliver; (repeat' split)
  · exact .of (.countPort ..)
  · exact .of (h _)
  · exact .of (.countPort ..)

theorem joinRequests_moves (q : Request) (s : State) : Moves s (joinRequests q s) := by
  unfold joinRequests; split
  · exact .of (.requests _)
  · exact .of (.countPort ..)

theorem takeRequest_moves (p : Port) (f : Frame) (s : State) : Moves s (takeRequest p f s) := by
  unfold takeRequest; split
  · exact .of (.countPort ..)
  · split
    · exact joinRequests_moves ..
    · exact .of (.countPort ..)

/-- A reading of three bytes is a 24-bit number (R197). -/
theorem s24_bounds (a b c : Byte) : -8388608 ≤ s24 a b c ∧ s24 a b c ≤ 8388607 := by
  have hl := BitVec.le_toInt (c ++ b ++ a)
  have hu := BitVec.toInt_lt (x := c ++ b ++ a)
  unfold s24
  norm_num at hl hu
  omega

theorem readWeighSample_bounds {pl : List Byte} {x : WeighSample} (h : readWeighSample pl = some x) :
    ∀ c ∈ [x.c0, x.c1, x.c2, x.c3], -8388608 ≤ c ∧ c ≤ 8388607 := by
  unfold readWeighSample at h
  split at h
  · cases h
    simp [s24_bounds]
  · cases h

/-- The take part is one piece (R149). -/
theorem takePart_moves (p : Port) (f : Frame) (counts : Bool) (s : State) : Moves s (takePart p f counts s) := by
  unfold takePart
  split
  · split
    · next hx => exact deliver_moves fun n => .weighSample n _ (readWeighSample_bounds hx)
    · exact .of (.countPort ..)
  split
  · split
    · exact deliver_moves fun n => .thermoSample n _ _
    · exact .of (.countPort ..)
  split
  · split
    · exact deliver_moves fun n => .driveState n _
    · exact .of (.countPort ..)
  split
  · split
    · exact deliver_moves fun n => .heatState n _
    · exact .of (.countPort ..)
  split
  · split
    · exact deliver_moves fun n => .lidState n _
    · exact .of (.countPort ..)
  split
  · exact takeRequest_moves ..
  split
  · exact .of (.countPort ..)
  · exact .refl

/-- A guarded setpoint in a known format asks for a manual speed, heat or lid command (R120). -/
theorem guardDemand_move {k : BitVec 5} {pl : List Byte} {demand : StationId → State → State}
    (hd : guardDemand k pl = some demand) {n : StationId} {s : State} (hi : (s.st n).run.state = .idle) :
    Move s (demand n s) := by
  unfold guardDemand at hd
  split at hd
  · obtain ⟨x, -, rfl⟩ := Option.map_eq_some_iff.mp hd
    exact .manualSpeed n _ _ hi
  split at hd
  · obtain ⟨x, -, rfl⟩ := Option.map_eq_some_iff.mp hd
    exact .manualHeat n _ hi
  · obtain ⟨x, -, rfl⟩ := Option.map_eq_some_iff.mp hd
    exact .manualLid n _ hi

theorem guardFrame_moves {p : Port} {rc : RouteClass} {f : Frame} {s : State} (h : s.heldSum < 48) :
    Moves s (guardFrame p rc f s) := by
  unfold guardFrame; split
  · exact forwardPart_moves h
  · split
    · exact .of (.countPort ..)
    · next hd =>
      split
      · next hi => exact .of (guardDemand_move hd hi)
      · exact .of (.countStation ..)

theorem routeFrame_moves {p : Port} {f : Frame} {s : State} (h : s.heldSum < 48) : Moves s (routeFrame p f s) := by
  simp only [routeFrame]; split
  · exact forwardPart_moves h
  · exact .of (.countPort ..)
  · exact takePart_moves ..
  · exact (takePart_moves ..).trans (forwardPart_moves (by rwa [heldSum_of_held fun r => takePart_held ..]))
  · exact guardFrame_moves h

/-- The queue manager's work on an arriving frame (R154). -/
theorem arrive_moves (p : Port) (f : Frame) (s : State) : Moves s (arrive p f s) := by
  have received : Moves s (countPort p .received s) := .of (.countPort ..)
  unfold arrive; dsimp only; split
  · exact (received.then (.countPort ..)).then (.setNotice _)
  · next hfree =>
    have room : (countPort p .received s).heldSum < 48 := by
      simp only [State.freeTransit, Config.transitBuffers] at hfree
      simp only [State.heldSum]
      omega
    have admitted := received.trans (admitSource_moves p f.source _)
    refine Moves.then ?_ (.updateDropMode p)
    split
    · exact admitted.trans (routeFrame_moves (by rwa [heldSum_of_held fun r => admitSource_held ..]))
    · exact admitted

/-! ### The events and the requests -/

/-- A command that is no request, as what it does while the part is not held in reset. -/
theorem whenLive_moves {event : State → State} {s : State} (h : Moves s (event s)) : Moves s (whenLive event s) := by
  unfold whenLive; split
  · exact .refl
  · exact h

/-- A command whose pieces may follow each other. -/
def severalPieces : Instr → Bool
  | .frameArrival _ _ => true
  | .wonArbitration _ => true
  | .reportTimerExpiry _ => true
  | _ => false

/-- What a command can do: a chain of pieces, of at most one for most commands, what serving a request does, or a reset of the
part. -/
inductive Outcome (c : Instr) (s t : State) : Prop
  | moves (h : Moves s t) (hone : severalPieces c = true ∨ t = s ∨ Move s t)
  | served (h : Served s t)
  | reset (hc : resetsPart c = true) (h : Reset s t)

variable {c : Instr}

theorem Outcome.nothing (s : State) : Outcome c s s := .moves .refl (.inr (.inl rfl))

theorem Outcome.piece {s t : State} (h : Move s t) : Outcome c s t := .moves (.of h) (.inr (.inr h))

theorem whenLive_outcome {event : State → State} {s : State} (h : Outcome c s (event s)) : Outcome c s (whenLive event s) := by
  unfold whenLive; split
  · exact .nothing s
  · exact h

/-- A request has its turn or not; in it the queue holds it at its head (R183). -/
theorem takeTurn_cases (r : Request) (s : State) :
    takeTurn r s = none ∨ s.replyFree = true ∧ ∃ l, takeTurn r s = some { s with requests := l } := by
  unfold takeTurn
  split
  · exact .inl rfl
  · next h =>
    have hf : s.replyFree = true := by simp_all
    split
    · exact .inr ⟨hf, _, rfl⟩
    · split
      · exact .inr ⟨hf, s.requests, rfl⟩
      · exact .inl rfl

/-- Serving a request (R183). -/
theorem serve_outcome {r : Request} {rule : State → State × Answer} {s : State} (h : ∀ t, Effect t (rule t).1) :
    Outcome c s (serve r rule s) := by
  unfold serve
  obtain ht | ⟨hf, l, ht⟩ := takeTurn_cases r s
  · rw [ht]; exact .nothing _
  · rw [ht]; exact .served ⟨r, _, l, _, hf, h _⟩

theorem serveForm_outcome {other : Nat} {r : Request} {rule : State → State × Answer} {s : State}
    (h : ∀ t, Effect t (rule t).1) : Outcome c s (serveForm other r rule s) := by
  unfold serveForm; split
  · exact .nothing _
  · exact serve_outcome h

/-- RESTART (R193): out of its turn nothing, a refusal, or the restart it asks for. -/
theorem execRestart_outcome {q : NodeId} {tag : Byte} {args : List Byte} {s t : State}
    (h : execRestart q tag args s = .next t) : Outcome (.restart q tag args) s t := by
  unfold execRestart at h
  cases h
  dsimp only
  obtain ht | ⟨hf, l, ht⟩ := takeTurn_cases ⟨0x02, tag, q, args⟩ s
  · rw [ht]; exact .nothing _
  · rw [ht]
    dsimp only
    (repeat' split)
    · exact .reset rfl (.powerOn s.ownNode s.pending)
    · exact .reset rfl .kept
    · exact .served ⟨_, _, l, _, hf, .unchanged⟩
    · exact .served ⟨_, _, l, _, hf, .unchanged⟩

theorem execWonArbitration_outcome {p : Port} {s t : State} (h : execWonArbitration p s = .next t) : Outcome (.wonArbitration p) s t := by
  unfold execWonArbitration at h
  cases h
  refine .moves (whenLive_moves ?_) (.inl rfl)
  dsimp only
  split
  · next e he =>
    split
    · exact (Moves.of (.wonArbitration p e he)).then .emptyAccumulator
    · exact .of (.wonArbitration p e he)
  · exact .refl

theorem execTransmitError_outcome {p : Port} {error : TxError} {s t : State}
    (h : execTransmitError p error s = .next t) : Outcome c s t := by
  unfold execTransmitError at h
  cases h
  refine whenLive_outcome ?_
  split
  · exact .piece (.transmitError p _ _ (.inl ‹_›))
  · exact .piece (.transmitError p _ _ (.inr ‹_›))
  · exact .nothing s

theorem execReportTimerExpiry_outcome {n : StationId} {s t : State} (h : execReportTimerExpiry n s = .next t) :
    Outcome (.reportTimerExpiry n) s t := by
  unfold execReportTimerExpiry at h
  cases h
  refine .moves (whenLive_moves ?_) (.inl rfl)
  split
  · dsimp only
    split
    · exact (Moves.of (.reportTimer n)).then (.weightReport n)
    · exact .of (.reportTimer n)
  · exact .refl

theorem execFrameArrival_outcome {p : Port} {f : Frame} {s t : State} (h : execFrameArrival p f s = .next t) :
    Outcome (.frameArrival p f) s t := by
  unfold execFrameArrival at h
  cases h
  refine .moves (whenLive_moves ?_) (.inl rfl)
  split
  · exact .refl
  · next hh =>
    have hears : (s.port p).hears = true := by simpa using hh
    split
    · exact .of (.receiveError p _ hears)
    · exact (Moves.of (.goodFrame p hears)).trans (arrive_moves ..)

/-- A piece that an event makes under a condition. -/
theorem guarded_outcome {b : Prop} [Decidable b] {s t : State} (h : b → Move s t) : Outcome c s (if b then t else s) := by
  split
  · next hb => exact .piece (h hb)
  · exact .nothing s

/-- What each command can do. -/
theorem exec_outcome {s t : State} (h : exec c s = .next t) : Outcome c s t := by
  cases c with
  | powerOnReset x => cases h; exact .reset rfl (.powerOn _ _)
  | resetAsserted => cases h; exact .reset rfl .asserted
  | frameArrival p f => exact execFrameArrival_outcome h
  | receiveError p e =>
    cases h
    exact whenLive_outcome (guarded_outcome (fun hb => .receiveError p e (by simp_all)))
  | startMarkReceived p => cases h; exact whenLive_outcome (guarded_outcome (fun hb => .startMark p hb))
  | transmissionStart p gap =>
    cases h
    exact whenLive_outcome (guarded_outcome (fun hb => .transmissionStart p gap hb))
  | lostArbitration p w =>
    cases h
    refine whenLive_outcome ?_
    split
    · next e he => exact guarded_outcome fun _ => .lostArbitration p e he
    · exact .nothing _
  | wonArbitration p => exact execWonArbitration_outcome h
  | transmissionCompleted p =>
    cases h
    refine whenLive_outcome ?_
    split
    · next e he => exact .piece (.completed p e he)
    · exact .nothing _
  | transmitError p e => exact execTransmitError_outcome h
  | joinWaitEnd p => cases h; exact whenLive_outcome (guarded_outcome (fun hb => .joined p hb))
  | portRecovery p =>
    cases h
    exact whenLive_outcome (guarded_outcome (fun hb => .recover p ((mayRecover_iff _).mp hb).1))
  | stepTimerExpiry n =>
    cases h
    exact whenLive_outcome (guarded_outcome (fun hb => .stepTimer n _ (by simp_all)))
  | reversal n =>
    cases h
    refine whenLive_outcome ?_
    dsimp only
    split
    · next hb =>
      simp only [Bool.and_eq_true] at hb
      exact .piece (.reversal n _ _ hb.1.1.1)
    · exact .nothing _
  | lockingDeadlineExpiry n =>
    cases h
    exact whenLive_outcome (guarded_outcome (fun hb => .lockingDeadline n (by simp_all)))
  | basingDeadlineExpiry n =>
    cases h
    exact whenLive_outcome (guarded_outcome (fun hb => .basingDeadline n (by simp_all)))
  | warmingLimitExpiry n =>
    cases h
    exact whenLive_outcome (guarded_outcome (fun hb => .warmingLimit n hb.1))
  | tareDeadlineExpiry n => cases h; exact whenLive_outcome (guarded_outcome (fun _ => .endOp n _))
  | zeroCalibrateDeadlineExpiry n => cases h; exact whenLive_outcome (guarded_outcome (fun _ => .endOp n _))
  | speedHoldExpiry n => cases h; exact whenLive_outcome (guarded_outcome (fun _ => .dropManualSpeed n))
  | heatHoldExpiry n => cases h; exact whenLive_outcome (guarded_outcome (fun _ => .dropManualHeat n))
  | spinDownExpiry n => cases h; exact whenLive_outcome (guarded_outcome (fun _ => .spinDown n))
  | refreshExpiry n => cases h; exact whenLive_outcome (.piece (.refresh n))
  | reportTimerExpiry n => exact execReportTimerExpiry_outcome h
  | agingRemoval i =>
    cases h
    refine whenLive_outcome ?_
    split
    · next e he => exact guarded_outcome fun hb => .removeLearned i e he (by simp_all [NodeEntry.tooOld])
    · exact .nothing _
  | nodeBecomesSilent i =>
    cases h
    refine whenLive_outcome ?_
    split
    · next e he => exact guarded_outcome fun hb => .becomeSilent i e he hb
    · exact .nothing _
  | restart q tag args => exact execRestart_outcome h
  | unknownRequestCode code q tag args =>
    cases h
    split
    · exact .nothing _
    · exact serve_outcome fun t => .unchanged
  | identify q tag args =>
    cases h
    exact serve_outcome fun t => by unfold identifyRule; split <;> exact .unchanged
  | routeWrite q tag args => cases h; exact serve_outcome fun t => routeWriteRule_effect _
  | routeRead q tag args => cases h; exact serve_outcome fun t => routeReadRule_effect _
  | routeDefaultWrite q tag args => cases h; exact serveForm_outcome fun t => routeDefaultWriteRule_effect _
  | routeDefaultRead q tag args =>
    cases h
    exact serveForm_outcome fun t => by unfold routeDefaultReadRule; split <;> exact .unchanged
  | portConfigWrite q tag args => cases h; exact serveForm_outcome fun t => portConfigWriteRule_effect _
  | portConfigRead q tag args => cases h; exact serveForm_outcome fun t => portConfigReadRule_effect _
  | portStatus q tag args => cases h; exact serve_outcome fun t => portStatusRule_effect _
  | portRestart q tag args => cases h; exact serve_outcome fun t => portRestartRule_effect _
  | nodeWrite q tag args => cases h; exact serveForm_outcome fun t => nodeWriteRule_effect _
  | nodeDelete q tag args => cases h; exact serveForm_outcome fun t => nodeDeleteRule_effect _
  | nodeRead q tag args => cases h; exact serve_outcome fun t => nodeReadRule_effect _
  | nodeFlush q tag args => cases h; exact serve_outcome fun t => nodeFlushRule_effect _
  | stationBind q tag args => cases h; exact serve_outcome fun t => stationBindRule_effect _
  | stationLimitsWrite q tag args => cases h; exact serveForm_outcome fun t => stationLimitsWriteRule_effect _
  | stationLimitsRead q tag args => cases h; exact serveForm_outcome fun t => stationLimitsReadRule_effect _
  | weighConfigWrite q tag args => cases h; exact serveForm_outcome fun t => weighConfigWriteRule_effect _
  | weighConfigRead q tag args => cases h; exact serveForm_outcome fun t => weighConfigReadRule_effect _
  | heatConfigWrite q tag args => cases h; exact serveForm_outcome fun t => heatConfigWriteRule_effect _
  | heatConfigRead q tag args => cases h; exact serveForm_outcome fun t => heatConfigReadRule_effect _
  | budgetSetWrite q tag args => cases h; exact serveForm_outcome fun t => budgetSetWriteRule_effect _
  | budgetSetRead q tag args =>
    cases h
    exact serveForm_outcome fun t => by unfold budgetSetReadRule; split <;> exact .unchanged
  | lock q tag args => cases h; exact serve_outcome fun t => lockRule_effect _ _
  | unlock q tag args => cases h; exact serve_outcome fun t => unlockRule_effect _ _
  | stepWrite q tag args => cases h; exact serve_outcome fun t => stepWriteRule_effect _ _
  | stepRead q tag args => cases h; exact serve_outcome fun t => stepReadRule_effect _
  | recipeLength q tag args => cases h; exact serve_outcome fun t => recipeLengthRule_effect _ _
  | recipeClear q tag args => cases h; exact serve_outcome fun t => recipeClearRule_effect _ _
  | start q tag args => cases h; exact serve_outcome fun t => startRule_effect _ _
  | pause q tag args => cases h; exact serve_outcome fun t => oneStation_effect pauseRule_effect
  | resume q tag args => cases h; exact serve_outcome fun t => oneStation_effect resumeRule_effect
  | stop q tag args => cases h; exact serve_outcome fun t => oneStation_effect stopRule_effect
  | skip q tag args => cases h; exact serve_outcome fun t => oneStation_effect skipRule_effect
  | confirm q tag args => cases h; exact serve_outcome fun t => confirmRule_effect _
  | adjust q tag args =>
    cases h
    exact serve_outcome fun t => by
      split
      · exact withStation_effect fun n => adjustRule_effect _ _
      · exact .unchanged
  | clearFault q tag args => cases h; exact serve_outcome fun t => oneStation_effect clearFaultRule_effect
  | tare q tag args => cases h; exact serve_outcome fun t => oneStation_effect tareRule_effect
  | zero q tag args => cases h; exact serve_outcome fun t => oneStation_effect zeroRule_effect
  | calibrate q tag args =>
    cases h
    exact serve_outcome fun t => by
      split
      · exact withStation_effect fun n => calibrateRule_effect _ _
      · exact .unchanged
  | statusRead q tag args => cases h; exact serve_outcome fun t => statusReadRule_effect _
  | noticeEnable q tag args => cases h; exact serve_outcome fun t => noticeEnableRule_effect _
  | noticeClear q tag args => cases h; exact serve_outcome fun t => noticeClearRule_effect _
  | noticeRead q tag args =>
    cases h
    exact serve_outcome fun t => by unfold noticeReadRule; split <;> exact .unchanged
  | countersRead q tag args => cases h; exact serve_outcome fun t => countersReadRule_effect _
  | reportConfigWrite q tag args => cases h; exact serveForm_outcome fun t => reportConfigWriteRule_effect _
  | reportConfigRead q tag args =>
    cases h
    exact serveForm_outcome fun t => reportConfigReadRule_effect _

/-- On an empty queue a step takes up a request, or a millisecond passes (notes/assumptions/1.md and 4.md). -/
theorem tick_moves (s : State) : Moves s (tick s) := by
  unfold tick; split
  · exact .refl
  · split
    · exact .of (.pending _)
    · exact (Moves.of .passMs).then (.pending _)

/-- A step takes the front command, or makes the pieces of an idle step. -/
theorem step_outcome {s t : State} (h : step s = .next t) :
    Moves s t ∨ ∃ c l, s.pending = c :: l ∧ Outcome c { s with pending := l } t := by
  unfold step at h
  split at h
  · next c l hp => exact .inr ⟨c, l, hp, exec_outcome h⟩
  · cases h; exact .inl (tick_moves s)

/-! ### Invariants of the step -/

/-- A property that every piece keeps holds after a chain of them. -/
theorem keeps_moves {I : State → Prop} (hmove : ∀ s t, I s → Move s t → I t) {s t : State} (h : Moves s t) (hs : I s) :
    I t := by
  induction h with
  | refl => exact hs
  | tail _ m ih => exact hmove _ _ ih m

/-- A property that every piece, every effect with its reply and every reset keeps is an invariant of the step. -/
theorem step_keeps {I : State → Prop} (hmove : ∀ s t, I s → Move s t → I t)
    (heffect : ∀ s u, I s → Effect s u → I u)
    (hreply : ∀ s u r a, I s → s.replyFree = true → Effect s u → I u → I (leaveQueue (sendReply r a u)))
    (hreset : ∀ s t, I s → Reset s t → I t) : ∀ s t, I s → step s = .next t → I t := by
  intro s t hs h
  obtain hm | ⟨c, l, -, ho⟩ := step_outcome h
  · exact keeps_moves hmove hm hs
  · have hl : I { s with pending := l } := hmove _ _ hs (.pending l)
    obtain ⟨hm, -⟩ | ⟨r, a, q, u, hf, he⟩ | ⟨-, hr⟩ := ho
    · exact keeps_moves hmove hm hl
    · have hq : I { s with pending := l, requests := q } := hmove _ _ hl (.requests q)
      exact hreply _ u r a hq hf he (heffect _ u hq he)
    · exact hreset _ _ hl hr

end Sys2Proof.Machine

/-! PROOFS. What each piece and each effect makes of the outline of the state, and three invariants that the outline decides:
the link ports (chapter 9), the node table (chapters 1 and 7), and the tables of a station that is not IDLE. -/

namespace Sys2Proof.Machine

open Sys2Proof

/-! ### One port (R174 to R178) -/

/-- Fault confinement at one port. -/
def PortState.sound (q : PortState) : Prop :=
  q.rx ≤ 127 ∧ q.tx ≤ 255 ∧ (q.health = .isolated ↔ 200 < q.tx) ∧
    (q.health = .joining → q.tx = 0 ∧ q.rx = 0 ∧ q.activity = .idle) ∧
    (q.health = .active → q.tx < 96 ∧ q.rx < 96) ∧
    (q.health = .passive → 96 ≤ q.tx ∨ 96 ≤ q.rx) ∧
    (q.health = .joining ∨ q.health = .isolated → q.engine = [])

theorem portsSound_iff (s : State) : PortsSound s ↔ ∀ p, (s.port p).sound := Iff.rfl

theorem engine_of_activity {q r : PortState} (h : r.activity = q.activity) : r.engine = q.engine := by
  simp [PortState.engine, h]

/-- Soundness reads what the outline keeps. -/
theorem PortState.sound_of_outline {q r : PortState} (h : r.outline = q.outline) (hs : q.sound) : r.sound := by
  obtain ⟨hrx, htx, hh, ha⟩ : r.rx = q.rx ∧ r.tx = q.tx ∧ r.health = q.health ∧ r.activity = q.activity :=
    ⟨(congrArg PortState.rx h :), (congrArg PortState.tx h :), (congrArg PortState.health h :),
      (congrArg PortState.activity h :)⟩
  unfold PortState.sound
  rw [hrx, htx, hh, ha, engine_of_activity ha]
  exact hs

/-- A port at rest in JOINING with counts 0 is sound (R177). -/
theorem PortState.sound_joining {q : PortState} (hh : q.health = .joining) (ht : q.tx = 0) (hr : q.rx = 0)
    (ha : q.activity = .idle) : q.sound := by
  simp [PortState.sound, PortState.engine, hh, ht, hr, ha]

/-- Outside JOINING and ISOLATED, a port whose health follows the counts is sound while its counts are in their bounds
(R176). -/
theorem PortState.sound_healthOf {q : PortState} (hh : q.health = healthOf q.tx q.rx) (ht : q.tx ≤ 200) (hr : q.rx ≤ 127) :
    q.sound := by
  unfold PortState.sound
  rw [hh]
  unfold healthOf Config.passiveCount
  split <;> simp <;> omega

/-- A port that is neither JOINING nor ISOLATED. -/
def PortState.takesPart (q : PortState) : Prop := q.health = .active ∨ q.health = .passive

theorem takesPart_of_engine {q : PortState} (hs : q.sound) (he : q.engine ≠ []) : q.takesPart := by
  obtain ⟨-, -, -, -, -, -, hempty⟩ := hs
  cases h : q.health
  · exact absurd (hempty (.inl h)) he
  · exact .inl h
  · exact .inr h
  · exact absurd (hempty (.inr h)) he

theorem followed_of_takesPart {q : PortState} (h : q.takesPart) : q.followed = healthOf q.tx q.rx := by
  obtain h | h := h <;> simp [PortState.followed, h]

theorem tx_le_of_takesPart {q : PortState} (hs : q.sound) (h : q.takesPart) : q.tx ≤ 200 := by
  obtain ⟨-, -, hiso, -⟩ := hs
  have : q.health ≠ .isolated := by obtain h | h := h <;> simp [h]
  exact Nat.not_lt.mp fun hlt => this (hiso.mpr hlt)

/-- A port of sound health keeps it when its activity changes, unless it joins, or is isolated and would send. -/
theorem PortState.sound_of_activity {q r : PortState} (hs : q.sound) (hh : r.health = q.health) (ht : r.tx = q.tx)
    (hr : r.rx = q.rx) (hj : q.health ≠ .joining) (he : q.health = .isolated → r.engine = []) : r.sound := by
  obtain ⟨h1, h2, h3, -, h5, h6, -⟩ := hs
  unfold PortState.sound
  rw [hh, ht, hr]
  exact ⟨h1, h2, h3, fun h => absurd h hj, h5, h6, fun h => h.elim (absurd · hj) he⟩

/-- The health that follows new counts is sound at a port that hears and sends nothing (R176). -/
theorem PortState.sound_followed {q r : PortState} (hs : q.sound) (hj : q.health ≠ .joining) (hh : r.health = q.health)
    (ht : r.tx = q.tx) (hr : r.rx ≤ 127) (ha : r.engine = []) : ({ r with health := r.followed } : PortState).sound := by
  by_cases hp : q.takesPart
  · have hp' : r.takesPart := by unfold takesPart; rw [hh]; exact hp
    have htx := tx_le_of_takesPart hs hp
    refine PortState.sound_healthOf (followed_of_takesPart hp') ?_ hr
    simp only
    omega
  · have hi : q.health = .isolated := by
      unfold PortState.takesPart at hp
      cases h : q.health <;> simp_all
    have hf : r.followed = .isolated := by simp [PortState.followed, hh, hi]
    have ha' : ({ r with health := r.followed } : PortState).engine = [] := ha
    obtain ⟨-, h2, h3, -⟩ := hs
    unfold PortState.sound
    simp only [hf, ht]
    refine ⟨hr, h2, by simpa [hi] using h3, by simp, by simp, by simp, fun _ => ha⟩

theorem hears_iff (q : PortState) : q.hears = true ↔ q.health ≠ .joining ∧ q.engine = [] := by
  simp [PortState.hears]

/-! ### What a piece makes of the outline -/

/-- What a piece or an effect can make of the outline of the state: nothing; another port, sound where it was, with its
configuration kept or not; or one of the named changes. -/
inductive Sketch (s : State) : State → Prop
  | work {t : State} (h : t.outline = s.outline) : Sketch s t
  | port {t : State} (p : Port) (q : PortState) (hs : (s.port p).sound → q.sound) (hc : q.cfg = (s.port p).cfg)
      (h : t.outline = (s.modPort p (fun _ => q)).outline) : Sketch s t
  | pending (l : List Instr) : Sketch s { s with pending := l }
  | requests (l : List Request) : Sketch s { s with requests := l }
  | passMs : Sketch s (passMs s)
  | reportTimer (n : StationId) :
      Sketch s (s.modSt n (fun st => { st with reportTimer := reportTimerOf st.reportInterval }))
  | removeLearned (i : Nat) (e : NodeEntry) (he : s.entryAt i = some e) (hl : e.origin = .learned) :
      Sketch s (removeEntry i s)
  | silenced {t : State} (i : Nat) (e : NodeEntry) (he : s.entryAt i = some e) (ho : e.origin = .static)
      (h : t.outline = (s.setEntry i (some { e with silent := true })).outline) : Sketch s t
  | heard {t : State} (i : Nat) (e : NodeEntry) (he : s.entryAt i = some e)
      (h : t.outline = (s.setEntry i (some { e with age := 0, silent := false })).outline) : Sketch s t
  | learn (p : Port) (i : Nat) (k : NodeId) (hi : s.freeNode = some i) (hr : s.limitRoom p = true)
      (hk : s.nodeIndex k = none) (ho : k ≠ s.ownNode) (h31 : k ≠ 31) : Sketch s (s.setEntry i (some (learnedEntry k p)))
  | moveLearned (p : Port) (i : Nat) (k : NodeId) (e : NodeEntry) (hi : s.nodeIndex k = some i)
      (he : s.entryAt i = some e) (hl : e.origin = .learned) (hp : e.port ≠ p) (hr : s.limitRoom p = true) :
      Sketch s (s.setEntry i (some (learnedEntry k p)))

/-- A port event with what it leaves of the port. -/
theorem Sketch.port_of {s t : State} (p : Port) (f : PortState → PortState) (hs : (s.port p).sound → (f (s.port p)).sound)
    (hc : (f (s.port p)).cfg = (s.port p).cfg) (h : t.outline = (s.modPort p f).outline) : Sketch s t := by
  refine .port p (f (s.port p)) hs hc (h.trans ?_)
  cases p <;> rfl

/-- Two port changes of one port are one. -/
theorem modPort_modPort (s : State) (p : Port) (f g : PortState → PortState) :
    (s.modPort p f).modPort p g = s.modPort p (fun q => g (f q)) := by
  cases p <;> rfl

@[simp] theorem enqueueTransit_outline (p : Port) (c : QClass) (f : Frame) (s : State) :
    (enqueueTransit p c f s).outline = s.outline := by
  unfold enqueueTransit; split
  · simp
  · exact outline_modPort s _ _ fun q => by simp

@[simp] theorem returnUnsent_outline (p : Port) (e : Queued) (s : State) : (returnUnsent p e s).outline = s.outline := by
  unfold returnUnsent; (repeat' split)
  all_goals first | rfl | exact outline_modPort s _ _ fun q => by simp

@[simp] theorem countDrops_outline (p : Port) (k : Nat) (s : State) : (countDrops p k s).outline = s.outline := by
  induction k generalizing s with
  | zero => rfl
  | succ k ih => simp [countDrops, ih]

/-- Isolation empties the port and writes its health (R178). -/
theorem enterIsolated_outline (p : Port) (s : State) : (enterIsolated p s).outline =
    (s.modPort p (fun q => { q with
      health := .isolated, activity := .idle, idleBits := 0, goodFrames := 0, errorMark := none })).outline := by
  have base : (enterIsolated p s).outline =
      ((s.modPort p (fun q => { q with
        urgent := [], control := [], bulk := [], activity := .idle, idleBits := 0, goodFrames := 0
        errorMark := none })).modPort p (fun q => { q with health := .isolated })).outline := by
    unfold enterIsolated
    cases p <;> simp only [isolateStation_outline] <;> rw [setHealth_outline] <;>
      exact outline_modPort_of _ (fun q => rfl) (countDrops_outline ..)
  rw [base]
  cases p <;> rfl

theorem goodFrame_sketch {s : State} {p : Port} (h : (s.port p).hears = true) : Sketch s (goodFrameAt p s) := by
  obtain ⟨hj, he⟩ := (hears_iff _).mp h
  unfold goodFrameAt recoverIfMet
  split
  · refine .port_of p _ (fun _ => ?_) ?_ (((recoverPort_outline ..).trans
      (outline_modPort_of p (fun q => rfl) (followCounts_outline ..))).trans
        (congrArg State.outline ((modPort_modPort ..).trans (modPort_modPort ..))))
    · exact PortState.sound_joining rfl rfl rfl rfl
    · rfl
  · refine .port_of p _ (fun hs => ?_) ?_ ((followCounts_outline ..).trans (congrArg State.outline (modPort_modPort ..)))
    · refine PortState.sound_followed hs hj rfl rfl ?_ rfl
      have : (s.port p).rx ≤ 127 := hs.1
      simp only
      unfold rxDown Config.rxMax
      split <;> omega
    · rfl

theorem receiveError_sketch {s : State} {p : Port} {error : RxError} (h : (s.port p).hears = true) :
    Sketch s (receiveErrorAt p error s) := by
  obtain ⟨hj, he⟩ := (hears_iff _).mp h
  refine .port p _ (fun hs => ?_) ?_ (receiveErrorAt_outline p error s _ rfl)
  · refine PortState.sound_followed hs hj rfl rfl ?_ rfl
    have : (s.port p).rx ≤ 127 := hs.1
    simp only
    unfold rxUp satInc Config.rxMax
    split <;> omega
  · rfl

theorem reloadCredits_outline_fields (q : PortState) :
    (reloadCredits q).health = q.health ∧ (reloadCredits q).tx = q.tx ∧ (reloadCredits q).rx = q.rx ∧
      (reloadCredits q).cfg = q.cfg := by
  unfold reloadCredits; split <;> exact ⟨rfl, rfl, rfl, rfl⟩

theorem offerFrame_outline_fields (q : PortState) :
    (offerFrame q).health = q.health ∧ (offerFrame q).tx = q.tx ∧ (offerFrame q).rx = q.rx ∧
      (offerFrame q).cfg = q.cfg := by
  unfold offerFrame; split
  · exact ⟨rfl, rfl, rfl, rfl⟩
  · next c _ => split <;> cases c <;> exact ⟨rfl, rfl, rfl, rfl⟩

theorem mayStart_takesPart {q : PortState} {gap : Nat} (h : q.mayStart gap = true) : q.takesPart := by
  simp only [PortState.mayStart, Bool.and_eq_true, Bool.or_eq_true, beq_iff_eq] at h
  exact h.1.1

theorem PortState.takesPart.not_joining {q : PortState} (h : q.takesPart) : q.health ≠ .joining := by
  obtain h | h := h <;> simp [h]

theorem PortState.takesPart.not_isolated {q : PortState} (h : q.takesPart) : q.health ≠ .isolated := by
  obtain h | h := h <;> simp [h]

/-- A change of what a port that takes part does keeps it sound. -/
theorem PortState.sound_of_takesPart {q r : PortState} (hp : q.takesPart) (hs : q.sound) (hh : r.health = q.health)
    (ht : r.tx = q.tx) (hr : r.rx = q.rx) : r.sound :=
  PortState.sound_of_activity hs hh ht hr hp.not_joining fun hi => absurd hi hp.not_isolated

theorem transmissionStart_sketch {s : State} {p : Port} {gap : Nat} (h : (s.port p).mayStart gap = true) :
    Sketch s (s.modPort p (fun q => offerFrame (reloadCredits q))) := by
  obtain ⟨h1, h2, h3, h4⟩ := reloadCredits_outline_fields (s.port p)
  obtain ⟨g1, g2, g3, g4⟩ := offerFrame_outline_fields (reloadCredits (s.port p))
  exact .port_of p (fun q => offerFrame (reloadCredits q))
    (fun hs => PortState.sound_of_takesPart (mayStart_takesPart h) hs (g1.trans h1) (g2.trans h2) (g3.trans h3))
    (g4.trans h4) rfl

theorem engine_contending {q : PortState} {e : Queued} (h : q.activity = .contending e) : q.engine = [e] := by
  simp [PortState.engine, h]

theorem engine_transmitting {q : PortState} {e : Queued} (h : q.activity = .transmitting e) : q.engine = [e] := by
  simp [PortState.engine, h]

theorem lostArbitration_sketch {s : State} {p : Port} {e : Queued} (h : (s.port p).activity = .contending e) :
    Sketch s (countPort p .lostArbitrations (returnUnsent p e
      (s.modPort p (fun q => { q with activity := .receiving, wasTransmitter := false })))) :=
  .port_of p (fun q => { q with activity := .receiving, wasTransmitter := false })
    (fun hs => PortState.sound_of_takesPart (takesPart_of_engine hs (by simp [engine_contending h])) hs rfl rfl rfl)
    rfl (by simp)

theorem wonArbitration_sketch {s : State} {p : Port} {e : Queued} (h : (s.port p).activity = .contending e) :
    Sketch s (s.modPort p (fun q => spendCredit e.cls { q with activity := .transmitting e })) :=
  .port_of p (fun q => spendCredit e.cls { q with activity := .transmitting e })
    (fun hs => PortState.sound_of_takesPart (takesPart_of_engine hs (by simp [engine_contending h])) hs
      (by simp) (by cases e.cls <;> rfl) (by cases e.cls <;> rfl))
    (by cases e.cls <;> rfl) rfl

theorem completed_sketch {s : State} {p : Port} {e : Queued} (h : (s.port p).activity = .transmitting e) :
    Sketch s (updateDropModes (followCounts p (countPort p .transmitted (s.modPort p (fun q =>
      { q with activity := .idle, wasTransmitter := true, tx := q.tx - 1 }))))) := by
  refine .port_of p _ (fun hs => ?_) ?_ ((updateDropModes_outline _).trans ((followCounts_outline ..).trans
    ((outline_modPort_of p (fun q => rfl) (countPort_outline ..)).trans (congrArg State.outline (modPort_modPort ..)))))
  · have hp := takesPart_of_engine hs (by simp [engine_transmitting h])
    have ht := tx_le_of_takesPart hs hp
    refine PortState.sound_healthOf (followed_of_takesPart hp) ?_ hs.1
    simp only
    omega
  · rfl

/-- The TX count after a transmit error stays within its bound (R174). -/
theorem txAfter_le {error : TxError} {q : PortState} (h : q.tx ≤ 255) : txAfter error q ≤ 255 := by
  unfold txAfter txUp Config.txMax
  split
  · omega
  · split <;> omega

theorem transmitError_sketch {s : State} {p : Port} {error : TxError} (he : (s.port p).engine ≠ []) :
    Sketch s (transmitErrorAt p error s) := by
  unfold transmitErrorAt
  dsimp only
  split
  · next hiso =>
    refine .port_of p _ (fun hs => ?_) ?_ ((updateDropModes_outline _).trans ((enterIsolated_outline ..).trans
      ((outline_modPort_of p (fun q => rfl) (countPort_outline ..)).trans (congrArg State.outline (modPort_modPort ..)))))
    · have htx := txAfter_le (error := error) hs.2.1
      simp only [Config.isolationCount] at hiso
      exact ⟨hs.1, htx, by simp [hiso], by simp, by simp, by simp, fun _ => rfl⟩
    · rfl
  · next hiso =>
    refine .port_of p _ (fun hs => ?_) ?_ ((updateDropModes_outline _).trans ((followCounts_outline ..).trans
      ((outline_modPort_of p (fun q => rfl) (outline_modPort_of p (fun q => rfl) (countPort_outline ..))).trans
        (congrArg State.outline ((congrArg (State.modPort · p _) (modPort_modPort ..)).trans (modPort_modPort ..))))))
    · have hp := takesPart_of_engine hs he
      refine PortState.sound_healthOf (followed_of_takesPart hp) ?_ hs.1
      simpa [Config.isolationCount] using hiso
    · rfl

theorem joined_sketch {s : State} {p : Port} (h : (s.port p).health = .joining) : Sketch s (setHealth p .active s) := by
  refine .port_of p _ (fun hs => ?_) ?_ (setHealth_outline ..)
  · obtain ⟨ht, hr, -⟩ := hs.2.2.2.1 h
    refine PortState.sound_healthOf ?_ (by simp [ht]) (by simp [hr])
    simp [healthOf, ht, hr, Config.passiveCount]
  · rfl

theorem recover_sketch (s : State) (p : Port) : Sketch s (recoverPort p s) :=
  .port_of p _ (fun _ => PortState.sound_joining rfl rfl rfl rfl) rfl (recoverPort_outline ..)

theorem becomeSilent_outline (i : Nat) (e : NodeEntry) (s : State) :
    (becomeSilent i e s).outline = (s.setEntry i (some { e with silent := true })).outline := by
  simp only [becomeSilent]; split <;> simp

theorem hearNode_outline (i : Nat) (e : NodeEntry) (s : State) :
    (hearNode i e s).outline = (s.setEntry i (some { e with age := 0, silent := false })).outline := by
  simp only [hearNode]; (repeat' split) <;> simp

theorem static_of_silenceDue {e : NodeEntry} (h : e.silenceDue = true) : e.origin = .static := by
  simp only [NodeEntry.silenceDue, Bool.and_eq_true, beq_iff_eq] at h
  exact h.1.1.1

/-- What each piece makes of the outline. -/
theorem move_sketch {s t : State} (h : Move s t) : Sketch s t := by
  cases h with
  | pending l => exact .pending l
  | requests l => exact .requests l
  | passMs => exact .passMs
  | goodFrame p h => exact goodFrame_sketch h
  | receiveError p e h => exact receiveError_sketch h
  | startMark p h =>
    obtain ⟨hj, he⟩ := (hears_iff _).mp h
    exact .port_of p _ (fun hs => PortState.sound_of_activity hs rfl rfl rfl hj fun _ => rfl) rfl rfl
  | transmissionStart p gap h => exact transmissionStart_sketch h
  | lostArbitration p e h => exact lostArbitration_sketch h
  | wonArbitration p e h => exact wonArbitration_sketch h
  | completed p e h => exact completed_sketch h
  | transmitError p error e h =>
    exact transmitError_sketch (by obtain h | h := h <;> simp [engine_transmitting, engine_contending, h])
  | joined p h => exact joined_sketch h
  | recover p h => exact recover_sketch s p
  | reportTimer n => exact .reportTimer n
  | removeLearned i e he hl => exact .removeLearned i e he hl
  | becomeSilent i e he hd => exact .silenced i e he (static_of_silenceDue hd) (becomeSilent_outline ..)
  | hearNode i e he => exact .heard i e he (hearNode_outline ..)
  | learn p i k hi hr hk ho h31 => exact .learn p i k hi hr hk ho h31
  | moveLearned p i k e hi he hl hp hr => exact .moveLearned p i k e hi he hl hp hr
  | _ => exact .work (by simp)

end Sys2Proof.Machine

namespace Sys2Proof.Machine

open Sys2Proof

/-! ### The link ports (R174 to R178) -/

/-- The port with its engine empty: a transmission gives its credit back (R180). -/
def PortState.stopped (q : PortState) : PortState :=
  match q.activity with
  | .transmitting e => { unspendCredit e.cls q with activity := .idle }
  | _ => { q with activity := .idle }

/-- The fields of a stopped port that its soundness reads, and its configuration. -/
theorem stopped_fields (q : PortState) : q.stopped.activity = .idle ∧ q.stopped.tx = q.tx ∧ q.stopped.rx = q.rx ∧
    q.stopped.health = q.health ∧ q.stopped.cfg = q.cfg := by
  unfold PortState.stopped unspendCredit
  (repeat' split) <;> exact ⟨rfl, rfl, rfl, rfl, rfl⟩

theorem modPort_congr {s : State} {p : Port} {f g : PortState → PortState} (h : f (s.port p) = g (s.port p)) :
    s.modPort p f = s.modPort p g := by
  have hf : ∀ f : PortState → PortState, s.modPort p f = s.modPort p fun _ => f (s.port p) := fun f => by cases p <;> rfl
  rw [hf f, hf g, h]

theorem modPort_self {s : State} {p : Port} {f : PortState → PortState} (h : f (s.port p) = s.port p) :
    s.modPort p f = s := by
  rw [modPort_congr (g := id) h]
  cases p <;> rfl

/-- The frame that returns to its queue is no part of the outline. -/
theorem stopSending_outline (p : Port) (s : State) :
    (stopSending p s).outline = (s.modPort p PortState.stopped).outline := by
  unfold stopSending
  split
  · next e h => rw [returnUnsent_outline]; exact congrArg _ (modPort_congr (by simp [PortState.stopped, h]))
  · next e h => rw [returnUnsent_outline]; exact congrArg _ (modPort_congr (by simp [PortState.stopped, h]))
  · next h =>
    rw [modPort_self (f := PortState.stopped)]
    simp only [PortState.stopped, h]
    rw [← h]
  · next h => exact congrArg _ (modPort_congr (by simp [PortState.stopped, h]))

/-- The port as PORT_RESTART leaves it, apart from its queues (R180). -/
def PortState.restarted (q : PortState) : PortState :=
  { PortState.stopped { q with
      tx := 0, rx := 0, idleBits := 0, goodFrames := 0, wasTransmitter := false, errorMark := none, voided := false } with
    health := .joining }

theorem restartPort_outline (p : Port) (s : State) :
    (restartPort p s).outline = (s.modPort p PortState.restarted).outline := by
  unfold restartPort
  dsimp only
  have h := (outline_modPort_of p (f := fun q => { q with health := .joining }) (fun q => rfl)
    (stopSending_outline p (s.modPort p (fun q => { q with
      tx := 0, rx := 0, idleBits := 0, goodFrames := 0, wasTransmitter := false, errorMark := none, voided := false })))).trans
    (congrArg State.outline ((congrArg (State.modPort · p _) (modPort_modPort ..)).trans (modPort_modPort ..)))
  split
  · rw [leftIsolation_outline, setNotice_outline, h]; rfl
  · rw [setNotice_outline, h]; rfl

theorem restartPort_sketch (s : State) (p : Port) : Sketch s (restartPort p s) := by
  obtain ⟨ha, ht, hr, -, hc⟩ := stopped_fields { s.port p with
    tx := 0, rx := 0, idleBits := 0, goodFrames := 0, wasTransmitter := false, errorMark := none, voided := false }
  exact .port_of p PortState.restarted (fun _ => PortState.sound_joining rfl ht hr ha) hc (restartPort_outline p s)

theorem portsSound_of_outline {s t : State} (h : t.outline = s.outline) (hs : PortsSound s) : PortsSound t :=
  fun p => PortState.sound_of_outline (port_outline_of h p) (hs p)

theorem portsSound_of_ports {s t : State} (h : ∀ p, t.port p = s.port p) (hs : PortsSound s) : PortsSound t :=
  fun p => by rw [h]; exact hs p

theorem portsSound_modPort {s : State} {p : Port} {f : PortState → PortState} (hs : PortsSound s)
    (h : (f (s.port p)).sound) : PortsSound (s.modPort p f) := by
  intro r
  by_cases hr : r = p
  · subst hr; rw [port_modPort]; exact h
  · rw [port_modPort_ne hr]; exact hs r

@[simp] theorem removeEntry_port (i : Nat) (s : State) (p : Port) : (removeEntry i s).port p = s.port p := by
  unfold removeEntry; split
  · simp [releaseLocks]
  · rfl

theorem portMs_sound {q : PortState} (h : q.sound) : (portMs q).sound := by
  unfold portMs; split
  · exact h
  · exact h

theorem portsSound_sketch {s t : State} (hs : PortsSound s) (h : Sketch s t) : PortsSound t := by
  cases h with
  | work h => exact portsSound_of_outline h hs
  | port p q hq _ h => exact portsSound_of_outline h (portsSound_modPort hs (hq (hs p)))
  | pending l | requests l => exact portsSound_of_ports (fun p => by cases p <;> rfl) hs
  | passMs =>
    intro p
    cases p
    · exact portMs_sound (hs .control)
    · exact portMs_sound (hs .appliance)
  | reportTimer n => exact portsSound_of_ports (by simp) hs
  | removeLearned i e _ _ => exact portsSound_of_ports (by simp) hs
  | silenced i e _ _ h => exact portsSound_of_outline h (portsSound_of_ports (by simp) hs)
  | heard i e _ h => exact portsSound_of_outline h (portsSound_of_ports (by simp) hs)
  | learn p i k => exact portsSound_of_ports (by simp) hs
  | moveLearned p i k => exact portsSound_of_ports (by simp) hs

theorem portsSound_recoverIfMet {s : State} {p : Port} (hs : PortsSound s) : PortsSound (recoverIfMet p s) := by
  unfold recoverIfMet; split
  · exact portsSound_sketch hs (recover_sketch s p)
  · exact hs

/-- An item of the configuration acts on the port by its recovery mode alone (R179). -/
theorem applyPortItem_ports {s : State} {p : Port} {id v : Nat} (hs : PortsSound s) :
    PortsSound (applyPortItem p id v s) := by
  unfold applyPortItem
  have hcfg : PortsSound (s.modPort p (fun q => { q with cfg := setPortItem q.cfg id v })) :=
    portsSound_modPort hs (hs p)
  (repeat' split)
  · refine portsSound_of_ports (fun r => ?_) hs
    rw [removeWhere_eq_removeBelow]
    cases r
    · exact removeBelow_control ..
    · exact removeBelow_appliance ..
  · exact portsSound_of_outline (updateDropMode_outline ..) hcfg
  · exact portsSound_recoverIfMet hcfg
  · exact hcfg

theorem writeEntry_outline (i : Nat) (e : NodeEntry) (s : State) :
    (writeEntry i e s).outline =
      (s.setEntry i (some { e with silent := e.silent || e.silenceDue })).outline := by
  unfold writeEntry
  dsimp only
  split
  · next h => rw [becomeSilent_outline, h, Bool.or_true, setEntry_setEntry]
  · next h => rw [Bool.eq_false_iff.mpr h, Bool.or_false]

/-- What a NODE_WRITE past its checks can do: nothing, rewrite the entry its number has, or write a new one (R142). -/
theorem nodeWrite_cases (k : NodeId) (p : Port) (limit : Nat) (s : State) :
    (nodeWrite k p limit s).1 = s ∨
    (∃ i e, s.nodeIndex k = some i ∧ s.entryAt i = some e ∧ (s.boundAs k = none ∨ e.port = p) ∧
      (nodeWrite k p limit s).1 = writeEntry i (rewrittenEntry e p limit) s) ∨
    (∃ i, s.nodeIndex k = none ∧ s.freeNode = some i ∧
      (nodeWrite k p limit s).1 = writeEntry i (staticEntry k p limit) s) := by
  cases hi : s.nodeIndex k with
  | none =>
    cases hf : s.freeNode with
    | none => left; simp [nodeWrite, hi, hf]
    | some i => right; right; exact ⟨i, rfl, rfl, by simp [nodeWrite, hi, hf]⟩
  | some i =>
    obtain ⟨e, he⟩ := Option.ne_none_iff_exists'.mp (entryAt_ne_none_of_nodeIndex hi)
    have hk := nodeEntry_eq_some hi he
    cases hb : s.boundAs k with
    | none => right; left; exact ⟨i, e, rfl, he, .inl rfl, by simp [nodeWrite, hi, hk, hb]⟩
    | some b =>
      by_cases hp : e.port = p
      · right; left; exact ⟨i, e, rfl, he, .inr hp, by simp [nodeWrite, hi, hk, hb, hp]⟩
      · left; simp [nodeWrite, hi, hk, hb, hp]

/-- An accepted STATION_BIND replaces the binding, and all else it does keeps the outline (R18). -/
theorem bindStation_outline (n : StationId) (new : Binding) (s : State) :
    (bindStation n new s).outline = (s.modSt n (fun st => { st with binding := new })).outline := by
  have h : ∀ t : State, t.outline = s.outline →
      (t.modSt n (fun st => { st with binding := new })).outline =
        (s.modSt n (fun st => { st with binding := new })).outline := by
    intro t ht
    have h0 := congrArg State.station0 ht
    have h1 := congrArg State.station1 ht
    cases n
    · calc _ = { t.outline with station0 := { t.outline.station0 with binding := new } } := rfl
        _ = _ := by rw [ht]; rfl
    · calc _ = { t.outline with station1 := { t.outline.station1 with binding := new } } := rfl
        _ = _ := by rw [ht]; rfl
  simp only [bindStation, followBinding_outline]
  exact h _ (forgetRoles_outline ..)

/-- Of the limits alone an accepted write changes the outline (R20). -/
theorem applyLimit_outline (n : StationId) (id v : Nat) (s : State) :
    (applyLimit n id v s).outline = (s.modSt n (fun st => { st with limits := setLimit st.limits id v })).outline := by
  simp only [applyLimit]; (repeat' split) <;> simp

theorem applyWeighItem_outline (n : StationId) (id : Nat) (v : Int) (s : State) :
    (applyWeighItem n id v s).outline = s.outline := by
  have h : (s.modSt n (fun st => { st with weighCfg := setWeighItem st.weighCfg id v })).outline = s.outline :=
    outline_modSt s n _ fun _ => rfl
  simp only [applyWeighItem]; (repeat' split) <;> simp [h]

theorem portsSound_effect {s u : State} (hs : PortsSound s) (h : Effect s u) : PortsSound u := by
  cases h with
  | lock | unlock | storeStep | recipeLength | recipeClear | heatItem | reportInterval | zeroStation =>
    exact portsSound_of_ports (by simp [Machine.storeStep]) hs
  | bind => exact portsSound_of_outline (bindStation_outline ..) (portsSound_of_ports (by simp) hs)
  | limit => exact portsSound_of_outline (applyLimit_outline ..) (portsSound_of_ports (by simp) hs)
  | weighItem => exact portsSound_of_outline (applyWeighItem_outline ..) hs
  | zeroPort p first count => exact portsSound_modPort hs (hs p)
  | portItem => exact applyPortItem_ports hs
  | restartPort p => exact portsSound_sketch hs (restartPort_sketch s p)
  | nodeWrite k p limit =>
    obtain h | ⟨i, e, -, -, -, h⟩ | ⟨i, -, -, h⟩ := nodeWrite_cases k p limit s
    · rwa [h]
    all_goals rw [h]; exact portsSound_of_outline (writeEntry_outline ..) (portsSound_of_ports (by simp) hs)
  | removeNode => exact portsSound_of_ports (by simp) hs
  | flushNodes =>
    refine portsSound_of_ports (fun r => ?_) hs
    rw [removeWhere_eq_removeBelow]
    cases r
    · exact removeBelow_control ..
    · exact removeBelow_appliance ..
  | snapshot | clearNotices | route | routeDefault => exact portsSound_of_ports (fun p => by cases p <;> rfl) hs
  | _ => exact portsSound_of_outline (by simp) hs

theorem portsSound_reset {s t : State} (h : Reset s t) : PortsSound t := by
  cases h with
  | kept =>
    refine portsSound_of_outline (setNotice_outline ..) fun p => ?_
    cases p <;> exact PortState.sound_joining rfl rfl rfl rfl
  | _ => intro p; cases p <;> exact PortState.sound_joining rfl rfl rfl rfl

/-- Settles O51: every piece leaves each port sound, as its counts, health and activity move together. -/
theorem stepKeepsPorts : Obligations.StepKeepsPorts :=
  step_keeps (fun _ _ hs h => portsSound_sketch hs (move_sketch h)) (fun _ _ => portsSound_effect)
    (fun _ _ _ _ _ _ _ hu => portsSound_of_ports (fun p => leaveQueue_port _ p)
      (portsSound_of_outline (sendReply_outline ..) hu))
    (fun _ _ _ => portsSound_reset)

end Sys2Proof.Machine

namespace Sys2Proof.Machine

open Sys2Proof

/-- Two stations: the one that is not `n` is the other. -/
theorem eq_otherStation_of_ne {m n : StationId} (h : m ≠ n) : m = otherStation n := by
  cases m <;> cases n
  · exact absurd rfl h
  · rfl
  · rfl
  · exact absurd rfl h

/-! ### The node table (R13, R17, R131) -/

/-- Some entry bears this number and satisfies `p`. -/
def State.knows (s : State) (k : NodeId) (p : NodeEntry → Prop) : Prop :=
  ∃ i e, s.entryAt i = some e ∧ e.number = k ∧ p e

/-- An entry that STATION_BIND may bind (R17). -/
def NodeEntry.mayBind (e : NodeEntry) : Prop := e.origin = .static ∧ e.port = .appliance

/-- An entry that a node table may hold beside others (R131, R139). -/
def NodeEntry.sound (own : NodeId) (e : NodeEntry) : Prop :=
  e.number ≠ own ∧ e.number ≠ 31 ∧ (e.origin = .learned → e.limit = 0 ∧ e.silent = false)

theorem nodeIndex_eq_none {s : State} {k : NodeId} : s.nodeIndex k = none ↔ ¬ s.knows k fun _ => True := by
  unfold State.nodeIndex
  rw [findIdx_nodes_eq_none]
  constructor
  · rintro h ⟨i, e, he, hk, -⟩
    simpa [he, holdsNode, hk] using h i (entryAt_lt he)
  · intro h i _
    cases he : s.entryAt i with
    | none => rfl
    | some e => exact Bool.eq_false_iff.mpr fun hk => h ⟨i, e, he, by simpa [holdsNode] using hk, trivial⟩

theorem exists_of_nodeEntry {s : State} {k : NodeId} {e : NodeEntry} (h : s.nodeEntry k = some e) :
    ∃ i, s.nodeIndex k = some i ∧ s.entryAt i = some e ∧ e.number = k := by
  obtain ⟨i, hi, he⟩ := Option.bind_eq_some_iff.mp h
  exact ⟨i, hi, he, (nodeIndex_number hi he).2⟩

theorem nodeEntry_ne_none {s : State} {k : NodeId} : s.nodeEntry k ≠ none ↔ s.knows k fun _ => True := by
  constructor
  · intro h
    obtain ⟨e, he⟩ := Option.ne_none_iff_exists'.mp h
    obtain ⟨i, -, hi, hk⟩ := exists_of_nodeEntry he
    exact ⟨i, e, hi, hk, trivial⟩
  · intro h
    obtain ⟨i, hi⟩ := Option.ne_none_iff_exists'.mp (mt nodeIndex_eq_none.mp (not_not_intro h))
    obtain ⟨e, he⟩ := Option.ne_none_iff_exists'.mp (entryAt_ne_none_of_nodeIndex hi)
    simp [nodeEntry_eq_some hi he]

/-- Where each number has one entry, the entry found for a number is the one that bears it. -/
theorem nodeEntry_iff {s : State}
    (huniq : ∀ i j e f, s.entryAt i = some e → s.entryAt j = some f → e.number = f.number → i = j) {k : NodeId}
    {p : NodeEntry → Prop} : (∃ e, s.nodeEntry k = some e ∧ p e) ↔ s.knows k p := by
  constructor
  · rintro ⟨e, he, hp⟩
    obtain ⟨i, -, hi, hk⟩ := exists_of_nodeEntry he
    exact ⟨i, e, hi, hk, hp⟩
  · rintro ⟨i, e, he, hk, hp⟩
    obtain ⟨f, hf⟩ := Option.ne_none_iff_exists'.mp (nodeEntry_ne_none.mpr ⟨i, e, he, hk, trivial⟩)
    obtain ⟨j, -, hj, hfk⟩ := exists_of_nodeEntry hf
    obtain rfl := huniq i j e f he hj (hk.trans hfk.symm)
    obtain rfl := Option.some.inj (he.symm.trans hj)
    exact ⟨e, hf, hp⟩

/-- Soundness of the table, said of the entries at their indices. -/
theorem nodesSound_iff (s : State) : NodesSound s ↔
    (∀ i j e f, s.entryAt i = some e → s.entryAt j = some f → e.number = f.number → i = j) ∧
    (∀ i e, s.entryAt i = some e → e.sound s.ownNode) ∧
    (∀ n r k, (s.st n).binding.get r = some k → s.knows k NodeEntry.mayBind) ∧
    (∀ n m r q k, (s.st n).binding.get r = some k → (s.st m).binding.get q = some k → n = m ∧ r = q) ∧
    (∀ n k, (s.st n).lockHolder = some k → s.knows k fun _ => True) := by
  unfold NodesSound
  refine and_congr_right fun huniq => and_congr Iff.rfl (and_congr ?_ (and_congr Iff.rfl ?_))
  · refine forall_congr' fun n => forall_congr' fun r => forall_congr' fun k => imp_congr_right fun _ => ?_
    exact nodeEntry_iff huniq (p := NodeEntry.mayBind)
  · exact forall_congr' fun n => forall_congr' fun k => imp_congr_right fun _ => nodeEntry_ne_none

theorem knows_of_entryAt {s t : State} {k : NodeId} {p : NodeEntry → Prop} (h : ∀ i, t.entryAt i = s.entryAt i) :
    t.knows k p ↔ s.knows k p := by
  simp [State.knows, h]

/-- Soundness reads the entries, the own number, the bindings and the lock holders. -/
theorem nodesSound_of_fields {s t : State} (hn : t.nodes = s.nodes) (ho : t.ownNode = s.ownNode)
    (hb : ∀ n, (t.st n).binding = (s.st n).binding) (hl : ∀ n, (t.st n).lockHolder = (s.st n).lockHolder)
    (hs : NodesSound s) : NodesSound t := by
  rw [nodesSound_iff] at hs ⊢
  simpa only [knows_of_entryAt (entryAt_of_nodes hn), entryAt_of_nodes hn, ho, hb, hl] using hs

theorem nodesSound_of_outline {s t : State} (h : t.outline = s.outline) (hs : NodesSound s) : NodesSound t :=
  nodesSound_of_fields (nodes_of h) (ownNode_of h) (binding_of h) (lockHolder_of h) hs

/-- Entries that change in place: each entry left is one that was, with its number, and one that is bound stays as it must
be; a lock that is left has its holder left. -/
theorem nodesSound_of_entries {s t : State} (hs : NodesSound s) (ho : t.ownNode = s.ownNode)
    (hb : ∀ n, (t.st n).binding = (s.st n).binding)
    (back : ∀ i e, t.entryAt i = some e → ∃ f, s.entryAt i = some f ∧ e.number = f.number ∧
      (e.origin = .learned → e.limit = 0 ∧ e.silent = false))
    (bound : ∀ i f n r, s.entryAt i = some f → f.mayBind → (s.st n).binding.get r = some f.number →
      ∃ e, t.entryAt i = some e ∧ e.number = f.number ∧ e.mayBind)
    (lock : ∀ n k, (t.st n).lockHolder = some k → (s.st n).lockHolder = some k ∧
      ∀ i f, s.entryAt i = some f → f.number = k → ∃ e, t.entryAt i = some e ∧ e.number = k) : NodesSound t := by
  rw [nodesSound_iff] at hs ⊢
  obtain ⟨huniq, hent, hbind, honce, hlock⟩ := hs
  refine ⟨fun i j e f he hf h => ?_, fun i e he => ?_, fun n r k h => ?_, ?_, fun n k h => ?_⟩
  · obtain ⟨e0, he0, hn, -⟩ := back i e he
    obtain ⟨f0, hf0, hm, -⟩ := back j f hf
    exact huniq i j e0 f0 he0 hf0 (by rw [← hn, ← hm, h])
  · obtain ⟨f, hf, hn, hl⟩ := back i e he
    obtain ⟨h1, h2, -⟩ := hent i f hf
    exact ⟨by rw [hn, ho]; exact h1, by rw [hn]; exact h2, hl⟩
  · rw [hb] at h
    obtain ⟨i, f, hf, rfl, hm⟩ := hbind n r k h
    obtain ⟨e, he, hen, hem⟩ := bound i f n r hf hm h
    exact ⟨i, e, he, hen, hem⟩
  · simpa only [hb] using honce
  · obtain ⟨h0, hkeep⟩ := lock n k h
    obtain ⟨i, f, hf, hk, -⟩ := hlock n k h0
    obtain ⟨e, he, hen⟩ := hkeep i f hf hk
    exact ⟨i, e, he, hen, trivial⟩

/-- One entry rewritten in place. -/
theorem nodesSound_setEntry_same {s : State} {i : Nat} {e f : NodeEntry} (hs : NodesSound s) (hf : s.entryAt i = some f)
    (hn : e.number = f.number) (hl : e.origin = .learned → e.limit = 0 ∧ e.silent = false)
    (hb : ∀ n r, (s.st n).binding.get r = some f.number → f.mayBind → e.mayBind) :
    NodesSound (s.setEntry i (some e)) := by
  have hi := entryAt_lt hf
  have own : ∀ j g, s.entryAt j = some g →
      (j = i ∧ g = f ∧ (s.setEntry i (some e)).entryAt j = some e) ∨ (s.setEntry i (some e)).entryAt j = some g := by
    intro j g hg
    by_cases hj : i = j
    · subst hj
      exact .inl ⟨rfl, Option.some.inj (hg.symm.trans hf), entryAt_setEntry_same hi⟩
    · exact .inr (by rw [entryAt_setEntry_ne hj]; exact hg)
  refine nodesSound_of_entries hs rfl (by simp) (fun j g hg => ?_) (fun j g n r hg hm hbd => ?_) (fun n k h => ?_)
  · by_cases hj : i = j
    · subst hj
      rw [entryAt_setEntry_same hi] at hg
      cases hg
      exact ⟨f, hf, hn, hl⟩
    · rw [entryAt_setEntry_ne hj] at hg
      obtain ⟨-, hent, -⟩ := (nodesSound_iff s).mp hs
      exact ⟨g, hg, rfl, (hent j g hg).2.2⟩
  · obtain ⟨rfl, rfl, h⟩ | h := own j g hg
    · exact ⟨e, h, hn, hb n r hbd hm⟩
    · exact ⟨g, h, rfl, hm⟩
  · refine ⟨by simpa using h, fun j g hg hk => ?_⟩
    obtain ⟨rfl, rfl, h⟩ | h := own j g hg
    · exact ⟨e, h, hn.trans hk⟩
    · exact ⟨g, h, hk⟩

theorem freeNode_spec {s : State} {i : Nat} (h : s.freeNode = some i) : i < 16 ∧ s.entryAt i = none := by
  obtain ⟨hi, hq, -⟩ := findIdx_nodes_eq_some.mp h
  exact ⟨hi, by simpa using hq⟩

/-- A new entry of a number that the table does not hold. -/
theorem nodesSound_setEntry_new {s : State} {i : Nat} {e : NodeEntry} (hs : NodesSound s) (hf : s.freeNode = some i)
    (hk : s.nodeIndex e.number = none) (he : e.sound s.ownNode) : NodesSound (s.setEntry i (some e)) := by
  obtain ⟨hi, hfree⟩ := freeNode_spec hf
  rw [nodeIndex_eq_none] at hk
  rw [nodesSound_iff] at hs ⊢
  obtain ⟨huniq, hent, hbind, honce, hlock⟩ := hs
  have at' : ∀ j g, (s.setEntry i (some e)).entryAt j = some g ↔ j = i ∧ g = e ∨ s.entryAt j = some g := by
    intro j g
    by_cases hj : i = j
    · subst hj
      simp [entryAt_setEntry_same hi, hfree, eq_comm]
    · simp [entryAt_setEntry_ne hj, Ne.symm hj]
  have old : ∀ k p, s.knows k p → (s.setEntry i (some e)).knows k p := by
    rintro k p ⟨j, g, hg, h⟩
    exact ⟨j, g, (at' j g).mpr (.inr hg), h⟩
  refine ⟨fun j l g h hg hh hn => ?_, fun j g hg => ?_, fun n r k h => ?_, by simpa using honce, fun n k h => ?_⟩
  · rw [at'] at hg hh
    obtain ⟨rfl, rfl⟩ | hg := hg <;> obtain ⟨rfl, rfl⟩ | hh := hh
    · rfl
    · exact absurd ⟨l, h, hh, hn.symm, trivial⟩ hk
    · exact absurd ⟨j, g, hg, hn, trivial⟩ hk
    · exact huniq j l g h hg hh hn
  · obtain ⟨rfl, rfl⟩ | hg := (at' j g).mp hg
    · exact he
    · exact hent j g hg
  · exact old k _ (hbind n r k (by simpa using h))
  · exact old k _ (hlock n k (by simpa using h))

/-- A bound number is that of a STATIC entry, so a LEARNED one is not bound. -/
theorem not_bound_of_learned {s : State} (hs : NodesSound s) {i : Nat} {e : NodeEntry} (he : s.entryAt i = some e)
    (hl : e.origin = .learned) (n : StationId) (r : Role) : (s.st n).binding.get r ≠ some e.number := by
  intro hb
  obtain ⟨huniq, -, hbind, -⟩ := (nodesSound_iff s).mp hs
  obtain ⟨j, f, hf, hk, hst, -⟩ := hbind n r _ hb
  obtain rfl := huniq j i f e hf he hk
  obtain rfl := Option.some.inj (hf.symm.trans he)
  rw [hl] at hst
  cases hst

/-- Entries whose numbers are not bound are removed with the locks of their nodes. -/
theorem nodesSound_removeWhere {s : State} {p : NodeEntry → Bool} (hs : NodesSound s) (ho : (removeWhere p s).ownNode = s.ownNode)
    (hp : ∀ i e n r, s.entryAt i = some e → (s.st n).binding.get r = some e.number → p e = false) :
    NodesSound (removeWhere p s) := by
  obtain ⟨huniq, hent, -⟩ := (nodesSound_iff s).mp hs
  refine nodesSound_of_entries hs ho (fun n => by rw [removeWhere_st, freeLocks_binding]) (fun i e he => ?_)
    (fun i f n r hf hm hb => ?_) (fun n k h => ?_)
  · rw [removeWhere_entryAt, Option.filter_eq_some_iff] at he
    exact ⟨e, he.1, rfl, (hent i e he.1).2.2⟩
  · exact ⟨f, by rw [removeWhere_entryAt, hf, Option.filter_some, hp i f n r hf hb]; rfl, rfl, hm⟩
  · rw [removeWhere_st, freeLocks_lockHolder, Option.filter_eq_some_iff] at h
    obtain ⟨h0, hgone⟩ := h
    refine ⟨h0, fun i f hf hk => ⟨f, ?_, hk⟩⟩
    have hne : p f = false := by
      by_contra hpf
      simp only [Bool.not_eq_true', Bool.eq_false_iff, ne_eq] at hgone
      exact hgone (any_accepted_iff.mpr ⟨i, f, hf, hk, by simpa using hpf⟩)
    rw [removeWhere_entryAt, hf, Option.filter_some, hne]
    rfl

theorem removeEntry_entryAt {s : State} {i : Nat} {e : NodeEntry} (he : s.entryAt i = some e) (j : Nat) :
    (removeEntry i s).entryAt j = if j = i then none else s.entryAt j := by
  rw [removeEntry_of_some he, entryAt_of_nodes (s := s.setEntry i none) (by simp), entryAt_setEntry_none]

theorem removeEntry_lockHolder {s : State} {i : Nat} {e : NodeEntry} (he : s.entryAt i = some e) (n : StationId) :
    ((removeEntry i s).st n).lockHolder = (s.st n).lockHolder.filter (fun k => !(k == e.number)) := by
  rw [removeEntry_of_some he, show freeLock e.number = freeLocks (· == e.number) from funext (freeLock_eq_freeLocks _)]
  cases n with
  | zero => rw [st_modSt_ne (by decide), st_modSt, setEntry_st, freeLocks_lockHolder]
  | one => rw [st_modSt, st_modSt_ne (by decide), setEntry_st, freeLocks_lockHolder]

@[simp] theorem removeEntry_st_binding (i : Nat) (s : State) (n : StationId) :
    ((removeEntry i s).st n).binding = (s.st n).binding := by
  cases he : s.entryAt i with
  | none => simp [removeEntry, he]
  | some e =>
    rw [removeEntry_of_some he, show freeLock e.number = freeLocks (· == e.number) from funext (freeLock_eq_freeLocks _)]
    cases n with
    | zero => rw [st_modSt_ne (by decide), st_modSt, setEntry_st, freeLocks_binding]
    | one => rw [st_modSt, st_modSt_ne (by decide), setEntry_st, freeLocks_binding]

@[simp] theorem removeEntry_ownNode (i : Nat) (s : State) : (removeEntry i s).ownNode = s.ownNode := by
  unfold removeEntry; split
  · simp [releaseLocks]
  · rfl

/-- One entry whose number is not bound is removed with the locks of its node. -/
theorem nodesSound_removeEntry {s : State} {i : Nat} {e : NodeEntry} (hs : NodesSound s) (he : s.entryAt i = some e)
    (hb : ∀ n r, (s.st n).binding.get r ≠ some e.number) : NodesSound (removeEntry i s) := by
  obtain ⟨huniq, hent, -⟩ := (nodesSound_iff s).mp hs
  have kept : ∀ j f, s.entryAt j = some f → f.number ≠ e.number → (removeEntry i s).entryAt j = some f := by
    intro j f hf hne
    have hj : j ≠ i := by
      rintro rfl
      exact hne (congrArg _ (Option.some.inj (hf.symm.trans he)))
    rw [removeEntry_entryAt he, if_neg hj, hf]
  refine nodesSound_of_entries hs (by simp) (by simp) (fun j f hf => ?_) (fun j f n r hf hm hbd => ?_) (fun n k h => ?_)
  · rw [removeEntry_entryAt he] at hf
    split at hf
    · cases hf
    · exact ⟨f, hf, rfl, (hent j f hf).2.2⟩
  · exact ⟨f, kept j f hf (fun h => hb n r (h ▸ hbd)), rfl, hm⟩
  · rw [removeEntry_lockHolder he, Option.filter_eq_some_iff] at h
    obtain ⟨h0, hne⟩ := h
    exact ⟨h0, fun j f hf hk => ⟨f, kept j f hf (by simpa [hk] using hne), hk⟩⟩

/-- Ages alone move in a millisecond (R138). -/
theorem passMs_entryAt (s : State) (i : Nat) : (passMs s).entryAt i = s.entryAt i ∨
    (passMs s).entryAt i = olderEntry (s.entryAt i) := by
  rcases Nat.lt_or_ge i 16 with hi | hi
  · rw [entryAt_of_lt hi, entryAt_of_lt hi]
    simp only [passMs]
    split
    · exact .inl rfl
    · exact .inr (by simp)
  · exact .inl (by rw [entryAt_of_le hi, entryAt_of_le hi])

theorem nodesSound_passMs {s : State} (hs : NodesSound s) : NodesSound (passMs s) := by
  obtain ⟨huniq, hent, -⟩ := (nodesSound_iff s).mp hs
  refine nodesSound_of_entries hs rfl (fun n => by cases n <;> rfl) (fun i e he => ?_) (fun i f n r hf hm _ => ?_)
    (fun n k h => ⟨by cases n <;> exact h, fun i f hf hk => ?_⟩)
  · obtain h | h := passMs_entryAt s i
    · exact ⟨e, h ▸ he, rfl, (hent i e (h ▸ he)).2.2⟩
    · rw [h] at he
      obtain ⟨f, hf, rfl⟩ := Option.map_eq_some_iff.mp he
      exact ⟨f, hf, rfl, (hent i f hf).2.2⟩
  · obtain h | h := passMs_entryAt s i
    · exact ⟨f, h.trans hf, rfl, hm⟩
    · exact ⟨_, h.trans (congrArg olderEntry hf), rfl, hm⟩
  · obtain h | h := passMs_entryAt s i
    · exact ⟨f, h.trans hf, hk⟩
    · exact ⟨_, h.trans (congrArg olderEntry hf), hk⟩

theorem nodesSound_sketch {s t : State} (hs : NodesSound s) (h : Sketch s t) : NodesSound t := by
  have entries := ((nodesSound_iff s).mp hs).2.1
  cases h with
  | work h => exact nodesSound_of_outline h hs
  | port p q _ _ h =>
    exact nodesSound_of_outline h (nodesSound_of_fields (by cases p <;> rfl) (by cases p <;> rfl) (by simp) (by simp) hs)
  | pending l | requests l => exact nodesSound_of_fields rfl rfl (fun n => by cases n <;> rfl) (fun n => by cases n <;> rfl) hs
  | passMs => exact nodesSound_passMs hs
  | reportTimer n =>
    exact nodesSound_of_fields (by simp) (by simp) (fun m => by cases n <;> cases m <;> rfl)
      (fun m => by cases n <;> cases m <;> rfl) hs
  | removeLearned i e he hl => exact nodesSound_removeEntry hs he (not_bound_of_learned hs he hl)
  | silenced i e he ho h =>
    exact nodesSound_of_outline h (nodesSound_setEntry_same hs he rfl (fun hl => by rw [ho] at hl; cases hl)
      fun n r _ hm => hm)
  | heard i e he h =>
    exact nodesSound_of_outline h (nodesSound_setEntry_same hs he rfl
      (fun hl => ⟨((entries i e he).2.2 hl).1, rfl⟩) fun n r _ hm => hm)
  | learn p i k hi hr hk ho h31 => exact nodesSound_setEntry_new hs hi hk ⟨ho, h31, fun _ => ⟨rfl, rfl⟩⟩
  | moveLearned p i k e hi he hl hp hr =>
    have hk := (nodeIndex_number hi he).2
    exact nodesSound_setEntry_same hs he hk.symm (fun _ => ⟨rfl, rfl⟩)
      fun n r hb _ => absurd hb (not_bound_of_learned hs he hl n r)

theorem not_bound_of_boundAs {s : State} {k : NodeId} (h : s.boundAs k = none) (n : StationId) (r : Role) :
    (s.st n).binding.get r ≠ some k := by
  have free : ∀ b : Binding, roleOf b k = none → b.get r ≠ some k := by
    intro b hb
    have := List.find?_eq_none.mp hb r (by cases r <;> decide)
    simpa using this
  unfold State.boundAs at h
  split at h
  · cases h
  · next h0 =>
    have h1 : roleOf s.station1.binding k = none := by simpa using h
    cases n
    · exact free _ h0
    · exact free _ h1

/-- NODE_WRITE keeps the table sound: a bound number keeps its port, and a new one was free (R142). -/
theorem nodesSound_nodeWrite {s : State} {k : NodeId} {p : Port} {limit : Nat} (hs : NodesSound s) (h31 : k ≠ 31)
    (ho : k ≠ s.ownNode) : NodesSound (nodeWrite k p limit s).1 := by
  obtain h | ⟨i, e, hi, he, hb, h⟩ | ⟨i, hi, hf, h⟩ := nodeWrite_cases k p limit s
  · rwa [h]
  · rw [h]
    refine nodesSound_of_outline (writeEntry_outline ..) (nodesSound_setEntry_same hs he rfl
      (fun hl => by cases hl) fun n r hbd hm => ⟨rfl, ?_⟩)
    have hp : e.port = p := by
      obtain hn | hp := hb
      · rw [(nodeIndex_number hi he).2] at hbd
        exact absurd hbd (not_bound_of_boundAs hn n r)
      · exact hp
    exact hp ▸ hm.2
  · rw [h]
    exact nodesSound_of_outline (writeEntry_outline ..)
      (nodesSound_setEntry_new hs hf hi ⟨ho, h31, fun hl => by cases hl⟩)

/-! ### A new binding (R17) -/

/-- The roles pass the third check of STATION_BIND one after another (R17). -/
theorem firstFailing_eq_none {s : State} {n : StationId} (i : Nat) (earlier : List RoleArg) (a : RoleArg)
    (rest : List RoleArg) : s.firstFailing n i earlier (a :: rest) = none ↔
      s.roleFails n earlier a = false ∧ s.firstFailing n (i + 1) (earlier ++ [a]) rest = none := by
  simp only [State.firstFailing]
  cases s.roleFails n earlier a <;> simp

/-- A role that passes is none, or names a node that may be bound, that no earlier role names and the other station does not
bind. -/
theorem roleFails_eq_false {s : State} {n : StationId} {earlier : List RoleArg} {a : RoleArg} {k : NodeId}
    (h : s.roleFails n earlier a = false) (hk : a.toNode = some k) :
    s.bindable k = true ∧ RoleArg.node k ∉ earlier ∧ roleOf (s.st (otherStation n)).binding k = none := by
  cases a with
  | none => cases hk
  | bad => cases hk
  | node k' =>
    cases hk
    simpa [State.roleFails, and_assoc] using h

/-- The role values of a STATION_BIND by their role. -/
def roleArgs (d h w t l : RoleArg) : Role → RoleArg
  | .drive => d
  | .heater => h
  | .weigh => w
  | .thermo => t
  | .lid => l

theorem toNode_eq_some {a : RoleArg} {k : NodeId} (h : a.toNode = some k) : a = .node k := by
  cases a <;> simp_all [RoleArg.toNode]

/-- The checks of STATION_BIND, said of the binding it makes (R17). -/
theorem newBinding_spec {s : State} {n : StationId} {d h w t l : RoleArg}
    (hr : s.firstFailing n 0 [] [d, h, w, t, l] = none) {b : Binding}
    (hb : b = ⟨d.toNode, h.toNode, w.toNode, t.toNode, l.toNode⟩) :
    (∀ r k, b.get r = some k → s.bindable k = true ∧ roleOf (s.st (otherStation n)).binding k = none) ∧
    (∀ r q k, b.get r = some k → b.get q = some k → r = q) := by
  simp only [firstFailing_eq_none, List.nil_append, List.cons_append] at hr
  obtain ⟨h0, h1, h2, h3, h4, -⟩ := hr
  have get : ∀ r, b.get r = (roleArgs d h w t l r).toNode := by
    subst hb
    intro r
    cases r <;> rfl
  have spec : ∀ r k, b.get r = some k →
      s.bindable k = true ∧ roleOf (s.st (otherStation n)).binding k = none := by
    intro r k hk
    rw [get] at hk
    cases r
    · exact ⟨(roleFails_eq_false h0 hk).1, (roleFails_eq_false h0 hk).2.2⟩
    · exact ⟨(roleFails_eq_false h1 hk).1, (roleFails_eq_false h1 hk).2.2⟩
    · exact ⟨(roleFails_eq_false h2 hk).1, (roleFails_eq_false h2 hk).2.2⟩
    · exact ⟨(roleFails_eq_false h3 hk).1, (roleFails_eq_false h3 hk).2.2⟩
    · exact ⟨(roleFails_eq_false h4 hk).1, (roleFails_eq_false h4 hk).2.2⟩
  have later : ∀ r q k, roleNo r < roleNo q → b.get r = some k → b.get q = some k → False := by
    intro r q k hlt hk hq
    rw [get] at hk hq
    have hkr := toNode_eq_some hk
    cases q
    · cases r <;> simp [roleNo] at hlt
    · have := (roleFails_eq_false h1 hq).2.1
      cases r <;> simp_all [roleNo, roleArgs]
    · have := (roleFails_eq_false h2 hq).2.1
      cases r <;> simp_all [roleNo, roleArgs]
    · have := (roleFails_eq_false h3 hq).2.1
      cases r <;> simp_all [roleNo, roleArgs]
    · have := (roleFails_eq_false h4 hq).2.1
      cases r <;> simp_all [roleNo, roleArgs]
  refine ⟨spec, fun r q k hk hq => ?_⟩
  obtain hlt | heq | hgt := Nat.lt_trichotomy (roleNo r) (roleNo q)
  · exact (later r q k hlt hk hq).elim
  · cases r <;> cases q <;> simp_all [roleNo]
  · exact (later q r k hgt hq hk).elim

theorem roleOf_eq_none_iff {b : Binding} {k : NodeId} : roleOf b k = none ↔ ∀ r, b.get r ≠ some k := by
  refine ⟨fun h r => ?_, roleOf_eq_none⟩
  simpa using List.find?_eq_none.mp h r (by cases r <;> decide)

theorem bindable_iff {s : State} {k : NodeId} : s.bindable k = true ↔ ∃ e, s.nodeEntry k = some e ∧ e.mayBind := by
  unfold State.bindable NodeEntry.mayBind
  cases h : s.nodeEntry k <;> simp

theorem nodesSound_bind {s : State} {n : StationId} {d h w t l : RoleArg} (hs : NodesSound s)
    (hr : s.firstFailing n 0 [] [d, h, w, t, l] = none) :
    NodesSound (bindStation n ⟨d.toNode, h.toNode, w.toNode, t.toNode, l.toNode⟩ s) := by
  obtain ⟨hspec, hdist⟩ := newBinding_spec hr rfl
  refine nodesSound_of_outline (bindStation_outline ..) ?_
  generalize (⟨d.toNode, h.toNode, w.toNode, t.toNode, l.toNode⟩ : Binding) = b at hspec hdist ⊢
  obtain ⟨huniq, hent, hbind, honce, hlock⟩ := hs
  have hnodes : ∀ k, (s.modSt n (fun st => { st with binding := b })).nodeEntry k = s.nodeEntry k := by
    intro k
    cases n <;> rfl
  have at' : ∀ i, (s.modSt n (fun st => { st with binding := b })).entryAt i = s.entryAt i :=
    entryAt_of_nodes (by simp)
  have same : ((s.modSt n (fun st => { st with binding := b })).st n).binding = b := by simp
  have other : ∀ m, m ≠ n → (s.modSt n (fun st => { st with binding := b })).st m = s.st m := fun m => st_modSt_ne
  refine ⟨by simpa only [at'] using huniq, by simpa only [at', modSt_ownNode] using hent, fun m r k hk => ?_,
    fun m m' r q k hk hq => ?_, fun m k hk => ?_⟩
  · rw [hnodes]
    by_cases hm : m = n
    · subst hm
      rw [same] at hk
      exact bindable_iff.mp (hspec r k hk).1
    · rw [other m hm] at hk
      exact hbind m r k hk
  · have cross : ∀ m r q k, m ≠ n → b.get r = some k → (s.st m).binding.get q = some k → False := by
      intro m r q k hm hk hq
      obtain rfl := eq_otherStation_of_ne hm
      exact roleOf_eq_none_iff.mp (hspec r k hk).2 q hq
    by_cases hm : m = n <;> by_cases hm' : m' = n
    · subst hm hm'
      rw [same] at hk hq
      exact ⟨rfl, hdist r q k hk hq⟩
    · subst hm
      rw [same] at hk
      rw [other m' hm'] at hq
      exact (cross m' r q k hm' hk hq).elim
    · subst hm'
      rw [same] at hq
      rw [other m hm] at hk
      exact (cross m q r k hm hq hk).elim
    · rw [other m hm] at hk
      rw [other m' hm'] at hq
      exact honce m m' r q k hk hq
  · rw [hnodes]
    refine hlock m k ?_
    by_cases hm : m = n
    · subst hm; simpa using hk
    · rwa [other m hm] at hk

end Sys2Proof.Machine

namespace Sys2Proof.Machine

open Sys2Proof

/-! ### The invariants of the node table and of the tables in use -/

@[simp] theorem removeWhere_ownNode (p : NodeEntry → Bool) (s : State) : (removeWhere p s).ownNode = s.ownNode := by
  have one : ∀ i t, (removeIf p i t).ownNode = t.ownNode := by
    intro i t
    obtain ⟨e, -, -, h⟩ | ⟨-, h⟩ := removeIf_cases p i t <;> simp [h]
  rw [removeWhere_eq_removeBelow]
  generalize 16 = m
  induction m with
  | zero => rfl
  | succ m ih => rw [removeBelow, one, ih]

/-- The removal of LEARNED entries touches no bound node. -/
theorem nodesSound_removeLearned {s : State} {p : NodeEntry → Bool} (hs : NodesSound s)
    (hp : ∀ e, p e = true → e.origin = .learned) : NodesSound (removeWhere p s) :=
  nodesSound_removeWhere hs (by simp) fun i e n r he hb => by
    by_contra h
    exact not_bound_of_learned hs he (hp e (by simpa using h)) n r hb

theorem applyPortItem_nodes {s : State} {p : Port} {id v : Nat} (hs : NodesSound s) :
    NodesSound (applyPortItem p id v s) := by
  have hcfg : NodesSound (s.modPort p (fun q => { q with cfg := setPortItem q.cfg id v })) :=
    nodesSound_of_fields (by simp) (by simp) (by simp) (by simp) hs
  unfold applyPortItem
  split
  · exact nodesSound_removeLearned (s := { s with ageLimit := v })
      (nodesSound_of_fields rfl rfl (fun n => by cases n <;> rfl) (fun n => by cases n <;> rfl) hs)
      fun e h => by simp_all [NodeEntry.tooOld]
  · dsimp only
    split
    · exact nodesSound_of_outline (updateDropMode_outline ..) hcfg
    · split
      · unfold recoverIfMet; split
        · exact nodesSound_sketch hcfg (recover_sketch _ p)
        · exact hcfg
      · exact hcfg

/-- A change of one station that keeps its binding, and leaves a lock it had or a known holder. -/
theorem nodesSound_modSt {s : State} {n : StationId} {f : Station → Station} (hs : NodesSound s)
    (hb : (f (s.st n)).binding = (s.st n).binding)
    (hl : ∀ k, (f (s.st n)).lockHolder = some k → (s.st n).lockHolder = some k ∨ s.nodeIndex k ≠ none) :
    NodesSound (s.modSt n f) := by
  rw [nodesSound_iff] at hs ⊢
  obtain ⟨huniq, hent, hbind, honce, hlock⟩ := hs
  have hb' : ∀ m, ((s.modSt n f).st m).binding = (s.st m).binding := by
    intro m
    by_cases hm : m = n
    · subst hm; rw [st_modSt, hb]
    · rw [st_modSt_ne hm]
  simp only [knows_of_entryAt (entryAt_of_nodes (modSt_nodes s n f)), entryAt_of_nodes (modSt_nodes s n f), hb',
    modSt_ownNode]
  refine ⟨huniq, hent, hbind, honce, fun m k h => ?_⟩
  by_cases hm : m = n
  · subst hm
    rw [st_modSt] at h
    obtain h | h := hl k h
    · exact hlock m k h
    · exact not_not.mp (mt nodeIndex_eq_none.mpr h)
  · rw [st_modSt_ne hm] at h
    exact hlock m k h

theorem nodesSound_effect {s u : State} (hs : NodesSound s) (h : Effect s u) : NodesSound u := by
  cases h with
  | lock n q hq => exact nodesSound_modSt hs rfl fun k hk => .inr (by cases hk; exact hq)
  | unlock n => exact nodesSound_modSt hs rfl fun k hk => by cases hk
  | storeStep | recipeLength | recipeClear | heatItem | reportInterval | zeroStation =>
    exact nodesSound_modSt hs rfl fun k hk => .inl hk
  | bind n d h w t l hi hr => exact nodesSound_bind hs hr
  | limit => exact nodesSound_of_outline (applyLimit_outline ..) (nodesSound_modSt hs rfl fun k hk => .inl hk)
  | weighItem => exact nodesSound_of_outline (applyWeighItem_outline ..) hs
  | zeroPort p first count => exact nodesSound_of_fields (by simp) (by simp) (by simp) (by simp) hs
  | portItem => exact applyPortItem_nodes hs
  | restartPort p => exact nodesSound_sketch hs (restartPort_sketch s p)
  | nodeWrite k p limit h31 ho => exact nodesSound_nodeWrite hs h31 ho
  | removeNode k i hi hb =>
    obtain ⟨e, he⟩ := Option.ne_none_iff_exists'.mp (entryAt_ne_none_of_nodeIndex hi)
    obtain rfl := (nodeIndex_number hi he).2
    exact nodesSound_removeEntry hs he (not_bound_of_boundAs hb)
  | flushNodes => exact nodesSound_removeLearned hs fun e h => (isLearned_iff e).mp h
  | snapshot | clearNotices | route | routeDefault =>
    exact nodesSound_of_fields rfl rfl (fun n => by cases n <;> rfl) (fun n => by cases n <;> rfl) hs
  | _ => exact nodesSound_of_outline (by simp) hs

theorem nodesSound_blank (own : NodeId) : NodesSound (State.blank own) := by
  have empty : ∀ i, (State.blank own).entryAt i = none := by
    intro i
    rcases Nat.lt_or_ge i 16 with hi | hi
    · rw [entryAt_of_lt hi]
      exact Vector.getElem_replicate ..
    · exact entryAt_of_le hi
  rw [nodesSound_iff]
  simp only [empty]
  refine ⟨fun _ _ _ _ h => (by cases h), fun _ _ h => (by cases h), fun n r k h => ?_, fun n _ r _ k h => ?_, fun n k h => ?_⟩
  · cases n <;> cases r <;> cases h
  · cases n <;> cases r <;> cases h
  · cases n <;> cases h

/-- A STATIC entry stays through a RESTART that keeps the table, a LEARNED one goes, and no lock is held (R132, R193). -/
theorem nodesSound_keptState {s : State} (hs : NodesSound s) : NodesSound (keptState s) := by
  have at' : ∀ i, (keptState s).entryAt i = keptEntry (s.entryAt i) := by
    intro i
    rcases Nat.lt_or_ge i 16 with hi | hi
    · rw [entryAt_of_lt hi, entryAt_of_lt hi]
      exact Vector.getElem_map ..
    · rw [entryAt_of_le hi, entryAt_of_le hi]
      rfl
  refine nodesSound_of_entries hs rfl (fun n => by cases n <;> rfl) (fun i e he => ?_) (fun i f n r hf hm _ => ?_)
    (fun n k h => by cases n <;> cases h)
  · rw [at'] at he
    cases hf : s.entryAt i with
    | none => rw [hf] at he; cases he
    | some f =>
      rw [hf] at he
      unfold keptEntry at he
      split at he
      · next g hg =>
        cases hg
        split at he
        · next ho =>
          cases he
          refine ⟨_, rfl, rfl, fun hl => ?_⟩
          rw [ho] at hl
          cases hl
        · cases he
      · cases he
  · exact ⟨{ f with age := 0, silent := false }, by rw [at', hf]; simp [keptEntry, hm.1], rfl, hm⟩

theorem nodesSound_reset {s t : State} (hs : NodesSound s) (h : Reset s t) : NodesSound t := by
  cases h with
  | kept => exact nodesSound_of_outline (setNotice_outline ..) (nodesSound_keptState hs)
  | powerOn own l =>
    exact nodesSound_of_fields rfl rfl (fun n => by cases n <;> rfl) (fun n => by cases n <;> rfl) (nodesSound_blank own)
  | asserted =>
    exact nodesSound_of_fields rfl rfl (fun n => by cases n <;> rfl) (fun n => by cases n <;> rfl) (nodesSound_blank 27)

/-- Settles O53: entries change in place, come for a number that had none, or go where no role binds them. -/
theorem stepKeepsNodes : Obligations.StepKeepsNodes :=
  step_keeps (fun _ _ hs h => nodesSound_sketch hs (move_sketch h)) (fun _ _ => nodesSound_effect)
    (fun _ u r a _ _ _ hu => nodesSound_of_fields (s := sendReply r a u) rfl rfl (by simp) (by simp)
      (nodesSound_of_outline (sendReply_outline ..) hu))
    (fun _ _ => nodesSound_reset)

/-! ### The tables of a station that is not IDLE (R8, R17, R19, R23, R88) -/

/-- What no event changes and no request but at an IDLE station: recipe, binding, limits and heat configuration. -/
def Station.sameTables (a b : Station) : Prop :=
  a.steps = b.steps ∧ a.recipeLength = b.recipeLength ∧ a.binding = b.binding ∧ a.limits = b.limits ∧
    a.heatCfg = b.heatCfg

theorem Station.sameTables.trans {a b c : Station} (h : a.sameTables b) (g : b.sameTables c) : a.sameTables c := by
  obtain ⟨h1, h2, h3, h4, h5⟩ := h
  obtain ⟨g1, g2, g3, g4, g5⟩ := g
  exact ⟨h1.trans g1, h2.trans g2, h3.trans g3, h4.trans g4, h5.trans g5⟩

theorem Station.sameTables.refl (a : Station) : a.sameTables a := ⟨rfl, rfl, rfl, rfl, rfl⟩

theorem sameTables_of_eq {a b : Station} (h : a = b) : a.sameTables b := h ▸ .refl a

theorem sameTables_of_outline {s t : State} (h : t.outline = s.outline) (n : StationId) :
    (t.st n).sameTables (s.st n) :=
  ⟨steps_of h n, recipeLength_of h n, binding_of h n, limits_of h n, heatCfg_of h n⟩

theorem sameTables_freeLocks (gone : NodeId → Bool) (st : Station) : (freeLocks gone st).sameTables st := by
  unfold freeLocks; split <;> exact ⟨rfl, rfl, rfl, rfl, rfl⟩

theorem sameTables_removeEntry (i : Nat) (s : State) (n : StationId) : ((removeEntry i s).st n).sameTables (s.st n) := by
  cases he : s.entryAt i with
  | none => simp [removeEntry, he, Station.sameTables.refl]
  | some e =>
    rw [removeEntry_of_some he, show freeLock e.number = freeLocks (· == e.number) from funext (freeLock_eq_freeLocks _)]
    cases n with
    | zero => rw [st_modSt_ne (by decide), st_modSt, setEntry_st]; exact sameTables_freeLocks ..
    | one => rw [st_modSt, st_modSt_ne (by decide), setEntry_st]; exact sameTables_freeLocks ..

/-- A change of one station that keeps its tables. -/
theorem sameTables_modSt {s : State} {n : StationId} {f : Station → Station} (hf : (f (s.st n)).sameTables (s.st n))
    (m : StationId) : ((s.modSt n f).st m).sameTables (s.st m) := by
  by_cases hm : m = n
  · subst hm; rwa [st_modSt]
  · rw [st_modSt_ne hm]; exact .refl _

theorem sameTables_sketch {s t : State} (h : Sketch s t) (n : StationId) : (t.st n).sameTables (s.st n) := by
  cases h with
  | work h => exact sameTables_of_outline h n
  | port p q _ _ h => exact (sameTables_of_outline h n).trans (sameTables_of_eq (by simp))
  | pending | requests | passMs => cases n <;> exact ⟨rfl, rfl, rfl, rfl, rfl⟩
  | reportTimer m => exact sameTables_modSt (.refl _) n
  | removeLearned i => exact sameTables_removeEntry i s n
  | silenced i e _ _ h => exact (sameTables_of_outline h n).trans (sameTables_of_eq (by simp))
  | heard i e _ h => exact (sameTables_of_outline h n).trans (sameTables_of_eq (by simp))
  | learn | moveLearned => exact sameTables_of_eq (by simp)

theorem sameTables_moves {s t : State} (h : Moves s t) (n : StationId) : (t.st n).sameTables (s.st n) := by
  induction h with
  | refl => exact .refl _
  | tail _ m ih => exact (sameTables_sketch (move_sketch m) n).trans ih

theorem sameTables_removeWhere (p : NodeEntry → Bool) (s : State) (n : StationId) :
    ((removeWhere p s).st n).sameTables (s.st n) := by
  rw [removeWhere_st]
  exact sameTables_freeLocks ..

theorem sameTables_applyPortItem (p : Port) (id v : Nat) (s : State) (n : StationId) :
    ((applyPortItem p id v s).st n).sameTables (s.st n) := by
  have hcfg : ((s.modPort p (fun q => { q with cfg := setPortItem q.cfg id v })).st n).sameTables (s.st n) :=
    sameTables_of_eq (by simp)
  unfold applyPortItem
  split
  · exact (sameTables_removeWhere _ _ n).trans (by cases n <;> exact .refl _)
  · dsimp only
    split
    · exact (sameTables_of_outline (updateDropMode_outline ..) n).trans hcfg
    · split
      · unfold recoverIfMet; split
        · exact (sameTables_sketch (recover_sketch _ p) n).trans hcfg
        · exact hcfg
      · exact hcfg

/-- A station other than the one that a table edit is for, and a station that is not IDLE, keeps its tables. -/
theorem sameTables_effect {s u : State} {n : StationId} (hn : (s.st n).run.state ≠ .idle) (h : Effect s u) :
    (u.st n).sameTables (s.st n) := by
  have other : ∀ {m : StationId} {f : Station → Station}, (s.st m).run.state = .idle →
      ((s.modSt m f).st n).sameTables (s.st n) := by
    intro m f hm
    refine sameTables_of_eq (st_modSt_ne ?_)
    rintro rfl
    exact hn hm
  cases h with
  | storeStep m i r hi => exact other hi
  | recipeLength m _ hi => exact other hi
  | recipeClear m hi => exact other hi
  | heatItem m _ _ hi => exact other hi
  | bind m _ _ _ _ _ hi => exact (sameTables_of_outline (bindStation_outline ..) n).trans (other hi)
  | limit m _ _ hi => exact (sameTables_of_outline (applyLimit_outline ..) n).trans (other hi)
  | lock | unlock | reportInterval | zeroStation => exact sameTables_modSt ⟨rfl, rfl, rfl, rfl, rfl⟩ n
  | weighItem => exact sameTables_of_outline (applyWeighItem_outline ..) n
  | zeroPort => exact sameTables_of_eq (by simp)
  | portItem => exact sameTables_applyPortItem ..
  | restartPort p => exact sameTables_sketch (restartPort_sketch s p) n
  | nodeWrite k p limit =>
    obtain h | ⟨i, e, -, -, -, h⟩ | ⟨i, -, -, h⟩ := nodeWrite_cases k p limit s
    · rw [h]; exact .refl _
    all_goals
      rw [h]
      exact (sameTables_of_outline (writeEntry_outline ..) n).trans (sameTables_of_eq (by simp))
  | removeNode => exact sameTables_removeEntry ..
  | flushNodes => exact sameTables_removeWhere ..
  | snapshot | clearNotices | route | routeDefault => cases n <;> exact .refl _
  | _ => exact sameTables_of_outline (by simp) n

/-- Settles O59: events never change the tables, and a request that does so has checked that its station is IDLE. -/
theorem tablesFrozenWhileRunning : Obligations.TablesFrozenWhileRunning := by
  intro s t n hn hc h
  change (t.st n).sameTables (s.st n)
  obtain hm | ⟨c, l, hp, ho⟩ := step_outcome h
  · exact sameTables_moves hm n
  · have hl : ∀ q, ((({ s with pending := l, requests := q } : State)).st n) = s.st n := fun q => by cases n <;> rfl
    have hl' : (({ s with pending := l } : State).st n) = s.st n := by cases n <;> rfl
    obtain ⟨hm, -⟩ | ⟨r, a, q, u, -, he⟩ | ⟨hr, -⟩ := ho
    · exact hl' ▸ sameTables_moves hm n
    · rw [leaveQueue_st, sendReply_st, ← hl q]
      exact sameTables_effect (by rwa [hl q]) he
    · obtain ⟨h1, h2, h3⟩ := hc c (by rw [hp]; rfl)
      cases c with
      | powerOnReset x => exact absurd rfl (h2 x)
      | resetAsserted => exact absurd rfl h1
      | restart q tag args => exact absurd rfl (h3 q tag args)
      | _ => cases hr

end Sys2Proof.Machine

/-! PROOFS. The work of the part as a chain of small updates: whatever a report, a timer or a request makes the stations, the
arbiter and the ports do changes fields that hold no frame and no power, moves or drops frames, sends one of the part's own or
divides the power. What is said of these updates holds of every operation. -/

namespace Sys2Proof.Machine

open Sys2Proof

/-- A port `r` with no frame that the port `q` does not hold in its place, and ISOLATED only where `q` is or where `r` is
empty. -/
def PortState.shrinks (q r : PortState) : Prop :=
  (∀ c, (r.queue c).Sublist (q.queue c)) ∧ r.engine.Sublist q.engine ∧
    (r.health = .isolated → q.health = .isolated ∨ r.entries = [])

/-- The states that work leads to from `s`: what the ports hold and what the arbiter divides change by these updates alone. -/
inductive Work (s : State) : State → Prop
  | refl : Work s s
  | aside {u t : State} (h : Work s u) (hc : t.control = u.control) (ha : t.appliance = u.appliance)
      (hb : t.arbiter = u.arbiter) : Work s t
  | shrink {u : State} (p : Port) (f : PortState → PortState) (hf : (u.port p).shrinks (f (u.port p))) (h : Work s u) :
      Work s (u.modPort p f)
  | originate {u : State} (k : OwnKind) (dest : NodeId) (payload : List Byte) (hk : k.coalesced = true) (h : Work s u) :
      Work s (originate k dest payload u)
  | stepReport {u : State} (n : StationId) (r : StepReport) (h : Work s u) : Work s (originateStepReport n r u)
  | enqueue {u : State} (p : Port) (c : QClass) (f : Frame) (hr : u.held .control + u.held .appliance < 48) (h : Work s u) :
      Work s (enqueueTransit p c f u)
  | offer {u : State} (p : Port) (h : Work s u) : Work s (u.modPort p (fun q => offerFrame (reloadCredits q)))
  | returned {u : State} (p : Port) (e : Queued) (f : PortState → PortState) (he : (u.port p).engine = [e])
      (hf : ∀ c, (f (u.port p)).queue c = (u.port p).queue c) (hfe : (f (u.port p)).engine = [])
      (hh : (f (u.port p)).health = (u.port p).health) (h : Work s u) : Work s (returnUnsent p e (u.modPort p f))
  | sent {u : State} (n : StationId) (h : Work s u) : Work s (u.modSide n (fun a => { a with lastSent := some a.grant }))
  | divide {u : State} (b : Arbiter) (hb : b.budget = u.arbiter.budget) (h : Work s u) :
      Work s { u with arbiter := divideArbiter b }

section
variable {s u : State}

theorem Work.trans {t : State} (h : Work s u) (g : Work u t) : Work s t := by
  induction g with
  | refl => exact h
  | aside _ hc ha hb ih => exact .aside ih hc ha hb
  | shrink p f hf _ ih => exact .shrink p f hf ih
  | originate k d l hk _ ih => exact .originate k d l hk ih
  | stepReport n r _ ih => exact .stepReport n r ih
  | enqueue p c f hr _ ih => exact .enqueue p c f hr ih
  | offer p _ ih => exact .offer p ih
  | returned p e f he hf hfe hh _ ih => exact .returned p e f he hf hfe hh ih
  | sent n _ ih => exact .sent n ih
  | divide b hb _ ih => exact .divide b hb ih

theorem Work.station (n : StationId) (f : Station → Station) (h : Work s u) : Work s (u.modSt n f) :=
  .aside h (by simp) (by simp) (by simp)

theorem Work.notices (b : Notices) (h : Work s u) : Work s { u with notices := b } := .aside h rfl rfl rfl

/-- A port change that leaves queues and activity moves no frame. -/
theorem PortState.shrinks_of_eq {q r : PortState} (hu : r.urgent = q.urgent) (hc : r.control = q.control)
    (hb : r.bulk = q.bulk) (he : r.engine = q.engine) (hh : r.health = .isolated → q.health = .isolated) : q.shrinks r := by
  refine ⟨fun c => ?_, by rw [he], fun h => .inl (hh h)⟩
  cases c <;> simp [PortState.queue, hu, hc, hb]

theorem Work.countPort (p : Port) (c : PortCounter) (h : Work s u) : Work s (countPort p c u) :=
  .shrink p _ (PortState.shrinks_of_eq rfl rfl rfl rfl id) h

theorem Work.updateDropMode (p : Port) (h : Work s u) : Work s (updateDropMode p u) :=
  .shrink p _ (PortState.shrinks_of_eq rfl rfl rfl rfl id) h

theorem Work.updateDropModes (h : Work s u) : Work s (updateDropModes u) := .updateDropMode _ (.updateDropMode _ h)

/-! ### Counters, notices and the arbiter -/

theorem Work.countStation (n : StationId) (c : StationCounter) (h : Work s u) : Work s (countStation n c u) := .station n _ h

theorem originateNotice_work (h : Work s u) : Work s (originateNotice u) := .originate _ _ _ rfl h

theorem setNotice_work (b : NoticeBit) (h : Work s u) : Work s (setNotice b u) := by
  unfold setNotice
  split
  · exact h
  · split
    · exact originateNotice_work (.notices _ h)
    · exact .notices _ h

theorem sendHeatSet_work (n : StationId) (h : Work s u) : Work s (sendHeatSet n u) := by
  unfold sendHeatSet
  split
  · exact h
  · exact .originate _ _ _ rfl (.sent n h)

theorem testGrant_work (n : StationId) (h : Work s u) : Work s (testGrant n u) := by
  unfold testGrant
  split
  · exact sendHeatSet_work n h
  · exact h

theorem recomputeArbiter_work (h : Work s u) : Work s (recomputeArbiter u) :=
  testGrant_work _ (testGrant_work _ (.divide _ rfl h))

/-- A changed side takes part in the division that follows it (R106, R107). -/
theorem recomputeArbiter_modSide_work (n : StationId) (f : ArbiterSide → ArbiterSide) (h : Work s u) :
    Work s (recomputeArbiter (u.modSide n f)) := by
  have hd : ∀ b, b.budget = u.arbiter.budget → Work s { u with arbiter := divideArbiter b } := fun b hb => .divide b hb h
  cases n with
  | zero => exact testGrant_work _ (testGrant_work _ (hd { u.arbiter with side0 := f u.arbiter.side0 } rfl))
  | one => exact testGrant_work _ (testGrant_work _ (hd { u.arbiter with side1 := f u.arbiter.side1 } rfl))

theorem followDemand_work (n : StationId) (h : Work s u) : Work s (followDemand n u) := by
  unfold followDemand
  split
  · exact h
  · exact recomputeArbiter_modSide_work n _ h

theorem setDemand_work (n : StationId) (d : Nat) (h : Work s u) : Work s (setDemand n d u) := by
  unfold setDemand
  split
  · exact h
  · exact followDemand_work n (.station n _ h)

theorem setDraw_work (n : StationId) (w : Nat) (h : Work s u) : Work s (setDraw n w u) := by
  unfold setDraw
  split
  · exact h
  · exact recomputeArbiter_modSide_work n _ h

/-! ### Drive and lid -/

theorem sendLidSet_work (n : StationId) (c : LidCmd) (h : Work s u) : Work s (sendLidSet n c u) := by
  unfold sendLidSet
  split
  · exact h
  · exact .originate _ _ _ rfl h

theorem lockLid_work (n : StationId) (h : Work s u) : Work s (lockLid n u) := by
  unfold lockLid
  split
  · exact h
  · exact sendLidSet_work n _ (.station n _ h)

theorem testUnlock_work (n : StationId) (h : Work s u) : Work s (testUnlock n u) := by
  unfold testUnlock
  split
  · exact sendLidSet_work n _ (.station n _ h)
  · exact h

theorem askUnlock_work (n : StationId) (h : Work s u) : Work s (askUnlock n u) := testUnlock_work n (.station n _ h)

theorem sendSpeedSet_work (n : StationId) (h : Work s u) : Work s (sendSpeedSet n u) := by
  unfold sendSpeedSet
  split
  · exact h
  · exact .originate _ _ _ rfl h

theorem ite_work {c : Prop} [Decidable c] {t : State} (ht : Work s t) (hu : Work s u) : Work s (if c then t else u) := by
  split
  · exact ht
  · exact hu

theorem recomputeDrive_work (n : StationId) (h : Work s u) : Work s (recomputeDrive n u) := by
  have hmod : Work s (u.modDrive n (fun _ => composeSpeed (u.requestOf n) (u.st n).drive)) := .station n _ h
  unfold recomputeDrive
  dsimp only
  have hsend : ∀ {t : State} (c d : Prop) [Decidable c] [Decidable d], Work s t →
      Work s (if c then testUnlock n (if d then sendSpeedSet n t else t) else if d then sendSpeedSet n t else t) :=
    fun c d _ _ ht => ite_work (testUnlock_work n (ite_work (sendSpeedSet_work n ht) ht)) (ite_work (sendSpeedSet_work n ht) ht)
  exact hsend _ _ (ite_work (.countStation n _ hmod) hmod)

theorem recomputeEnvelope_work (n : StationId) (h : Work s u) : Work s (recomputeEnvelope n u) :=
  recomputeDrive_work n (.station n _ h)

theorem dropManualSpeed_work (n : StationId) (h : Work s u) : Work s (dropManualSpeed n u) :=
  recomputeDrive_work n (.station n _ h)

/-! ### Heat -/

theorem retestReached_work (n : StationId) (h : Work s u) : Work s (retestReached n u) := by
  unfold retestReached; exact .station n _ h

theorem adoptTarget_work (n : StationId) (rule : Adoption) (b : Bool) (h : Work s u) :
    Work s (adoptTarget n rule b u) := by
  unfold adoptTarget
  split
  · exact h
  · have hr : Work s (retestReached n (u.modHeat n (fun h =>
        { h with integral := adoptedIntegral rule (u.heatTarget n) h.integral }))) := retestReached_work n (.station n _ h)
    exact ite_work hr (setDemand_work n _ hr)

theorem stateChanged_work (n : StationId) (rule : Adoption) (b : Bool) (h : Work s u) :
    Work s (stateChanged n rule b u) :=
  recomputeArbiter_work (adoptTarget_work n rule b (recomputeDrive_work n h))

theorem followManualHeat_work (n : StationId) (h : Work s u) : Work s (followManualHeat n u) := by
  unfold followManualHeat
  exact ite_work (setDemand_work n _ h) h

theorem dropManualHeat_work (n : StationId) (h : Work s u) : Work s (dropManualHeat n u) :=
  followManualHeat_work n (.station n _ h)

/-! ### The step engine -/

theorem endStep_work (n : StationId) (o : StepOutcome) (h : Work s u) : Work s (endStep n o u) := by
  unfold endStep
  exact .station n _ (.stepReport n _ (setNotice_work _ h))

theorem furtherFault_work (n : StationId) (h : Work s u) : Work s (furtherFault n u) := setNotice_work _ (.station n _ h)

theorem enterFault_work (n : StationId) (c : FaultCause) (k : Nat) (b : Bool) (h : Work s u) :
    Work s (enterFault n c k b u) := by
  refine setNotice_work _ (askUnlock_work n (stateChanged_work n _ b (.station n _ (.station n _ ?_))))
  split
  · exact endStep_work n _ h
  · exact endStep_work n _ h
  · exact h

theorem raiseCause_work (n : StationId) (c : FaultCause) (carried : Bool) (h : Work s u) :
    Work s (raiseCause n c carried u) := by
  unfold raiseCause
  exact ite_work (ite_work h (furtherFault_work n h)) (enterFault_work n c _ _ h)

theorem raiseSilence_work (n : StationId) (c : FaultCause) (faults : Bool) (h : Work s u) :
    Work s (raiseSilence n c faults u) := by
  unfold raiseSilence
  exact ite_work (furtherFault_work n h) (ite_work (enterFault_work n c _ _ h) h)

theorem enterActive_work (n : StationId) (rule : Adoption) (b : Bool) (h : Work s u) :
    Work s (enterActive n rule b u) :=
  have hs := stateChanged_work n rule b (.station n _ h)
  ite_work (setNotice_work _ hs) hs

theorem enterBasing_work (n : StationId) (rule : Adoption) (b : Bool) (h : Work s u) :
    Work s (enterBasing n rule b u) := stateChanged_work n rule b (.station n _ h)

theorem leaveLocking_work (n : StationId) (rule : Adoption) (b : Bool) (h : Work s u) :
    Work s (leaveLocking n rule b u) := by
  unfold leaveLocking
  split
  · exact enterBasing_work n rule b h
  · exact enterActive_work n rule b h

theorem actOnLid_work (n : StationId) (h : Work s u) : Work s (actOnLid n u) := by
  have hwaits : Work s (u.modRun n (fun r => { r with deadline := none })) := .station n _ h
  unfold actOnLid
  refine ite_work (leaveLocking_work n _ _ h) (ite_work hwaits ?_)
  split
  · exact hwaits
  · refine ite_work ?_ hwaits
    split
    · exact h
    · exact .station n _ (lockLid_work n h)

theorem enterLocking_work (n : StationId) (after : Phase) (rule : Adoption) (b : Bool) (h : Work s u) :
    Work s (enterLocking n after rule b u) := actOnLid_work n (stateChanged_work n rule b (.station n _ h))

theorem leaveBasing_work (n : StationId) (h : Work s u) : Work s (leaveBasing n u) := by
  unfold leaveBasing
  exact ite_work (enterLocking_work n _ _ _ h) (enterActive_work n _ _ h)

theorem enterStep_work (n : StationId) (i : Nat) (old : Option Int) (b : Bool) (h : Work s u) :
    Work s (enterStep n i old b u) := by
  unfold enterStep
  dsimp only
  split
  · exact enterFault_work n _ _ b (.station n _ h)
  · exact ite_work (enterLocking_work n _ _ b (.station n _ h))
      (ite_work (enterBasing_work n _ b (.station n _ h)) (enterActive_work n _ b (.station n _ h)))

theorem enterIdle_work (n : StationId) (unlock b : Bool) (h : Work s u) : Work s (enterIdle n unlock b u) :=
  have hs := stateChanged_work n .keep b (.station n _ h)
  ite_work (askUnlock_work n hs) hs

theorem enterWarming_work (n : StationId) (old : Option Int) (b : Bool) (h : Work s u) :
    Work s (enterWarming n old b u) := by
  unfold enterWarming
  dsimp only
  split
  · exact enterFault_work n _ _ b (.station n _ h)
  · exact askUnlock_work n (stateChanged_work n _ b (.station n _ h))

theorem endRecipe_work (n : StationId) (r : StepRecord) (old : Option Int) (b : Bool) (h : Work s u) :
    Work s (endRecipe n r old b u) := by
  unfold endRecipe
  exact ite_work (enterWarming_work n old b (setNotice_work _ h)) (enterIdle_work n _ b (setNotice_work _ h))

theorem finishStep_work (n : StationId) (o : StepOutcome) (b : Bool) (h : Work s u) : Work s (finishStep n o b u) := by
  unfold finishStep
  exact ite_work (enterStep_work n _ _ b (.station n _ (endStep_work n o h)))
    (endRecipe_work n _ _ b (.station n _ (endStep_work n o h)))

theorem pauseStation_work (n : StationId) (why : PauseReason) (h : Work s u) : Work s (pauseStation n why u) :=
  setNotice_work _ (stateChanged_work n _ _ (.station n _ h))

/-! ### Weighing -/

theorem endOp_work (n : StationId) (o : OpOutcome) (h : Work s u) : Work s (endOp n o u) := setNotice_work _ (.station n _ h)

theorem changeTare_work (n : StationId) (t : Int) (h : Work s u) : Work s (changeTare n t u) := by
  unfold changeTare
  exact .station n _ (.station n _ h)

theorem weighStep_work (n : StationId) (h : Work s u) : Work s (weighStep n u) := by
  unfold weighStep
  dsimp only
  split
  · split
    · exact ite_work (finishStep_work n _ _ h) h
    · exact h
  · exact ite_work (leaveBasing_work n (.station n _ h)) h
  · exact h

theorem completeCalibrate_work (n : StationId) (h : Work s u) : Work s (completeCalibrate n u) := by
  unfold completeCalibrate
  dsimp only
  split
  · exact endOp_work n _ h
  · exact endOp_work n _ (.station n _ h)

theorem advanceOp_work (n : StationId) (x : WeighSample) (h : Work s u) : Work s (advanceOp n x u) := by
  unfold advanceOp
  dsimp only
  split
  · exact h
  · exact ite_work (endOp_work n _ (changeTare_work n _ h)) h
  · exact ite_work (endOp_work n _ (.station n _ (.station n _ h))) (.station n _ h)
  · exact ite_work (completeCalibrate_work n (.station n _ h)) (.station n _ h)

theorem acceptSample_work (n : StationId) (x : WeighSample) (h : Work s u) : Work s (acceptSample n x u) :=
  advanceOp_work n x (weighStep_work n (.station n _ h))

theorem takeWeighSample_work (n : StationId) (x : WeighSample) (h : Work s u) : Work s (takeWeighSample n x u) := by
  unfold takeWeighSample
  split
  · exact acceptSample_work n x h
  · exact ite_work (.countStation n _ h) (ite_work (acceptSample_work n x h) (acceptSample_work n x (.countStation n _ h)))

/-! ### Temperature and reports -/

theorem thermoFaults_work (n : StationId) (t : Int) (fault : Bool) (before : HeatContext) (h : Work s u) :
    Work s (thermoFaults n t fault before u) := by
  unfold thermoFaults
  exact ite_work (raiseCause_work n _ _ h) (ite_work (raiseCause_work n _ _ h) h)

theorem tempStep_work (n : StationId) (t : Int) (h : Work s u) : Work s (tempStep n t u) := by
  unfold tempStep
  exact ite_work (finishStep_work n _ _ h) h

theorem thermoDemand_work (n : StationId) (t : Int) (grant demand : Nat) (h : Work s u) :
    Work s (thermoDemand n t grant demand u) := by
  unfold thermoDemand
  dsimp only
  split
  · exact setDemand_work n _ h
  · exact ite_work (setDemand_work n _ (.station n _ h))
      (ite_work (setDemand_work n _ h) (setDemand_work n _ (.station n _ h)))

theorem takeThermoSample_work (n : StationId) (t : Int) (fault : Bool) (h : Work s u) :
    Work s (takeThermoSample n t fault u) := by
  have hf := thermoFaults_work n t fault (u.st n).heat (.station n (fun st => { st with heat := storeThermo t fault st.heat }) h)
  unfold takeThermoSample
  exact ite_work hf (thermoDemand_work n t _ _ (retestReached_work n (tempStep_work n t (recomputeEnvelope_work n hf))))

theorem takeHeatState_work (n : StationId) (r : HeatReport) (h : Work s u) : Work s (takeHeatState n r u) := by
  unfold takeHeatState
  exact ite_work (raiseCause_work n _ _ (.station n _ h)) (.station n _ h)

theorem takeDriveState_work (n : StationId) (r : DriveReport) (h : Work s u) : Work s (takeDriveState n r u) := by
  unfold takeDriveState
  exact testUnlock_work n (setDraw_work n _ (ite_work (raiseCause_work n _ _ (.station n _ h)) (.station n _ h)))

theorem takeLidState_work (n : StationId) (r : LidReport) (h : Work s u) : Work s (takeLidState n r u) := by
  unfold takeLidState
  exact recomputeEnvelope_work n (ite_work (actOnLid_work n (.station n _ h))
    (ite_work (pauseStation_work n _ (.station n _ h)) (.station n _ h)))

theorem manualSpeed_work (n : StationId) (v : Nat) (dir : Direction) (h : Work s u) : Work s (manualSpeed n v dir u) :=
  recomputeDrive_work n (.station n _ h)

theorem manualHeat_work (n : StationId) (w : Nat) (h : Work s u) : Work s (manualHeat n w u) :=
  followManualHeat_work n (.station n _ h)

theorem manualLid_work (n : StationId) (c : LidCmd) (h : Work s u) : Work s (manualLid n c u) := by
  cases c with
  | lock => exact lockLid_work n (.station n _ (.station n _ h))
  | unlock => exact askUnlock_work n (.station n _ h)

/-! ### Silence, isolation and timers -/

theorem roleSilent_work (n : StationId) (r : Role) (h : Work s u) : Work s (roleSilent n r u) := by
  cases r with
  | drive =>
    exact raiseSilence_work n _ _ (ite_work (dropManualSpeed_work n (.station n _ h)) (.station n _ h))
  | heater => exact raiseSilence_work n _ _ (recomputeArbiter_work (followDemand_work n h))
  | weigh => exact raiseSilence_work n _ _ (ite_work (.station n _ h) (endOp_work n _ (.station n _ h)))
  | thermo =>
    exact raiseSilence_work n _ _ (setDemand_work n _ (ite_work (.station n _ (.station n _ h)) (.station n _ h)))
  | lid =>
    exact recomputeEnvelope_work n (ite_work (.station n _ h) (ite_work (pauseStation_work n _ h) h))

theorem roleHeard_work (n : StationId) (r : Role) (h : Work s u) : Work s (roleHeard n r u) := by
  cases r with
  | drive => unfold roleHeard; exact .station n _ h
  | heater => exact recomputeArbiter_work (followDemand_work n h)
  | weigh => exact h
  | thermo => exact h
  | lid => exact recomputeEnvelope_work n h

theorem isolateStation_work (n : StationId) (h : Work s u) : Work s (isolateStation n u) := by
  unfold isolateStation
  exact ite_work (dropManualHeat_work n (dropManualSpeed_work n h)) (raiseSilence_work n _ _ h)

theorem leftIsolation_work (p : Port) (h : Work s u) : Work s (leftIsolation p u) := by
  cases p with
  | appliance => exact testUnlock_work _ (testUnlock_work _ h)
  | control => exact ite_work h (originateNotice_work h)

theorem refreshLid_work (n : StationId) (h : Work s u) : Work s (refreshLid n u) := by
  unfold refreshLid
  split
  · exact sendLidSet_work n _ h
  · exact ite_work (sendLidSet_work n _ h) h
  · exact h

theorem sendWeightReport_work (n : StationId) (h : Work s u) : Work s (sendWeightReport n u) := .originate _ _ _ rfl h

/-! ### Requests -/

theorem startStation_work (n : StationId) (first : Nat) (h : Work s u) : Work s (startStation n first u) :=
  enterStep_work n _ _ _ (.station n _ (.station n _ (dropManualSpeed_work n (.station n _ h))))

theorem resumePhase_work (n : StationId) (h : Work s u) : Work s (resumePhase n u) := by
  have hl : Work s (resumeLocking n u) := actOnLid_work n (stateChanged_work n _ _ (.station n _ h))
  unfold resumePhase
  dsimp only
  split
  · exact ite_work hl (leaveLocking_work n _ _ h)
  · exact ite_work (enterLocking_work n _ _ _ h) (enterBasing_work n _ _ h)
  · exact ite_work (enterLocking_work n _ _ _ h) (enterActive_work n _ _ h)

theorem resumeStation_work (n : StationId) (h : Work s u) : Work s (resumeStation n u) := by
  unfold resumeStation
  split
  · exact enterFault_work n _ _ _ h
  · exact resumePhase_work n h

theorem adjustHeat_work (n : StationId) (before : Option Int) (a : Adjustment) (h : Work s u) :
    Work s (adjustHeat n before a u) := by
  unfold adjustHeat
  refine ite_work ?_ h
  split
  · exact enterFault_work n _ _ _ h
  · exact adoptTarget_work n _ _ h

theorem adjustStation_work (n : StationId) (a : Adjustment) (h : Work s u) : Work s (adjustStation n a u) := by
  unfold adjustStation
  exact adjustHeat_work n _ a (ite_work (recomputeDrive_work n (.station n _ h)) (.station n _ h))

theorem startCapture_work (n : StationId) (op : WeighOp) (mass : Option Int) (h : Work s u) :
    Work s (startCapture n op mass u) := by
  unfold startCapture
  exact .station n _ (ite_work h (endOp_work n _ h))

theorem enableNotices_work (en : BitVec 16) (h : Work s u) : Work s (enableNotices en u) := by
  unfold enableNotices
  exact ite_work (.notices _ h) (originateNotice_work (.notices _ h))

end

end Sys2Proof.Machine

/-! PROOFS. Every piece and every effect is such work; with it, the grants follow the power (chapter 5), and the buffers and
queues stay within their bounds (chapter 8). -/

namespace Sys2Proof.Machine

open Sys2Proof

section
variable {s u : State}

/-! ### The ports as work -/

theorem setHealth_work (p : Port) (x : Health) (hx : x ≠ .isolated) (h : Work s u) : Work s (setHealth p x u) := by
  unfold setHealth
  exact ite_work h (setNotice_work _ (.shrink p _ (PortState.shrinks_of_eq rfl rfl rfl rfl fun hi => absurd hi hx) h))

theorem healthOf_ne_isolated (tx rx : Nat) : healthOf tx rx ≠ .isolated := by
  unfold healthOf; split <;> simp

theorem followCounts_work (p : Port) (h : Work s u) : Work s (followCounts p u) := by
  unfold followCounts
  split
  · exact setHealth_work p _ (healthOf_ne_isolated _ _) h
  · exact setHealth_work p _ (healthOf_ne_isolated _ _) h
  · exact h

theorem countDrops_work (p : Port) (k : Nat) (h : Work s u) : Work s (countDrops p k u) := by
  induction k generalizing u with
  | zero => exact h
  | succ k ih => exact ih (.countPort p _ h)

/-- An emptied engine moves no other frame. -/
theorem PortState.shrinks_engine {q r : PortState} (hu : r.urgent = q.urgent) (hc : r.control = q.control)
    (hb : r.bulk = q.bulk) (he : r.engine = []) (hh : r.health = .isolated → q.health = .isolated) : q.shrinks r := by
  refine ⟨fun c => ?_, by simp [he], fun h => .inl (hh h)⟩
  cases c <;> simp [PortState.queue, hu, hc, hb]

/-- An emptied port. -/
theorem PortState.shrinks_empty {q r : PortState} (h : r.entries = []) : q.shrinks r := by
  have hr : r.urgent = [] ∧ r.control = [] ∧ r.bulk = [] ∧ r.engine = [] := by
    simpa [PortState.entries, and_assoc] using h
  obtain ⟨hu, hc, hb, he⟩ := hr
  exact ⟨fun c => by cases c <;> simp [PortState.queue, hu, hc, hb], by simp [he], fun _ => .inr h⟩

theorem recoverPort_work (p : Port) (h : Work s u) : Work s (recoverPort p u) :=
  leftIsolation_work p (setHealth_work p _ (by simp) (.shrink p _ (PortState.shrinks_engine rfl rfl rfl rfl id) h))

theorem recoverIfMet_work (p : Port) (h : Work s u) : Work s (recoverIfMet p u) := by
  unfold recoverIfMet
  exact ite_work (recoverPort_work p h) h

/-- An emptied port may become ISOLATED (R178). -/
theorem setHealth_work_of_empty (p : Port) (x : Health) (he : (u.port p).entries = []) (h : Work s u) :
    Work s (setHealth p x u) := by
  unfold setHealth
  exact ite_work h (setNotice_work _ (.shrink p _ (PortState.shrinks_empty he) h))

@[simp] theorem countDrops_entries (p : Port) (k : Nat) (u : State) :
    ((countDrops p k u).port p).entries = (u.port p).entries := by
  induction k generalizing u with
  | zero => rfl
  | succ k ih => rw [countDrops, ih]; simp [Machine.countPort, PortState.entries, PortState.engine]

theorem enterIsolated_work (p : Port) (h : Work s u) : Work s (enterIsolated p u) := by
  have hhealth : Work s (setHealth p .isolated (countDrops p (u.port p).entries.length (u.modPort p (fun q => { q with
      urgent := [], control := [], bulk := [], activity := .idle, idleBits := 0, goodFrames := 0, errorMark := none })))) :=
    setHealth_work_of_empty p _ (by rw [countDrops_entries]; simp [PortState.entries, PortState.engine])
      (countDrops_work p _ (.shrink p _ (PortState.shrinks_empty rfl) h))
  unfold enterIsolated
  cases p with
  | appliance => exact isolateStation_work _ (isolateStation_work _ hhealth)
  | control => exact hhealth

theorem goodFrameAt_work (p : Port) (h : Work s u) : Work s (goodFrameAt p u) :=
  recoverIfMet_work p (followCounts_work p (.shrink p _ (PortState.shrinks_engine rfl rfl rfl rfl id) h))

theorem receiveErrorAt_work (p : Port) (error : RxError) (h : Work s u) : Work s (receiveErrorAt p error u) :=
  followCounts_work p (.countPort p _ (.shrink p _ (PortState.shrinks_engine rfl rfl rfl rfl id) h))

theorem transmitErrorAt_work (p : Port) (error : TxError) (h : Work s u) : Work s (transmitErrorAt p error u) := by
  have hc : Work s (Machine.countPort p .transmitErrors (u.modPort p (fun q =>
      { q with tx := txAfter error (u.port p), wasTransmitter := true, voided := true }))) :=
    .countPort p _ (.shrink p _ (PortState.shrinks_of_eq rfl rfl rfl rfl id) h)
  exact .updateDropModes (ite_work (enterIsolated_work p hc)
    (followCounts_work p (.shrink p _ (PortState.shrinks_engine rfl rfl rfl rfl id) hc)))

/-- A frame in the engine returns to its queue as the transmission stops (R180). -/
theorem stopSending_work (p : Port) (h : Work s u) : Work s (stopSending p u) := by
  unfold stopSending
  split
  · next e ha =>
    exact .returned p e _ (engine_contending ha) (fun c => by cases c <;> rfl) rfl rfl h
  · next e ha =>
    refine .returned p e _ (engine_transmitting ha) (fun c => ?_) rfl (unspendCredit_health ..) h
    have := unspendCredit_queue e.cls c (u.port p)
    cases c <;> exact this
  · exact h
  · exact .shrink p _ (PortState.shrinks_engine rfl rfl rfl rfl id) h

theorem restartPort_work (p : Port) (h : Work s u) : Work s (restartPort p u) := by
  have hr : Work s (setNotice .portChange ((stopSending p (u.modPort p (fun q => { q with
      tx := 0, rx := 0, idleBits := 0, goodFrames := 0, wasTransmitter := false, errorMark := none, voided := false }))).modPort p
        (fun q => { q with health := .joining }))) :=
    setNotice_work _ (.shrink p _ (PortState.shrinks_of_eq rfl rfl rfl rfl (by simp))
      (stopSending_work p (.shrink p _ (PortState.shrinks_of_eq rfl rfl rfl rfl id) h)))
  exact ite_work (leftIsolation_work p hr) hr

/-! ### The node table as work -/

theorem Work.setEntry (i : Nat) (o : Option NodeEntry) (h : Work s u) : Work s (u.setEntry i o) := .aside h rfl rfl rfl

theorem removeEntry_work (i : Nat) (h : Work s u) : Work s (removeEntry i u) := by
  unfold removeEntry
  split
  · unfold releaseLocks; exact .station _ _ (.station _ _ (.setEntry i none h))
  · exact h

theorem removeWhere_work (p : NodeEntry → Bool) (h : Work s u) : Work s (removeWhere p u) := by
  rw [removeWhere_eq_removeBelow]
  suffices H : ∀ k, Work s (removeBelow p k u) from H _
  intro k
  induction k with
  | zero => exact h
  | succ k ih =>
    show Work s (removeIf p k (removeBelow p k u))
    unfold removeIf
    split
    · exact ite_work (removeEntry_work k ih) ih
    · exact ih

theorem becomeSilent_work (i : Nat) (e : NodeEntry) (h : Work s u) : Work s (becomeSilent i e u) := by
  unfold becomeSilent
  dsimp only
  split
  · exact roleSilent_work _ _ (setNotice_work _ (.setEntry i _ h))
  · exact setNotice_work _ (.setEntry i _ h)

theorem hearNode_work (i : Nat) (e : NodeEntry) (h : Work s u) : Work s (hearNode i e u) := by
  unfold hearNode
  dsimp only
  refine ite_work ?_ (.setEntry i _ h)
  split
  · exact roleHeard_work _ _ (.setEntry i _ h)
  · exact .setEntry i _ h

theorem writeEntry_work (i : Nat) (e : NodeEntry) (h : Work s u) : Work s (writeEntry i e u) := by
  unfold writeEntry
  exact ite_work (becomeSilent_work i e (.setEntry i _ h)) (.setEntry i _ h)

end

/-! ### Pieces and effects as work -/

theorem move_work {s t : State} (h : Move s t) : Work s t := by
  cases h with
  | pending | requests | emptyAccumulator => exact .aside .refl rfl rfl rfl
  | passMs =>
    have hp : ∀ q : PortState, q.shrinks (portMs q) := fun q => by
      unfold portMs; split <;> exact PortState.shrinks_of_eq rfl rfl rfl rfl id
    exact .aside (.shrink .appliance portMs (hp _) (.shrink .control portMs (hp _) .refl)) rfl rfl rfl
  | countPort p c => exact .countPort p c .refl
  | countStation n c => exact .countStation n c .refl
  | setNotice b => exact setNotice_work b .refl
  | updateDropMode p => exact .updateDropMode p .refl
  | goodFrame p => exact goodFrameAt_work p .refl
  | receiveError p e => exact receiveErrorAt_work p e .refl
  | startMark p => exact .shrink p _ (PortState.shrinks_engine rfl rfl rfl rfl id) .refl
  | transmissionStart p => exact .offer p .refl
  | lostArbitration p e h =>
    exact .countPort p _ (.returned p e _ (engine_contending h) (fun c => by cases c <;> rfl) rfl rfl .refl)
  | wonArbitration p e h =>
    refine .shrink p _ (PortState.shrinks_of_eq ?_ ?_ ?_ ?_ (by simp)) .refl
    · exact spendCredit_queue e.cls .urgent _
    · exact spendCredit_queue e.cls .control _
    · exact spendCredit_queue e.cls .bulk _
    · simp [PortState.engine, h]
  | completed p e h =>
    exact .updateDropModes (followCounts_work p (.countPort p _
      (.shrink p _ (PortState.shrinks_engine rfl rfl rfl rfl id) .refl)))
  | transmitError p error => exact transmitErrorAt_work p error .refl
  | joined p => exact setHealth_work p _ (by simp) .refl
  | recover p => exact recoverPort_work p .refl
  | stepTimer n o => exact finishStep_work n o _ (.station n _ .refl)
  | reversal n => exact recomputeDrive_work n (.station n _ .refl)
  | lockingDeadline n => exact enterFault_work n _ _ _ .refl
  | basingDeadline n => exact leaveBasing_work n (.station n _ .refl)
  | warmingLimit n => exact enterIdle_work n _ _ .refl
  | endOp n o => exact endOp_work n o .refl
  | dropManualSpeed n => exact dropManualSpeed_work n .refl
  | dropManualHeat n => exact dropManualHeat_work n .refl
  | spinDown n => exact testUnlock_work n (.station n _ .refl)
  | refresh n =>
    exact testUnlock_work n (refreshLid_work n (sendHeatSet_work n (sendSpeedSet_work n (.station n _ .refl))))
  | reportTimer n => exact .station n _ .refl
  | weightReport n => exact sendWeightReport_work n .refl
  | removeLearned i => exact removeEntry_work i .refl
  | becomeSilent i e => exact becomeSilent_work i e .refl
  | hearNode i e => exact hearNode_work i e .refl
  | learn | moveLearned => exact .setEntry _ _ .refl
  | enqueue p c f h => exact .enqueue p c f h .refl
  | weighSample n x => exact takeWeighSample_work n x .refl
  | thermoSample n t fault => exact takeThermoSample_work n t fault .refl
  | driveState n r => exact takeDriveState_work n r .refl
  | heatState n r => exact takeHeatState_work n r .refl
  | lidState n r => exact takeLidState_work n r .refl
  | manualSpeed n v dir => exact manualSpeed_work n v dir .refl
  | manualHeat n w => exact manualHeat_work n w .refl
  | manualLid n c => exact manualLid_work n c .refl

/-- What a new binding calls for is work, once the roles it changes are forgotten (R18). -/
theorem followBinding_work {s u : State} (n : StationId) (old new : Binding) (h : Work s u) :
    Work s (followBinding n old new u) := by
  have he := ite_work (c := old.thermo = new.thermo ∧ old.lid = new.lid) h (recomputeEnvelope_work n h)
  have hd := fun {t : State} (ht : Work s t) => ite_work (c := old.drive = new.drive) ht
    (recomputeArbiter_work (sendSpeedSet_work n (recomputeDrive_work n ht)))
  have hh := followDemand_work n (followManualHeat_work n (hd he))
  exact ite_work (testUnlock_work n hh) hh

theorem applyLimit_work {s u : State} (n : StationId) (id v : Nat) (h : Work s u) : Work s (applyLimit n id v u) := by
  unfold applyLimit
  exact ite_work (recomputeEnvelope_work n (.station n _ h)) (ite_work
    (recomputeArbiter_work (followManualHeat_work n (.station n _ (.station n _ h)))) (.station n _ h))

theorem applyWeighItem_work {s u : State} (n : StationId) (id : Nat) (v : Int) (h : Work s u) :
    Work s (applyWeighItem n id v u) := by
  unfold applyWeighItem
  exact ite_work (.station n _ (.station n _ h)) (ite_work (.station n _ (.station n _ h)) (.station n _ h))

theorem applyPortItem_work {s u : State} (p : Port) (id v : Nat) (h : Work s u) : Work s (applyPortItem p id v u) := by
  have hc : Work s (u.modPort p (fun q => { q with cfg := setPortItem q.cfg id v })) :=
    .shrink p _ (PortState.shrinks_of_eq rfl rfl rfl rfl fun hi => hi) h
  unfold applyPortItem
  exact ite_work (removeWhere_work _ (.aside h rfl rfl rfl))
    (ite_work (.updateDropMode p hc) (ite_work (recoverIfMet_work p hc) hc))

/-- Every effect is work, but for a binding, which forgets first, and a budget, which the division reads (R18, R105). -/
theorem effect_work {s u : State} (h : Effect s u) :
    Work s u ∨ (∃ n new, u = bindStation n new s) ∨ ∃ w, 500 ≤ w ∧ w ≤ 3600 ∧ u = setBudget w s := by
  cases h with
  | bind n d h w t l => exact .inr (.inl ⟨n, _, rfl⟩)
  | budget w h => exact .inr (.inr ⟨w, h.1, h.2, rfl⟩)
  | unchanged => exact .inl .refl
  | lock | unlock | recipeLength | recipeClear | heatItem | zeroStation | reportInterval => exact .inl (.station _ _ .refl)
  | storeStep => exact .inl (.station _ _ .refl)
  | start n q first => exact .inl (startStation_work n first .refl)
  | pause n => exact .inl (pauseStation_work n _ .refl)
  | resume n => exact .inl (resumeStation_work n .refl)
  | stopStep n => exact .inl (enterIdle_work n _ _ (endStep_work n _ .refl))
  | stopWarming n => exact .inl (enterIdle_work n _ _ .refl)
  | stopIdle n => exact .inl (askUnlock_work n (dropManualHeat_work n (dropManualSpeed_work n .refl)))
  | finish n o => exact .inl (finishStep_work n o _ .refl)
  | adjust n a => exact .inl (adjustStation_work n a .refl)
  | clearFault n => exact .inl (enterIdle_work n _ _ .refl)
  | limit n id v => exact .inl (applyLimit_work n id v .refl)
  | weighItem n id v => exact .inl (applyWeighItem_work n id v .refl)
  | tare n => exact .inl (.station n _ .refl)
  | retare n => exact .inl (.station n _ (endOp_work n _ .refl))
  | capture n op mass => exact .inl (startCapture_work n op mass .refl)
  | enableNotices en => exact .inl (enableNotices_work en .refl)
  | snapshot | clearNotices | route | routeDefault => exact .inl (.aside .refl rfl rfl rfl)
  | zeroPort p => exact .inl (.shrink p _ (PortState.shrinks_of_eq rfl rfl rfl rfl id) .refl)
  | portItem p id v => exact .inl (applyPortItem_work p id v .refl)
  | restartPort p => exact .inl (restartPort_work p .refl)
  | nodeWrite k p limit =>
    obtain h | ⟨i, e, -, -, -, h⟩ | ⟨i, -, -, h⟩ := nodeWrite_cases k p limit s
    · rw [h]; exact .inl .refl
    · rw [h]; exact .inl (writeEntry_work i _ .refl)
    · rw [h]; exact .inl (writeEntry_work i _ .refl)
  | removeNode k i => exact .inl (removeEntry_work i .refl)
  | flushNodes => exact .inl (removeWhere_work _ .refl)

end Sys2Proof.Machine

namespace Sys2Proof.Machine

open Sys2Proof

/-! ### The grants (R108, R109) -/

theorem arbiterSound_of_arbiter {s t : State} (h : t.arbiter = s.arbiter) (hs : ArbiterSound s) : ArbiterSound t := by
  unfold ArbiterSound; rw [h]; exact hs

@[simp] theorem enqueueTransit_arbiter (p : Port) (c : QClass) (f : Frame) (s : State) :
    (enqueueTransit p c f s).arbiter = s.arbiter := by
  unfold enqueueTransit; split <;> simp

@[simp] theorem returnUnsent_arbiter (p : Port) (e : Queued) (s : State) :
    (returnUnsent p e s).arbiter = s.arbiter := by
  unfold returnUnsent; (repeat' split) <;> simp

/-- A division leaves the grants with what it reads (R109). -/
theorem arbiterSound_divide (s : State) (b : Arbiter) : ArbiterSound { s with arbiter := divideArbiter b } := ⟨rfl, rfl⟩

theorem arbiterSound_sent (s : State) (n : StationId) (f : ArbiterSide → Option Nat) (hs : ArbiterSound s) :
    ArbiterSound (s.modSide n (fun a => { a with lastSent := f a })) := by
  cases n <;> exact hs

theorem arbiterSound_work {s t : State} (h : Work s t) (hs : ArbiterSound s) : ArbiterSound t := by
  induction h with
  | refl => exact hs
  | aside _ _ _ hb ih => exact arbiterSound_of_arbiter hb ih
  | sent n _ ih => exact arbiterSound_sent _ n _ ih
  | divide b _ _ => exact arbiterSound_divide _ b
  | _ => rename_i ih; exact arbiterSound_of_arbiter (by simp) ih

/-- Forgetting a HEATER node drops its last value sent, and forgetting a DRIVE node its draw, which is then divided anew
(R18). -/
theorem arbiterSound_forgetRoles {n : StationId} {old new : Binding} {s : State} (hd : old.drive = new.drive)
    (hs : ArbiterSound s) : ArbiterSound (forgetRoles n old new s) := by
  have hheat : ArbiterSound (if old.heater = new.heater then s else
      (((discardUnsent (.heatSet n) s).modDrive n (fun d => { d with manualHeat := 0, heatHold := none })).modHeat n
        (fun h => { h with report := none })).modSide n (fun a => { a with lastSent := none })) := by
    split
    · exact hs
    · exact arbiterSound_sent _ n _ (arbiterSound_of_arbiter (by simp [discardUnsent]) hs)
  refine arbiterSound_of_arbiter ?_ hheat
  unfold forgetRoles
  simp only [hd, if_true]
  (repeat' split) <;> simp [discardUnsent]

theorem arbiterSound_bind {n : StationId} {new : Binding} {s : State} (hs : ArbiterSound s) :
    ArbiterSound (bindStation n new s) := by
  unfold bindStation
  dsimp only
  by_cases hd : (s.st n).binding.drive = new.drive
  · exact arbiterSound_work (followBinding_work n _ _ .refl)
      (arbiterSound_of_arbiter (modSt_arbiter ..) (arbiterSound_forgetRoles hd hs))
  · unfold followBinding
    simp only [hd, if_false]
    have hh := arbiterSound_work (followDemand_work n (followManualHeat_work n .refl))
      (arbiterFollows_recomputeArbiter (sendSpeedSet n (recomputeDrive n
        (if (s.st n).binding.thermo = new.thermo ∧ (s.st n).binding.lid = new.lid then
          (forgetRoles n (s.st n).binding new s).modSt n (fun st => { st with binding := new })
        else recomputeEnvelope n ((forgetRoles n (s.st n).binding new s).modSt n (fun st => { st with binding := new })))))).1
    split
    · exact arbiterSound_work (testUnlock_work n .refl) hh
    · exact hh

theorem arbiterSound_effect {s u : State} (hs : ArbiterSound s) (h : Effect s u) : ArbiterSound u := by
  obtain h | ⟨n, new, rfl⟩ | ⟨w, -, -, rfl⟩ := effect_work h
  · exact arbiterSound_work h hs
  · exact arbiterSound_bind hs
  · exact (arbiterFollows_recomputeArbiter _).1

theorem arbiterSound_reset {s t : State} (h : Reset s t) : ArbiterSound t := by
  cases h with
  | powerOn own l => exact ⟨rfl, rfl⟩
  | asserted => exact ⟨rfl, rfl⟩
  | kept =>
    refine arbiterSound_of_arbiter (setNotice_arbiter ..) ⟨rfl, ?_⟩
    simp [keptState, keptArbiter, divideGrants]

/-- Settles O54: a piece of work that writes what the division reads divides again. -/
theorem stepKeepsGrants : Obligations.StepKeepsGrants :=
  step_keeps (fun _ _ hs h => arbiterSound_work (move_work h) hs) (fun _ _ => arbiterSound_effect)
    (fun _ u r a _ _ _ hu => arbiterSound_of_arbiter (s := u) (by simp [leaveQueue]) hu)
    (fun _ _ _ => arbiterSound_reset)

end Sys2Proof.Machine

namespace Sys2Proof.Machine

open Sys2Proof

/-! ### Buffers and queues (R155, R158 to R162, R165) -/

/-- A frame in a transit buffer, of either port. -/
def Queued.isTransit (e : Queued) : Bool := e.fromPort .control || e.fromPort .appliance

/-- A STEP_REPORT of either station. -/
def Queued.isStepReport (e : Queued) : Bool :=
  e.origin == .own (.stepReport .zero) || e.origin == .own (.stepReport .one)

/-- What the queues of port `p` hold: every frame in its class, the part's own on their port and in their class, one unsent
frame of a coalesced kind, and nothing while ISOLATED. -/
def PortState.neat (p : Port) (q : PortState) : Prop :=
  (q.health = .isolated → q.entries = []) ∧
    (∀ c, ∀ e ∈ q.queue c, e.cls = c) ∧
    (∀ e ∈ q.entries, ∀ k, e.origin = .own k → k.port = p ∧ k.cls = e.cls) ∧
    ∀ k : OwnKind, k.coalesced = true → k.port = p → (q.queue k.cls).countP (Queued.isKind k) ≤ 1

/-- The queues are sound, with at most `r` replies held. -/
def State.queuesFit (r : Nat) (s : State) : Prop :=
  (∀ p, (s.port p).neat p) ∧
    s.control.entries.countP Queued.isTransit + s.appliance.entries.countP Queued.isTransit ≤ 48 ∧
    s.control.entries.countP (Queued.isKind .reply) ≤ r ∧ s.control.entries.countP Queued.isStepReport ≤ 4

theorem countP_isTransit (l : List Queued) :
    l.countP Queued.isTransit = l.countP (Queued.fromPort .control) + l.countP (Queued.fromPort .appliance) := by
  induction l with
  | nil => rfl
  | cons e l ih =>
    simp only [List.countP_cons, ih, Queued.isTransit]
    obtain ⟨f, o, c⟩ := e
    cases o with
    | own k => simp [Queued.fromPort]
    | transit p => cases p <;> simp [Queued.fromPort] <;> omega

theorem heldSum_eq (s : State) :
    s.heldSum = s.control.entries.countP Queued.isTransit + s.appliance.entries.countP Queued.isTransit := by
  simp only [State.heldSum, State.held, State.entries, List.countP_append, countP_isTransit]
  omega

theorem queuesSound_iff (s : State) : QueuesSound s ↔ s.queuesFit 3 := by
  unfold QueuesSound State.queuesFit
  rw [← heldSum_eq]
  constructor
  · rintro ⟨hh, hi, hc, ho, hk, hr, hs⟩
    exact ⟨fun p => ⟨hi p, hc p, fun e he k => ho p e k he, fun k hk' hp => by subst hp; exact hk k hk'⟩, hh, hr, hs⟩
  · rintro ⟨hn, hh, hr, hs⟩
    exact ⟨hh, fun p => (hn p).1, fun p c e he => (hn p).2.1 c e he, fun p e k he => (hn p).2.2.1 e he k,
      fun k hk => (hn k.port).2.2.2 k hk rfl, hr, hs⟩

/-! #### A port that changes -/

theorem mem_entries_of_queue {q : PortState} {c : QClass} {e : Queued} (h : e ∈ q.queue c) : e ∈ q.entries := by
  cases c <;> simp_all [PortState.queue, PortState.entries]

theorem mem_entries {q : PortState} {e : Queued} (h : e ∈ q.entries) : (∃ c, e ∈ q.queue c) ∨ e ∈ q.engine := by
  simp only [PortState.entries, List.mem_append] at h
  obtain ((h | h) | h) | h := h
  · exact .inl ⟨.urgent, h⟩
  · exact .inl ⟨.control, h⟩
  · exact .inl ⟨.bulk, h⟩
  · exact .inr h

theorem countP_entries (q : PortState) (P : Queued → Bool) : q.entries.countP P =
    (q.queue .urgent).countP P + (q.queue .control).countP P + (q.queue .bulk).countP P + q.engine.countP P := by
  simp [PortState.entries, PortState.queue, Nat.add_assoc]

theorem queuesFit_of_ports {s t : State} {r : Nat} (hc : t.control = s.control) (ha : t.appliance = s.appliance)
    (h : s.queuesFit r) : t.queuesFit r := by
  unfold State.queuesFit
  rw [hc, ha]
  refine ⟨fun p => ?_, h.2⟩
  have := h.1 p
  cases p
  · rw [port_control, hc]; exact this
  · rw [port_appliance, ha]; exact this

/-- A neat port that holds no more of each pool than before. -/
theorem queuesFit_modPort {s : State} {r : Nat} {p : Port} {f : PortState → PortState} (hs : s.queuesFit r)
    (hn : (f (s.port p)).neat p)
    (hc : ∀ P ∈ [Queued.isTransit, Queued.isKind .reply, Queued.isStepReport],
      (f (s.port p)).entries.countP P ≤ (s.port p).entries.countP P) : (s.modPort p f).queuesFit r := by
  obtain ⟨hneat, ht, hr, hst⟩ := hs
  simp only [List.forall_mem_cons, List.not_mem_nil, IsEmpty.forall_iff, implies_true, and_true] at hc
  obtain ⟨hct, hcr, hcs⟩ := hc
  refine ⟨fun x => ?_, ?_⟩
  · by_cases hx : x = p
    · subst hx; rw [port_modPort]; exact hn
    · rw [port_modPort_ne hx]; exact hneat x
  · cases p
    · exact ⟨(Nat.add_le_add_right hct _).trans ht, hcr.trans hr, hcs.trans hst⟩
    · exact ⟨(Nat.add_le_add_left hct _).trans ht, hr, hst⟩

/-! #### Frames that leave, or move within their port -/

theorem PortState.neat_of_shrinks {p : Port} {q r : PortState} (h : q.shrinks r) (hn : q.neat p) : r.neat p := by
  obtain ⟨hq, he, hh⟩ := h
  obtain ⟨hi, hc, ho, hk⟩ := hn
  have hmem : ∀ e ∈ r.entries, e ∈ q.entries := fun e hm => by
    obtain ⟨c, hm⟩ | hm := mem_entries hm
    · exact mem_entries_of_queue ((hq c).subset hm)
    · exact List.mem_append_right _ (he.subset hm)
  refine ⟨fun hiso => ?_, fun c e hm => hc c e ((hq c).subset hm), fun e hm => ho e (hmem e hm),
    fun k hk' hp => ((hq _).countP_le).trans (hk k hk' hp)⟩
  obtain hiso | hempty := hh hiso
  · exact List.eq_nil_iff_forall_not_mem.mpr fun e hm => by
      have := hmem e hm
      rw [hi hiso] at this
      simp at this
  · exact hempty

theorem PortState.countP_of_shrinks {q r : PortState} (h : q.shrinks r) (P : Queued → Bool) :
    r.entries.countP P ≤ q.entries.countP P := by
  obtain ⟨hq, he, -⟩ := h
  rw [countP_entries, countP_entries]
  have hu := (hq .urgent).countP_le (p := P)
  have hc := (hq .control).countP_le (p := P)
  have hb := (hq .bulk).countP_le (p := P)
  have he := he.countP_le (p := P)
  omega

theorem queuesFit_shrink {s : State} {r : Nat} {p : Port} {f : PortState → PortState} (hs : s.queuesFit r)
    (h : (s.port p).shrinks (f (s.port p))) : (s.modPort p f).queuesFit r :=
  queuesFit_modPort hs (PortState.neat_of_shrinks h (hs.1 p)) fun P _ => PortState.countP_of_shrinks h P

theorem queuesFit_countPort {s : State} {r : Nat} (p : Port) (c : PortCounter) (hs : s.queuesFit r) :
    (countPort p c s).queuesFit r :=
  queuesFit_shrink hs (PortState.shrinks_of_eq rfl rfl rfl rfl id)

@[simp] theorem modQueue_queue (q : PortState) (c : QClass) (f : List Queued → List Queued) :
    (q.modQueue c f).queue c = f (q.queue c) := by cases c <;> rfl

theorem modQueue_queue_ne {q : PortState} {c d : QClass} {f : List Queued → List Queued} (h : d ≠ c) :
    (q.modQueue c f).queue d = q.queue d := by cases c <;> cases d <;> first | rfl | exact absurd rfl h

theorem modQueue_congr {q : PortState} {c : QClass} {f g : List Queued → List Queued} (h : f (q.queue c) = g (q.queue c)) :
    q.modQueue c f = q.modQueue c g := by
  cases c <;> simp_all [PortState.modQueue, PortState.queue]

@[simp] theorem modQueue_engine (q : PortState) (c : QClass) (f : List Queued → List Queued) :
    (q.modQueue c f).engine = q.engine := by cases c <;> rfl

@[simp] theorem modQueue_health (q : PortState) (c : QClass) (f : List Queued → List Queued) :
    (q.modQueue c f).health = q.health := by cases c <;> rfl

/-- A class queue that changes, at a port that is not ISOLATED: the new frames stand in their class. -/
theorem PortState.neat_modQueue {p : Port} {q : PortState} {c : QClass} {f : List Queued → List Queued} (hn : q.neat p)
    (hi : q.health ≠ .isolated)
    (hf : ∀ e ∈ f (q.queue c), e.cls = c ∧ ∀ k, e.origin = .own k → k.port = p ∧ k.cls = c)
    (hk : ∀ k : OwnKind, k.coalesced = true → k.port = p → k.cls = c → (f (q.queue c)).countP (Queued.isKind k) ≤ 1) :
    (q.modQueue c f).neat p := by
  obtain ⟨-, hc, ho, hone⟩ := hn
  refine ⟨fun h => absurd h (by simpa using hi), fun d e he => ?_, fun e he k hok => ?_, fun k hk' hp => ?_⟩
  · by_cases hd : d = c
    · subst hd; rw [modQueue_queue] at he; exact (hf e he).1
    · rw [modQueue_queue_ne hd] at he; exact hc d e he
  · obtain ⟨d, he⟩ | he := mem_entries he
    · by_cases hd : d = c
      · subst hd
        rw [modQueue_queue] at he
        obtain ⟨hcls, hown⟩ := hf e he
        exact ⟨(hown k hok).1, (hown k hok).2.trans hcls.symm⟩
      · rw [modQueue_queue_ne hd] at he; exact ho e (mem_entries_of_queue he) k hok
    · rw [modQueue_engine] at he; exact ho e (List.mem_append_right _ he) k hok
  · by_cases hd : k.cls = c
    · rw [hd, modQueue_queue]; exact hk k hk' hp hd
    · rw [modQueue_queue_ne hd]; exact hone k hk' hp

theorem countP_modQueue_le {q : PortState} {c : QClass} {f : List Queued → List Queued} {P : Queued → Bool} {d : Nat}
    (h : (f (q.queue c)).countP P ≤ (q.queue c).countP P + d) :
    (q.modQueue c f).entries.countP P ≤ q.entries.countP P + d := by
  cases c <;> simp only [countP_entries, modQueue_engine, modQueue_queue, modQueue_queue_ne (c := _) (d := _),
    ne_eq, reduceCtorEq, not_false_eq_true] <;> omega

/-! #### Frames that join -/

theorem isKind_iff (k : OwnKind) (e : Queued) : Queued.isKind k e = true ↔ e.origin = .own k := by
  simp [Queued.isKind]

/-- The frame of a queue member may be rewritten: its origin and class stay. -/
theorem mem_rewriteFirst {p : Queued → Bool} {f : Frame} {l : List Queued} {e : Queued} (h : e ∈ rewriteFirst p f l) :
    ∃ x ∈ l, x.origin = e.origin ∧ x.cls = e.cls := by
  induction l with
  | nil => simp [rewriteFirst] at h
  | cons a l ih =>
    unfold rewriteFirst at h
    split at h
    · obtain rfl | h := List.mem_cons.mp h
      · exact ⟨a, by simp, rfl, rfl⟩
      · exact ⟨e, by simp [h], rfl, rfl⟩
    · obtain rfl | h := List.mem_cons.mp h
      · exact ⟨e, by simp, rfl, rfl⟩
      · obtain ⟨x, hx, ho⟩ := ih h
        exact ⟨x, by simp [hx], ho⟩

/-- What a predicate on frames reads of them is where they come from. -/
def Queued.originOnly (P : Queued → Bool) : Prop := ∀ e f, e.origin = f.origin → P e = P f

theorem originOnly_isKind (k : OwnKind) : Queued.originOnly (Queued.isKind k) := fun e f h => by simp [Queued.isKind, h]

theorem originOnly_pools : ∀ P ∈ [Queued.isTransit, Queued.isKind .reply, Queued.isStepReport], Queued.originOnly P := by
  simp only [List.forall_mem_cons, List.not_mem_nil, IsEmpty.forall_iff, implies_true, and_true]
  exact ⟨fun e f h => by simp [Queued.isTransit, Queued.fromPort, h], originOnly_isKind _,
    fun e f h => by simp [Queued.isStepReport, h]⟩

theorem countP_rewriteFirst_of {P : Queued → Bool} (hP : Queued.originOnly P) (p : Queued → Bool) (f : Frame)
    (l : List Queued) : (rewriteFirst p f l).countP P = l.countP P := by
  induction l with
  | nil => rfl
  | cons a l ih =>
    unfold rewriteFirst
    split
    · rw [List.countP_cons, List.countP_cons, hP { a with frame := f } a rfl]
    · rw [List.countP_cons, List.countP_cons, ih]

theorem countP_eq_zero_of_any {P : Queued → Bool} {l : List Queued} (h : l.any P = false) : l.countP P = 0 := by
  rw [List.countP_eq_zero]
  intro e he
  simp only [List.any_eq_false] at h
  exact h e he

/-- A pool counts a new frame only if it is one of its own. -/
theorem countP_concat (l : List Queued) (e : Queued) (P : Queued → Bool) :
    (l ++ [e]).countP P = l.countP P + if P e then 1 else 0 := by
  simp [List.countP_append, List.countP_cons]

/-- A frame of the part joins its port's queue of its class (R158): one of a coalesced kind, where none of its kind waits. -/
theorem queuesFit_append {s : State} {r r' : Nat} {p : Port} {e : Queued} (hs : s.queuesFit r)
    (hi : (s.port p).health ≠ .isolated) (ho : ∀ k, e.origin = .own k → k.port = p ∧ k.cls = e.cls)
    (hone : ∀ k, e.origin = .own k → k.coalesced = true → ((s.port p).queue e.cls).any (Queued.isKind k) = false)
    (ht : e.isTransit = true → s.heldSum < 48) (hr : r ≤ r') (hr' : Queued.isKind .reply e = true → r + 1 ≤ r')
    (hst : e.isStepReport = true → s.control.entries.countP Queued.isStepReport < 4) :
    (s.modPort p (fun q => q.modQueue e.cls (· ++ [e]))).queuesFit r' := by
  obtain ⟨hn, h1, h2, h3⟩ := hs
  have hcount : ∀ P : Queued → Bool, (((s.port p).modQueue e.cls (· ++ [e])).entries).countP P ≤
      (s.port p).entries.countP P + if P e then 1 else 0 := fun P =>
    countP_modQueue_le (by rw [countP_concat])
  have hneat : ((s.port p).modQueue e.cls (· ++ [e])).neat p := by
    have ⟨_, hc, hown, hk⟩ := hn p
    refine PortState.neat_modQueue (hn p) hi (fun x hx => ?_) (fun k hk' hp hcls => ?_)
    · obtain hx | hx := List.mem_append.mp hx
      · exact ⟨hc _ x hx, fun k hok => ⟨(hown x (mem_entries_of_queue hx) k hok).1,
          (hown x (mem_entries_of_queue hx) k hok).2.trans (hc _ x hx)⟩⟩
      · obtain rfl := List.mem_singleton.mp hx
        exact ⟨rfl, ho⟩
    · rw [countP_concat]
      split
      · next he => rw [countP_eq_zero_of_any (hone k ((isKind_iff k e).mp he) hk')]
      · rw [← hcls]; exact hk k hk' hp
  have hfst : ∀ x, ((s.modPort p (fun q => q.modQueue e.cls (· ++ [e]))).port x).neat x := fun x => by
    by_cases hx : x = p
    · subst hx; rw [port_modPort]; exact hneat
    · rw [port_modPort_ne hx]; exact hn x
  have hT := hcount Queued.isTransit
  have hR := hcount (Queued.isKind .reply)
  have hS := hcount Queued.isStepReport
  rw [heldSum_eq] at ht
  refine ⟨hfst, ?_⟩
  cases p with
  | control =>
    simp only [State.modPort, port_control] at hT hR hS ⊢
    refine ⟨?_, ?_, ?_⟩
    · by_cases h : e.isTransit = true
      · have := ht h; rw [if_pos h] at hT; omega
      · rw [if_neg h] at hT; omega
    · by_cases h : Queued.isKind .reply e = true
      · have := hr' h; rw [if_pos h] at hR; omega
      · rw [if_neg h] at hR; omega
    · by_cases h : e.isStepReport = true
      · have := hst h; rw [if_pos h] at hS; omega
      · rw [if_neg h] at hS; omega
  | appliance =>
    simp only [State.modPort, port_appliance] at hT ⊢
    refine ⟨?_, h2.trans hr, h3⟩
    by_cases h : e.isTransit = true
    · have := ht h; rw [if_pos h] at hT; omega
    · rw [if_neg h] at hT; omega

theorem queuesFit_originate {s : State} {r r' : Nat} (k : OwnKind) (dest : NodeId) (payload : List Byte) (hs : s.queuesFit r)
    (hr : r ≤ r') (hr' : k = .reply → r + 1 ≤ r')
    (hst : ∀ n, k = .stepReport n → s.control.health ≠ .isolated → s.control.entries.countP Queued.isStepReport < 4) :
    (originate k dest payload s).queuesFit r' := by
  have weaken : ∀ {t : State}, t.queuesFit r → t.queuesFit r' := fun ⟨h1, h2, h3, h4⟩ => ⟨h1, h2, h3.trans hr, h4⟩
  unfold originate
  split
  · exact weaken (queuesFit_countPort _ _ hs)
  · next hi =>
    by_cases hj : (k.coalesced && ((s.port k.port).queue k.cls).any (Queued.isKind k)) = true
    · rw [modPort_congr (g := fun q => q.modQueue k.cls (rewriteFirst (Queued.isKind k) (ownFrame s.ownNode k dest payload)))
        (modQueue_congr (f := joinQueue k _) (if_pos hj))]
      have ⟨_, hc, hown, hk⟩ := hs.1 k.port
      refine weaken (queuesFit_modPort hs (PortState.neat_modQueue (hs.1 _) hi (fun e he => ?_) (fun k' hk' hp hcls => ?_))
        fun P hP => ?_)
      · obtain ⟨x, hx, hxo, hxc⟩ := mem_rewriteFirst he
        exact ⟨hxc.symm.trans (hc _ x hx), fun k' hok => by
          obtain ⟨h1, h2⟩ := hown x (mem_entries_of_queue hx) k' (hxo.trans hok)
          exact ⟨h1, h2.trans (hc _ x hx)⟩⟩
      · rw [countP_rewriteFirst_of (originOnly_isKind k'), ← hcls]; exact hk k' hk' hp
      · exact countP_modQueue_le (d := 0) (by rw [countP_rewriteFirst_of (originOnly_pools P hP)]; omega)
    · rw [modPort_congr (g := fun q => q.modQueue k.cls (· ++ [⟨ownFrame s.ownNode k dest payload, .own k, k.cls⟩]))
        (modQueue_congr (q := s.port k.port) (c := k.cls) (f := joinQueue k (ownFrame s.ownNode k dest payload))
          (g := fun l => l ++ [(⟨ownFrame s.ownNode k dest payload, .own k, k.cls⟩ : Queued)]) (if_neg hj))]
      refine queuesFit_append (e := ⟨ownFrame s.ownNode k dest payload, .own k, k.cls⟩) hs hi ?_ ?_ ?_ hr ?_ ?_
      · rintro k' hk'; cases hk'; exact ⟨rfl, rfl⟩
      · rintro k' hk' hco; cases hk'; simpa [hco] using hj
      · intro h; simp [Queued.isTransit, Queued.fromPort] at h
      · intro h; exact hr' (by simpa [Queued.isKind] using h)
      · intro h
        simp only [Queued.isStepReport, Bool.or_eq_true, beq_iff_eq, FrameOrigin.own.injEq] at h
        obtain rfl | rfl := h
        · exact hst _ rfl hi
        · exact hst _ rfl hi

end Sys2Proof.Machine

namespace Sys2Proof.Machine

open Sys2Proof

/-! #### The transmit engine (R163, R164) -/

theorem reloadCredits_queue (q : PortState) (c : QClass) : (reloadCredits q).queue c = q.queue c := by
  unfold reloadCredits; split <;> cases c <;> rfl

theorem reloadCredits_engine (q : PortState) : (reloadCredits q).engine = q.engine := by
  unfold reloadCredits; split <;> rfl

/-- The chosen frame moves from the head of its queue into the engine (R163). -/
theorem offerFrame_cases (q : PortState) : offerFrame q = q ∨
    ∃ c e rest, q.queue c = e :: rest ∧ (∀ d, d ≠ c → (offerFrame q).queue d = q.queue d) ∧
      (offerFrame q).queue c = rest ∧ (offerFrame q).engine = [e] ∧ (offerFrame q).health = q.health := by
  unfold offerFrame
  split
  · exact .inl rfl
  · next c _ =>
    split
    · exact .inl rfl
    · next e rest h =>
      refine .inr ⟨c, e, rest, h, fun d hd => ?_, ?_, rfl, ?_⟩
      · cases c <;> cases d <;> first | rfl | exact absurd rfl hd
      · cases c <;> rfl
      · cases c <;> rfl

/-- The head of a class queue takes the place of what the engine held. -/
theorem queuesFit_head {s : State} {r : Nat} {p : Port} {f : PortState → PortState} {c : QClass} {e : Queued}
    {rest : List Queued} (hs : s.queuesFit r) (hq : (s.port p).queue c = e :: rest)
    (hd : ∀ d, d ≠ c → (f (s.port p)).queue d = (s.port p).queue d) (hc : (f (s.port p)).queue c = rest)
    (he : (f (s.port p)).engine = [e]) (hh : (f (s.port p)).health = (s.port p).health) :
    (s.modPort p f).queuesFit r := by
  obtain ⟨hi, hcls, ho, hk⟩ := hs.1 p
  have hsub : ∀ d, ((f (s.port p)).queue d).Sublist ((s.port p).queue d) := fun d => by
    by_cases h : d = c
    · subst h; rw [hc, hq]; exact List.sublist_cons_self ..
    · rw [hd d h]
  have hin : e ∈ (s.port p).queue c := by rw [hq]; simp
  refine queuesFit_modPort hs ⟨fun hiso => ?_, fun d x hx => hcls d x ((hsub d).subset hx), fun x hx => ?_,
    fun k hk' hp => (hsub _).countP_le.trans (hk k hk' hp)⟩ fun P _ => ?_
  · have := hi (hh ▸ hiso)
    have hmem := mem_entries_of_queue hin
    rw [this] at hmem; simp at hmem
  · obtain ⟨d, hx⟩ | hx := mem_entries hx
    · exact ho x (mem_entries_of_queue ((hsub d).subset hx))
    · rw [he] at hx; obtain rfl := List.mem_singleton.mp hx
      exact ho x (mem_entries_of_queue hin)
  · have hcount : ((f (s.port p)).queue c).countP P + [e].countP P = ((s.port p).queue c).countP P := by
      rw [hc, hq, List.countP_cons (l := rest), List.countP_singleton]
    rw [countP_entries, countP_entries, he]
    cases c
    · rw [hd .control (by simp), hd .bulk (by simp)]; omega
    · rw [hd .urgent (by simp), hd .bulk (by simp)]; omega
    · rw [hd .urgent (by simp), hd .control (by simp)]; omega

theorem queuesFit_offer {s : State} {r : Nat} {p : Port} (hs : s.queuesFit r) :
    (s.modPort p (fun q => offerFrame (reloadCredits q))).queuesFit r := by
  have hrel : (s.modPort p reloadCredits).queuesFit r := queuesFit_shrink hs (by
    refine ⟨fun c => by rw [reloadCredits_queue], by rw [reloadCredits_engine], fun h => .inl ?_⟩
    rwa [(reloadCredits_outline_fields _).1] at h)
  rw [← modPort_modPort]
  obtain h | ⟨c, e, rest, hq, hd, hc, he, hh⟩ := offerFrame_cases ((s.modPort p reloadCredits).port p)
  · rw [modPort_self h]; exact hrel
  · exact queuesFit_head hrel hq hd hc he hh

/-- A queue less the first frame of a kind. -/
theorem removeFirst_sublist (k : OwnKind) (l : List Queued) : (removeFirst k l).Sublist l := by
  induction l with
  | nil => exact List.Sublist.refl _
  | cons e l ih =>
    unfold removeFirst
    split
    · exact List.sublist_cons_self ..
    · exact ih.cons_cons _

theorem countP_removeFirst {k : OwnKind} {l : List Queued} (h : l.any (Queued.isKind k) = true) :
    (removeFirst k l).countP (Queued.isKind k) + 1 = l.countP (Queued.isKind k) := by
  induction l with
  | nil => simp at h
  | cons e l ih =>
    unfold removeFirst
    by_cases he : Queued.isKind k e = true
    · simp [he]
    · have := ih (by simpa [he] using h)
      simp [he, this]

/-- A frame of the engine that returns to the head of its queue, over a queue that has lost a frame of its kind, or where
none of its coalesced kind waits (R164). -/
theorem queuesFit_return {s : State} {r : Nat} {p : Port} {e : Queued} {x : Queued} {f : PortState → PortState}
    {g : List Queued → List Queued} (hs : s.queuesFit r) (he : (s.port p).engine = [e])
    (hq : ∀ c, (f (s.port p)).queue c = (s.port p).queue c) (hfe : (f (s.port p)).engine = [])
    (hh : (f (s.port p)).health = (s.port p).health) (hxo : x.origin = e.origin) (hxc : x.cls = e.cls)
    (hg : g ((s.port p).queue e.cls) |>.Sublist ((s.port p).queue e.cls))
    (hone : ∀ k, e.origin = .own k → k.coalesced = true →
      (g ((s.port p).queue e.cls)).countP (Queued.isKind k) = 0) :
    (s.modPort p (fun q => (f q).modQueue e.cls (fun l => x :: g l))).queuesFit r := by
  obtain ⟨hi, hcls, ho, hk⟩ := hs.1 p
  have hmem : e ∈ (s.port p).entries := List.mem_append_right _ (by rw [he]; simp)
  have hn : (s.port p).health ≠ .isolated := fun h => by rw [hi h] at hmem; simp at hmem
  have hneat : (f (s.port p)).neat p := by
    refine ⟨fun h => absurd (hh ▸ h) hn, fun c y hy => hcls c y (hq c ▸ hy), fun y hy => ?_,
      fun k hk' hp => by rw [hq]; exact hk k hk' hp⟩
    obtain ⟨c, hy⟩ | hy := mem_entries hy
    · exact ho y (mem_entries_of_queue (hq c ▸ hy))
    · rw [hfe] at hy; simp at hy
  refine queuesFit_modPort (f := fun q => (f q).modQueue e.cls (fun l => x :: g l)) hs
    (PortState.neat_modQueue hneat (hh ▸ hn) (fun y hy => ?_) (fun k hk' hp hkc => ?_)) fun P hP => ?_
  · obtain rfl | hy := List.mem_cons.mp hy
    · refine ⟨hxc, fun k hok => ?_⟩
      obtain ⟨h1, h2⟩ := ho e hmem k (hxo.symm.trans hok)
      exact ⟨h1, h2⟩
    · rw [hq] at hy
      have hy := hg.subset hy
      exact ⟨hcls _ y hy, fun k hok => ⟨(ho y (mem_entries_of_queue hy) k hok).1,
        (ho y (mem_entries_of_queue hy) k hok).2.trans (hcls _ y hy)⟩⟩
  · rw [hq, List.countP_cons]
    split
    · next hx => rw [hone k (hxo.symm.trans ((isKind_iff k x).mp hx)) hk']
    · exact hg.countP_le.trans (hkc ▸ hk k hk' hp)
  · have hx : P x = P e := originOnly_pools P hP x e hxo
    have hgc := hg.countP_le (p := P)
    have hcount : ((f (s.port p)).modQueue e.cls (fun l => x :: g l)).entries.countP P ≤
        (f (s.port p)).entries.countP P + [e].countP P :=
      countP_modQueue_le (by rw [hq, List.countP_cons, List.countP_singleton, hx]; omega)
    refine hcount.trans ?_
    rw [countP_entries, countP_entries, hfe, he, hq, hq, hq]
    simp

theorem queuesFit_ite {r : Nat} {a b : State} {c : Prop} [Decidable c] (ha : a.queuesFit r) (hb : b.queuesFit r) :
    (if c then a else b).queuesFit r := by
  split
  · exact ha
  · exact hb

theorem queuesFit_returned {s : State} {r : Nat} {p : Port} {e : Queued} {f : PortState → PortState} (hs : s.queuesFit r)
    (he : (s.port p).engine = [e]) (hq : ∀ c, (f (s.port p)).queue c = (s.port p).queue c)
    (hfe : (f (s.port p)).engine = []) (hh : (f (s.port p)).health = (s.port p).health) :
    (returnUnsent p e (s.modPort p f)).queuesFit r := by
  have hdrop : (s.modPort p f).queuesFit r := queuesFit_shrink hs
    ⟨fun c => by rw [hq], by rw [hfe]; simp, fun h => .inl (hh ▸ h)⟩
  have hback : (∀ k, e.origin = .own k → k.coalesced = true →
      ((s.port p).queue e.cls).countP (Queued.isKind k) = 0) →
      ((s.modPort p f).modPort p (fun q => q.modQueue e.cls (e :: ·))).queuesFit r := fun h => by
    rw [modPort_modPort]
    exact queuesFit_return (g := fun l => l) hs he hq hfe hh rfl rfl (List.Sublist.refl _) h
  unfold returnUnsent
  split
  · next o ho => exact hback fun k hk => by rw [ho] at hk; cases hk
  · next k ho =>
    simp only [port_modPort, hq]
    split
    · next newer hf =>
      split at hf
      · next hco =>
        rw [modPort_modPort]
        refine queuesFit_return (x := { e with frame := newer.frame }) (g := removeFirst k) hs he hq hfe hh rfl rfl
          (removeFirst_sublist ..) fun k' hk' _ => ?_
        rw [ho] at hk'; cases hk'
        have hany : ((s.port p).queue e.cls).any (Queued.isKind k) = true :=
          List.any_eq_true.mpr ⟨newer, List.mem_of_find?_eq_some hf, List.find?_some hf⟩
        have hkc : k.port = p ∧ k.cls = e.cls :=
          (hs.1 p).2.2.1 e (List.mem_append_right _ (by rw [he]; simp)) k ho
        have h1 := (hs.1 p).2.2.2 k hco hkc.1
        have h2 := countP_removeFirst hany
        rw [hkc.2] at h1
        omega
      · cases hf
    · next hf =>
      refine queuesFit_ite hdrop (hback fun k' hk' hco => ?_)
      rw [ho] at hk'; cases hk'
      rw [if_pos hco] at hf
      exact List.countP_eq_zero.mpr fun x hx hx' => by simpa [hx'] using List.find?_eq_none.mp hf x hx

/-! #### Every step (R155 to R162) -/

theorem queuesFit_work {s t : State} {r : Nat} (h : Work s t) (hs : s.queuesFit r) : t.queuesFit r := by
  induction h with
  | refl => exact hs
  | aside _ hc ha _ ih => exact queuesFit_of_ports hc ha ih
  | shrink p f hf _ ih => exact queuesFit_shrink ih hf
  | originate k d l hk _ ih =>
    exact queuesFit_originate k d l ih le_rfl (fun h => by subst h; cases hk) fun n h => by subst h; cases hk
  | @stepReport u n x _ ih =>
    unfold originateStepReport
    split
    · exact queuesFit_of_ports (modSt_control ..) (modSt_appliance ..) ih
    · next hcap =>
      refine queuesFit_originate _ _ _ ih le_rfl (fun h => by cases h) fun _ _ hi => ?_
      have : ¬ 4 ≤ u.stepReportsHeld := fun hle => hcap ⟨hi, hle⟩
      exact Nat.lt_of_not_le this
  | @enqueue u p c f hr _ ih =>
    unfold enqueueTransit
    split
    · exact queuesFit_countPort _ _ ih
    · next hi =>
      exact queuesFit_append (e := ⟨f, .transit p, c⟩) ih hi (fun k hk => by cases hk) (fun k hk => by cases hk)
        (fun _ => hr) le_rfl (fun h => by simp [Queued.isKind] at h) (fun h => by simp [Queued.isStepReport] at h)
  | offer p _ ih => exact queuesFit_offer ih
  | returned p e f he hf hfe hh _ ih => exact queuesFit_returned ih he hf hfe hh
  | sent n _ ih => exact queuesFit_of_ports (by simp) (by simp) ih
  | divide b hb _ ih => exact queuesFit_of_ports rfl rfl ih

theorem queuesFit_discard {s : State} {r : Nat} (k : OwnKind) (hs : s.queuesFit r) : (discardUnsent k s).queuesFit r := by
  refine queuesFit_shrink hs ⟨fun c => ?_, by rw [modQueue_engine], fun h => .inl (by simpa using h)⟩
  by_cases hc : c = k.cls
  · subst hc; rw [modQueue_queue]; exact List.filter_sublist
  · rw [modQueue_queue_ne hc]

theorem queuesFit_modSt {s : State} {r : Nat} {n : StationId} {f : Station → Station} (hs : s.queuesFit r) :
    (s.modSt n f).queuesFit r := queuesFit_of_ports (by simp) (by simp) hs

theorem queuesFit_modSide {s : State} {r : Nat} {n : StationId} {f : ArbiterSide → ArbiterSide} (hs : s.queuesFit r) :
    (s.modSide n f).queuesFit r := queuesFit_of_ports (by simp) (by simp) hs

/-- Forgetting a role drops the frame that waited for its node (R18). -/
theorem queuesFit_forgetRoles {s : State} {r : Nat} (n : StationId) (old new : Binding) (hs : s.queuesFit r) :
    (forgetRoles n old new s).queuesFit r := by
  have hd : ∀ {u : State} (k : OwnKind), u.queuesFit r → (discardUnsent k u).queuesFit r := fun k h => queuesFit_discard k h
  unfold forgetRoles
  extract_lets s1 s2 s3 s4
  have h1 : s1.queuesFit r := by
    simp only [s1]; split
    · exact hs
    · exact queuesFit_modSide (hd _ (queuesFit_modSt hs))
  have h2 : s2.queuesFit r := by
    simp only [s2]; split
    · exact h1
    · exact queuesFit_modSide (queuesFit_modSt (queuesFit_modSt (hd _ h1)))
  have h3 : s3.queuesFit r := by
    simp only [s3]; split
    · exact h2
    · exact queuesFit_modSt h2
  have h4 : s4.queuesFit r := by
    simp only [s4]; split
    · exact h3
    · exact queuesFit_modSt h3
  split
  · exact h4
  · exact queuesFit_modSt (hd _ h4)

theorem queuesFit_effect {s u : State} {r : Nat} (hs : s.queuesFit r) (h : Effect s u) : u.queuesFit r := by
  obtain h | ⟨n, new, rfl⟩ | ⟨w, -, -, rfl⟩ := effect_work h
  · exact queuesFit_work h hs
  · exact queuesFit_work (followBinding_work n _ _ .refl)
      (queuesFit_modSt (queuesFit_forgetRoles n (s.st n).binding new hs))
  · exact queuesFit_work (recomputeArbiter_work .refl) (queuesFit_of_ports rfl rfl hs)

/-- A part whose control port holds nothing, or a NOTICE alone (R194). -/
theorem queuesFit_reset {s t : State} (h : Reset s t) : t.queuesFit 3 := by
  have empty : ∀ u : State, (∀ p, (u.port p).entries = []) → u.queuesFit 3 := fun u hu => by
    refine ⟨fun p => ⟨fun _ => hu p, fun c e he => ?_, fun e he => ?_, fun k _ hp => ?_⟩, ?_⟩
    · have := mem_entries_of_queue he; rw [hu p] at this; simp at this
    · rw [hu p] at he; simp at he
    · have : (u.port p).queue k.cls = [] := List.eq_nil_iff_forall_not_mem.mpr fun e he => by
        have := mem_entries_of_queue he; rw [hu p] at this; simp at this
      simp [this]
    · have hc := hu .control
      have ha := hu .appliance
      rw [port_control] at hc; rw [port_appliance] at ha
      simp [hc, ha]
  cases h with
  | asserted => exact empty _ fun p => by cases p <;> rfl
  | kept => exact queuesFit_work (setNotice_work _ .refl) (empty _ fun p => by cases p <;> rfl)
  | powerOn own l =>
    refine queuesFit_of_ports (s := State.modPort { State.blank own with pending := l } .control
      (fun q => q.modQueue .control (· ++ [restartedNotice own]))) rfl rfl ?_
    refine queuesFit_append (e := restartedNotice own) (empty _ fun p => by cases p <;> rfl) (by simp [State.port, State.blank])
      ?_ ?_ ?_ le_rfl ?_ ?_
    · rintro k hk; cases hk; exact ⟨rfl, rfl⟩
    · intros; rfl
    · intro h; simp [Queued.isTransit, Queued.fromPort, restartedNotice] at h
    · intro h; simp [Queued.isKind, restartedNotice] at h
    · intro h; simp [Queued.isStepReport, restartedNotice] at h

/-- A request in its turn finds a reply buffer, or a port that holds none (R161, R183). -/
theorem queuesFit_of_replyFree {s : State} (hs : s.queuesFit 3) (hf : s.replyFree = true) : s.queuesFit 2 := by
  obtain ⟨hn, ht, hr, hst⟩ := hs
  refine ⟨hn, ht, ?_, hst⟩
  simp only [State.replyFree, Bool.or_eq_true, beq_iff_eq, decide_eq_true_eq] at hf
  obtain hi | hlt := hf
  · have he : s.control.entries = [] := (hn .control).1 hi
    simp [he]
  · exact Nat.lt_succ_iff.mp hlt

/-! #### The origination pool (R159) -/

/-- The kinds that join class queue `c` of port `p` (R158). -/
def kindsOf (p : Port) (c : QClass) : List OwnKind :=
  [.lidSet .zero, .lidSet .one, .speedSet .zero, .speedSet .one, .heatSet .zero, .heatSet .one, .reply, .notice,
    .stepReport .zero, .stepReport .one, .weightReport .zero, .weightReport .one].filter
      (fun k => k.port = p && k.cls = c)

theorem mem_kindsOf (k : OwnKind) : k ∈ kindsOf k.port k.cls := by
  cases k <;> first | decide | (rename_i n; cases n <;> decide)

/-- The part's own frames in a list are those of each kind it can hold. -/
theorem countP_isOwn_le {l : List Queued} {ks : List OwnKind} (h : ∀ e ∈ l, ∀ k, e.origin = .own k → k ∈ ks) :
    l.countP Queued.isOwn ≤ (ks.map (fun k => l.countP (Queued.isKind k))).sum := by
  induction l with
  | nil => simp
  | cons e l ih =>
    have ih := ih fun x hx => h x (List.mem_cons_of_mem _ hx)
    have hsum : (ks.map (fun k => (e :: l).countP (Queued.isKind k))).sum =
        (ks.map (fun k => l.countP (Queued.isKind k))).sum + (ks.map (fun k => if Queued.isKind k e then 1 else 0)).sum := by
      rw [← List.sum_map_add]
      exact congrArg List.sum (List.map_congr_left fun k _ => List.countP_cons ..)
    rw [hsum, List.countP_cons]
    by_cases he : e.isOwn = true
    · rw [if_pos he]
      obtain ⟨k, hk⟩ : ∃ k, e.origin = .own k := by
        unfold Queued.isOwn at he
        split at he
        · next k hk => exact ⟨k, hk⟩
        · cases he
      have hone : 1 ≤ (ks.map (fun k => if Queued.isKind k e then 1 else 0)).sum :=
        List.le_sum_of_mem (List.mem_map.mpr ⟨k, h e (by simp) k hk, by simp [isKind_iff, hk]⟩)
      omega
    · rw [if_neg he]; omega

theorem engine_length_le (q : PortState) : q.engine.length ≤ 1 := by
  unfold PortState.engine; split <;> simp

theorem countP_isStepReport (l : List Queued) : l.countP Queued.isStepReport =
    l.countP (Queued.isKind (.stepReport .zero)) + l.countP (Queued.isKind (.stepReport .one)) := by
  induction l with
  | nil => rfl
  | cons e l ih =>
    simp only [List.countP_cons, ih, Queued.isStepReport]
    by_cases h0 : e.origin = .own (.stepReport .zero) <;> by_cases h1 : e.origin = .own (.stepReport .one) <;>
      simp_all [Queued.isKind] <;> omega

/-- The origination pool suffices: three replies, four step reports, nine coalesced kinds waiting and two frames in the
engines (R159 to R161). -/
theorem ownHeld_le {s : State} (hs : s.queuesFit 3) : s.ownHeld ≤ 20 := by
  obtain ⟨hn, -, hr, hst⟩ := hs
  have hqueue : ∀ p c, ((s.port p).queue c).countP Queued.isOwn ≤
      ((kindsOf p c).map (fun k => ((s.port p).queue c).countP (Queued.isKind k))).sum := fun p c =>
    countP_isOwn_le fun e he k hk => by
      obtain ⟨h1, h2⟩ := (hn p).2.2.1 e (mem_entries_of_queue he) k hk
      have := mem_kindsOf k
      rwa [h1, h2, (hn p).2.1 c e he] at this
  have hone : ∀ k : OwnKind, k.coalesced = true → ((s.port k.port).queue k.cls).countP (Queued.isKind k) ≤ 1 :=
    fun k hk => (hn k.port).2.2.2 k hk rfl
  have hengine : ∀ p, (s.port p).engine.countP Queued.isOwn ≤ 1 := fun p =>
    List.countP_le_length.trans (engine_length_le _)
  have hcu := hqueue .control .urgent
  have hcc := hqueue .control .control
  have hcb := hqueue .control .bulk
  have hau := hqueue .appliance .urgent
  have hac := hqueue .appliance .control
  have hab := hqueue .appliance .bulk
  simp only [kindsOf, OwnKind.port, OwnKind.cls, List.filter, List.map, List.sum_cons, List.sum_nil, decide_true, decide_false,
    Bool.and_true, Bool.and_false, reduceCtorEq] at hcu hcc hcb hau hac hab
  have hnotice := hone .notice rfl
  have hw0 := hone (.weightReport .zero) rfl
  have hw1 := hone (.weightReport .one) rfl
  have hl0 := hone (.lidSet .zero) rfl
  have hl1 := hone (.lidSet .one) rfl
  have hs0 := hone (.speedSet .zero) rfl
  have hs1 := hone (.speedSet .one) rfl
  have hh0 := hone (.heatSet .zero) rfl
  have hh1 := hone (.heatSet .one) rfl
  simp only [OwnKind.port, OwnKind.cls] at hnotice hw0 hw1 hl0 hl1 hs0 hs1 hh0 hh1
  rw [countP_isStepReport] at hst
  have e1 := countP_entries s.control (Queued.isKind .reply)
  have e2 := countP_entries s.control (Queued.isKind (.stepReport .zero))
  have e3 := countP_entries s.control (Queued.isKind (.stepReport .one))
  have hc := countP_entries s.control Queued.isOwn
  have ha := countP_entries s.appliance Queued.isOwn
  have gc := hengine .control
  have ga := hengine .appliance
  simp only [port_control, port_appliance] at *
  unfold State.ownHeld State.entries
  rw [List.countP_append]
  omega

/-- Settles O52: every change of a queue keeps its frames in their place and its pools within their bounds. -/
theorem stepKeepsQueues : Obligations.StepKeepsQueues := by
  have hkeep := step_keeps (I := State.queuesFit 3) (fun _ _ hs h => queuesFit_work (move_work h) hs)
    (fun _ _ => queuesFit_effect)
    (fun _ u r a hs hf h _ => queuesFit_of_ports (s := sendReply r a u) rfl rfl
      (queuesFit_originate _ _ _ (queuesFit_effect (queuesFit_of_replyFree hs hf) h) (by omega) (fun _ => le_rfl)
        fun _ h => by cases h))
    (fun _ _ _ => queuesFit_reset)
  exact ⟨fun s t hs h => (queuesSound_iff t).mpr (hkeep s t ((queuesSound_iff s).mp hs) h),
    fun s hs => ownHeld_le ((queuesSound_iff s).mp hs)⟩

end Sys2Proof.Machine

/-! PROOFS. The scales (chapter 3) and the settings: what a link event leaves of the stations, the pieces of work on a weigh
context, and two invariants they keep (R58, R63, R64, R68, R80 to R82). -/

namespace Sys2Proof.Machine

open Sys2Proof Relation

/-! ### The stations under the link events -/

@[simp] theorem setHealth_st (p : Port) (x : Health) (s : State) (m : StationId) : (setHealth p x s).st m = s.st m := by
  unfold setHealth; split <;> simp

@[simp] theorem followCounts_st (p : Port) (s : State) (m : StationId) : (followCounts p s).st m = s.st m := by
  unfold followCounts; split <;> simp

@[simp] theorem countDrops_st (p : Port) (k : Nat) (s : State) (m : StationId) : (countDrops p k s).st m = s.st m := by
  induction k generalizing s with
  | zero => rfl
  | succ k ih => simp [countDrops, ih]

@[simp] theorem returnUnsent_st (p : Port) (e : Queued) (s : State) (m : StationId) :
    (returnUnsent p e s).st m = s.st m := by
  unfold returnUnsent; (repeat' split) <;> simp

@[simp] theorem enqueueTransit_st (p : Port) (c : QClass) (f : Frame) (s : State) (m : StationId) :
    (enqueueTransit p c f s).st m = s.st m := by
  unfold enqueueTransit; split <;> simp

@[simp] theorem receiveErrorAt_st (p : Port) (error : RxError) (s : State) (m : StationId) :
    (receiveErrorAt p error s).st m = s.st m := by
  simp [receiveErrorAt]

@[simp] theorem stopSending_st (p : Port) (s : State) (m : StationId) : (stopSending p s).st m = s.st m := by
  unfold stopSending; split <;> simp

@[simp] theorem leftIsolation_run (p : Port) (s : State) (m : StationId) :
    ((leftIsolation p s).st m).run = (s.st m).run := by
  unfold leftIsolation; cases p
  · dsimp only; split <;> simp
  · simp

@[simp] theorem leftIsolation_weigh (p : Port) (s : State) (m : StationId) :
    ((leftIsolation p s).st m).weigh = (s.st m).weigh := by
  unfold leftIsolation; cases p
  · dsimp only; split <;> simp
  · simp

@[simp] theorem leftIsolation_weighCfg (p : Port) (s : State) (m : StationId) :
    ((leftIsolation p s).st m).weighCfg = (s.st m).weighCfg := by
  unfold leftIsolation; cases p
  · dsimp only; split <;> simp
  · simp

@[simp] theorem leftIsolation_heat (p : Port) (s : State) (m : StationId) :
    ((leftIsolation p s).st m).heat = (s.st m).heat := by
  unfold leftIsolation; cases p
  · dsimp only; split <;> simp
  · simp

/-- Leaving ISOLATED serves pending unlocks and moves nothing else of a station (R129, R179). -/
def Station.sameButDrive (a b : Station) : Prop :=
  a.run = b.run ∧ a.weigh = b.weigh ∧ a.weighCfg = b.weighCfg ∧ a.heat = b.heat

theorem recoverPort_sameButDrive (p : Port) (s : State) (m : StationId) :
    ((recoverPort p s).st m).sameButDrive (s.st m) := by
  simp [Station.sameButDrive, recoverPort]

theorem recoverIfMet_sameButDrive (p : Port) (s : State) (m : StationId) :
    ((recoverIfMet p s).st m).sameButDrive (s.st m) := by
  unfold recoverIfMet; split
  · exact recoverPort_sameButDrive p s m
  · exact ⟨rfl, rfl, rfl, rfl⟩

theorem goodFrameAt_sameButDrive (p : Port) (s : State) (m : StationId) :
    ((goodFrameAt p s).st m).sameButDrive (s.st m) := by
  have h := recoverIfMet_sameButDrive p (followCounts p (s.modPort p (fun q => { q with
    activity := .idle, wasTransmitter := false, voided := false, errorMark := none
    acknowledged := acknowledges q.health, rx := rxDown q.rx
    goodFrames := if q.health = .isolated then q.goodFrames + 1 else q.goodFrames }))) m
  simpa [goodFrameAt] using h

theorem restartPort_sameButDrive (p : Port) (s : State) (m : StationId) :
    ((restartPort p s).st m).sameButDrive (s.st m) := by
  unfold restartPort
  dsimp only
  split <;> simp [Station.sameButDrive]

@[simp] theorem enterIsolated_weigh (p : Port) (s : State) (m : StationId) :
    ((enterIsolated p s).st m).weigh = (s.st m).weigh := by
  cases p <;> simp [enterIsolated]

@[simp] theorem enterIsolated_weighCfg (p : Port) (s : State) (m : StationId) :
    ((enterIsolated p s).st m).weighCfg = (s.st m).weighCfg := by
  cases p <;> simp [enterIsolated]

@[simp] theorem transmitErrorAt_weigh (p : Port) (error : TxError) (s : State) (m : StationId) :
    ((transmitErrorAt p error s).st m).weigh = (s.st m).weigh := by
  simp only [transmitErrorAt]; split <;> simp

@[simp] theorem transmitErrorAt_weighCfg (p : Port) (error : TxError) (s : State) (m : StationId) :
    ((transmitErrorAt p error s).st m).weighCfg = (s.st m).weighCfg := by
  simp only [transmitErrorAt]; split <;> simp

/-- Freed locks leave the working contexts and configurations (R16). -/
theorem freeLocks_contexts (gone : NodeId → Bool) (st : Station) :
    (freeLocks gone st).run = st.run ∧ (freeLocks gone st).drive = st.drive ∧ (freeLocks gone st).weigh = st.weigh ∧
      (freeLocks gone st).weighCfg = st.weighCfg ∧ (freeLocks gone st).heat = st.heat := by
  unfold freeLocks; split <;> exact ⟨rfl, rfl, rfl, rfl, rfl⟩

theorem removeEntry_st (i : Nat) (s : State) (m : StationId) :
    ∃ gone, (removeEntry i s).st m = freeLocks gone (s.st m) := by
  cases he : s.entryAt i with
  | none => exact ⟨fun _ => false, by unfold freeLocks; split <;> simp [removeEntry, he] at *⟩
  | some e =>
    refine ⟨(· == e.number), ?_⟩
    rw [removeEntry_of_some he, show freeLock e.number = freeLocks (· == e.number) from funext (freeLock_eq_freeLocks _)]
    cases m with
    | zero => rw [st_modSt_ne (by decide), st_modSt, setEntry_st]
    | one => rw [st_modSt, st_modSt_ne (by decide), setEntry_st]

/-! ### Pieces of work on a weigh context -/

/-- The filtered weight, the tare and the net weight stay, and the ring stays or is flushed (R69). -/
def WeighContext.sameMeasure (w v : WeighContext) : Prop :=
  (v.ring = w.ring ∨ v.ring = []) ∧ v.filtered = w.filtered ∧ v.tare = w.tare ∧ v.net = w.net

/-- An operation goes on, with what a zero capture has gathered, or has ended (R74). -/
def WeighContext.sameOp (w v : WeighContext) : Prop :=
  v.op = .none ∨ v.op = w.op ∧ v.refMass = w.refMass ∧ (w.op = .zeroing → v.accCount = w.accCount ∧
    v.sum0 = w.sum0 ∧ v.sum1 = w.sum1 ∧ v.sum2 = w.sum2 ∧ v.sum3 = w.sum3)

/-- A sample within its 24 bits (R197). -/
def WeighSample.inRange (x : WeighSample) : Prop := ∀ c ∈ [x.c0, x.c1, x.c2, x.c3], -8388608 ≤ c ∧ c ≤ 8388607

/-- The cell sums of a zero capture with one more sample (R80). -/
def WeighContext.gathered (w : WeighContext) (x : WeighSample) : WeighContext :=
  { w with
    sum0 := w.sum0 + x.c0, sum1 := w.sum1 + x.c1, sum2 := w.sum2 + x.c2, sum3 := w.sum3 + x.c3
    accCount := w.accCount + 1 }

/-- The offsets that a zero capture of these sums writes (R80). -/
def WeighConfig.zeroed (c : WeighConfig) (w : WeighContext) : WeighConfig :=
  { c with
    zero0 := roundDiv w.sum0 16, zero1 := roundDiv w.sum1 16, zero2 := roundDiv w.sum2 16, zero3 := roundDiv w.sum3 16 }

/-- What a configuration and its weigh context become by one piece of work (R59, R61, R73 to R82). -/
inductive ScaleStep : WeighConfig × WeighContext → WeighConfig × WeighContext → Prop
  | quiet (c : WeighConfig) (w v : WeighContext) (hm : w.sameMeasure v) (ho : w.sameOp v) : ScaleStep (c, w) (c, v)
  | start (c : WeighConfig) (w : WeighContext) (op : WeighOp) (ms : Nat) (mass : Option Int)
      (h : op = .calibrating → ∃ m, mass = some m ∧ 100 ≤ m) : ScaleStep (c, w) (c, startOp op ms mass w)
  | tare (c : WeighConfig) (w : WeighContext) (x : Int) :
      ScaleStep (c, w) (c, { w with tare := clampInt (-c.cap) c.cap x, net := netOf c.cap w.filtered (clampInt (-c.cap) c.cap x) })
  | update (c : WeighConfig) (w : WeighContext) (win : Nat) (x : WeighSample) : ScaleStep (c, w) (c, filterUpdate c win x w)
  | gather (c : WeighConfig) (w : WeighContext) (x : WeighSample) (hx : x.inRange) (ho : w.op = .zeroing)
      (hn : w.accCount + 1 < 16) : ScaleStep (c, w) (c, w.gathered x)
  | zero (c : WeighConfig) (w v : WeighContext) (x : WeighSample) (hx : x.inRange) (ho : w.op = .zeroing)
      (hn : 16 ≤ w.accCount + 1) (hv : v.op = .none)
      (hm : ({ flushRing w with tare := 0, filtered := 0, net := 0 } : WeighContext).sameMeasure v) :
      ScaleStep (c, w) (c.zeroed (w.gathered x), v)
  | gain (c : WeighConfig) (w v : WeighContext) (g sum : Int) (ho : w.op = .calibrating)
      (hg : calibratedGain (w.refMass.getD 0) sum = some g) (hv : v.op = .none)
      (hm : ({ flushRing w with filtered := w.refMass.getD 0, net := netOf c.cap (w.refMass.getD 0) w.tare } :
        WeighContext).sameMeasure v) :
      ScaleStep (c, w) ({ c with gain := g }, v)
  | cap (c : WeighConfig) (w : WeighContext) (v : Int) (h : weighInRange 0 v = true) :
      ScaleStep (c, w) ({ c with cap := v }, capWeigh v w)
  | item (c : WeighConfig) (w v : WeighContext) (id : Nat) (x : Int) (h0 : id ≠ 0) (h : weighInRange id x = true)
      (hm : w.sameMeasure v) (ho : w.sameOp v) : ScaleStep (c, w) (setWeighItem c id x, v)

/-- The configuration and weigh context of a station. -/
def Station.scale (st : Station) : WeighConfig × WeighContext := (st.weighCfg, st.weigh)

/-- A chain of such pieces. -/
abbrev ScaleSteps : WeighConfig × WeighContext → WeighConfig × WeighContext → Prop := ReflTransGen ScaleStep

theorem WeighContext.sameMeasure.refl (w : WeighContext) : w.sameMeasure w := ⟨.inl rfl, rfl, rfl, rfl⟩

theorem WeighContext.sameOp.refl (w : WeighContext) : w.sameOp w := .inr ⟨rfl, rfl, fun _ => ⟨rfl, rfl, rfl, rfl, rfl⟩⟩

theorem scaleSteps_of_eq {a b : Station} (hc : b.weighCfg = a.weighCfg) (hw : b.weigh = a.weigh) :
    ScaleSteps a.scale b.scale := by
  unfold Station.scale; rw [hc, hw]

theorem scaleSteps_quiet {a b : Station} (hc : b.weighCfg = a.weighCfg) (hm : a.weigh.sameMeasure b.weigh)
    (ho : a.weigh.sameOp b.weigh) : ScaleSteps a.scale b.scale := by
  unfold Station.scale; rw [hc]; exact .single (.quiet _ _ _ hm ho)

/-- One station at work, the other as it was. -/
theorem scaleSteps_at {s t : State} {n : StationId} (ho : t.st (otherStation n) = s.st (otherStation n))
    (hn : ScaleSteps (s.st n).scale (t.st n).scale) (m : StationId) : ScaleSteps (s.st m).scale (t.st m).scale := by
  obtain rfl | rfl : m = n ∨ m = otherStation n := (em (m = n)).imp_right eq_otherStation_of_ne
  · exact hn
  · rw [ho]

theorem scaleSteps_modSt {s : State} {n : StationId} {f : Station → Station} (hf : (f (s.st n)).scale = (s.st n).scale)
    (m : StationId) : ScaleSteps (s.st m).scale ((s.modSt n f).st m).scale := by
  by_cases hm : m = n
  · subst hm; rw [st_modSt, hf]
  · rw [st_modSt_ne hm]

theorem clearOp_recordOutcome_fields (o : OpOutcome) (w : WeighContext) :
    w.sameMeasure (clearOp (recordOutcome o w)) ∧ (clearOp (recordOutcome o w)).op = .none := by
  unfold recordOutcome
  split <;> exact ⟨.refl _, rfl⟩

@[simp] theorem endOp_weigh_same (n : StationId) (o : OpOutcome) (s : State) :
    ((endOp n o s).st n).weigh = clearOp (recordOutcome o (s.st n).weigh) := by
  simp [endOp]

theorem endOp_scale (n : StationId) (o : OpOutcome) (s : State) : ScaleSteps (s.st n).scale ((endOp n o s).st n).scale := by
  obtain ⟨hm, ho⟩ := clearOp_recordOutcome_fields o (s.st n).weigh
  exact scaleSteps_quiet (by simp) (by rwa [endOp_weigh_same]) (.inl (by rwa [endOp_weigh_same]))

/-! ### The intake of a sample (R60, R61, R77, R80, R82) -/

theorem changeTare_scale (n : StationId) (x : Int) (s : State) : ScaleSteps (s.st n).scale
    ((changeTare n (clampInt (-(s.st n).weighCfg.cap) (s.st n).weighCfg.cap x) s).st n).scale := by
  have : ((changeTare n (clampInt (-(s.st n).weighCfg.cap) (s.st n).weighCfg.cap x) s).st n).weigh =
      { (s.st n).weigh with
        tare := clampInt (-(s.st n).weighCfg.cap) (s.st n).weighCfg.cap x
        net := netOf (s.st n).weighCfg.cap (s.st n).weigh.filtered
          (clampInt (-(s.st n).weighCfg.cap) (s.st n).weighCfg.cap x) } := by
    simp [changeTare]
  unfold Station.scale
  rw [this, changeTare_weighCfg]
  exact .single (.tare ..)

theorem completeZero_scale {n : StationId} {s : State} {x : WeighSample} {c : WeighConfig} {w : WeighContext}
    (hx : x.inRange) (ho : w.op = .zeroing) (hn : 16 ≤ w.accCount + 1) (hc : (s.st n).weighCfg = c)
    (hw : (s.st n).weigh = w.gathered x) : ScaleSteps (c, w) ((completeZero n s).st n).scale := by
  have hend := clearOp_recordOutcome_fields .done { flushRing (s.st n).weigh with tare := 0, filtered := 0, net := 0 }
  have hcfg : ((completeZero n s).st n).weighCfg = c.zeroed (w.gathered x) := by
    simp [completeZero, WeighConfig.zeroed, hc, hw]
  have hctx : ((completeZero n s).st n).weigh = clearOp (recordOutcome .done
      { flushRing (s.st n).weigh with tare := 0, filtered := 0, net := 0 }) := by
    simp [completeZero]
  unfold Station.scale
  rw [hcfg, hctx]
  refine .single (.zero c w _ x hx ho hn hend.2 ?_)
  obtain ⟨⟨hr, hf, ht, hnet⟩, -⟩ := hend
  exact ⟨hr, hf, ht, hnet⟩

theorem completeCalibrate_scale {n : StationId} {s : State} (ho : (s.st n).weigh.op = .calibrating) :
    ScaleSteps (s.st n).scale ((completeCalibrate n s).st n).scale := by
  unfold completeCalibrate
  dsimp only
  split
  · exact endOp_scale ..
  · next g hg =>
    have hend := clearOp_recordOutcome_fields .done
      { flushRing (s.st n).weigh with
        filtered := (s.st n).weigh.refMass.getD 0
        net := netOf (s.st n).weighCfg.cap ((s.st n).weigh.refMass.getD 0) (s.st n).weigh.tare }
    unfold Station.scale
    rw [endOp_weigh_same, endOp_weighCfg, st_modSt]
    exact .single (.gain _ _ _ g _ ho hg hend.2 hend.1)

theorem advanceOp_scale {n : StationId} {x : WeighSample} {s : State} (hx : x.inRange) :
    ScaleSteps (s.st n).scale ((advanceOp n x s).st n).scale := by
  unfold advanceOp
  dsimp only
  split
  · exact .refl
  · split
    · exact (changeTare_scale ..).trans (endOp_scale ..)
    · exact .refl
  · next ho =>
    split
    · next hn => exact completeZero_scale hx ho hn (by simp) (by simp [WeighContext.gathered])
    · next hn =>
      unfold Station.scale
      rw [modWeigh_st_weighCfg, modWeigh_st_weigh]
      exact .single (.gather _ _ x hx ho (Nat.lt_of_not_le hn))
  · next ho =>
    have hsum : ScaleSteps (s.st n).scale ((s.modWeigh n (fun w => { w with
        sumS := w.sumS + cellSum (s.st n).weighCfg x, accCount := w.accCount + 1 })).st n).scale := by
      refine scaleSteps_quiet (by simp) (by rw [modWeigh_st_weigh]; exact .refl _) (.inr ?_)
      rw [modWeigh_st_weigh]
      exact ⟨rfl, rfl, fun h => by rw [ho] at h; cases h⟩
    split
    · exact hsum.trans (completeCalibrate_scale (by rw [modWeigh_st_weigh]; exact ho))
    · exact hsum

theorem acceptSample_scale {n : StationId} {x : WeighSample} {s : State} (hx : x.inRange) :
    ScaleSteps (s.st n).scale ((acceptSample n x s).st n).scale := by
  unfold acceptSample
  refine ReflTransGen.trans ?_ (advanceOp_scale hx)
  unfold Station.scale
  rw [weighStep_weighCfg, weighStep_weigh, modWeigh_st_weighCfg, modWeigh_st_weigh]
  exact .tail (.single (.quiet _ _ { (s.st n).weigh with lastSeq := some x.seq, stale := false } (.refl _) (.refl _)))
    (.update ..)

theorem takeWeighSample_scale {n : StationId} {x : WeighSample} {s : State} (hx : x.inRange) :
    ScaleSteps (s.st n).scale ((takeWeighSample n x s).st n).scale := by
  unfold takeWeighSample
  split
  · exact acceptSample_scale hx
  · split
    · exact scaleSteps_of_eq (by simp) (by simp)
    · split
      · exact acceptSample_scale hx
      · exact (scaleSteps_of_eq (b := (countStation n .gaps s).st n) (by simp) (by simp)).trans (acceptSample_scale hx)

/-! ### The scales under a piece and an effect -/

theorem weighSilence_scale (n : StationId) (s : State) : ScaleSteps (s.st n).scale ((weighSilence n s).st n).scale := by
  have hflush : ScaleSteps (s.st n).scale ((s.modWeigh n (fun w => { flushRing w with stale := true })).st n).scale :=
    scaleSteps_quiet (by simp) (by rw [modWeigh_st_weigh]; exact ⟨.inr rfl, rfl, rfl, rfl⟩)
      (by rw [modWeigh_st_weigh]; exact .refl _)
  unfold weighSilence
  dsimp only
  refine ReflTransGen.trans ?_ (scaleSteps_of_eq (raiseSilence_weighCfg ..) (raiseSilence_weigh ..))
  split
  · exact hflush
  · exact hflush.trans (endOp_scale ..)

theorem roleSilent_scale (n : StationId) (r : Role) (s : State) (m : StationId) :
    ScaleSteps (s.st m).scale ((roleSilent n r s).st m).scale := by
  cases r with
  | weigh => exact scaleSteps_at (n := n) (by simp) (weighSilence_scale n s) m
  | _ => exact scaleSteps_of_eq (by simp) (by simp [roleSilent])

theorem becomeSilent_scale (i : Nat) (e : NodeEntry) (s : State) (m : StationId) :
    ScaleSteps (s.st m).scale ((becomeSilent i e s).st m).scale := by
  unfold becomeSilent
  dsimp only
  have hset : ScaleSteps (s.st m).scale ((setNotice .nodeSilent (s.setEntry i (some { e with silent := true }))).st m).scale :=
    scaleSteps_of_eq (by simp) (by simp)
  split
  · exact hset.trans (roleSilent_scale ..)
  · exact hset

theorem scaleSteps_of_sameButDrive {a b : Station} (h : b.sameButDrive a) : ScaleSteps a.scale b.scale :=
  scaleSteps_of_eq h.2.2.1 h.2.1

theorem removeEntry_scale (i : Nat) (s : State) (m : StationId) :
    ScaleSteps (s.st m).scale ((removeEntry i s).st m).scale := by
  obtain ⟨gone, h⟩ := removeEntry_st i s m
  obtain ⟨-, -, hw, hc, -⟩ := freeLocks_contexts gone (s.st m)
  rw [h]
  exact scaleSteps_of_eq hc hw

theorem move_scale {s t : State} (h : Move s t) (m : StationId) : ScaleSteps (s.st m).scale (t.st m).scale := by
  cases h with
  | goodFrame p => exact scaleSteps_of_sameButDrive (goodFrameAt_sameButDrive ..)
  | recover p => exact scaleSteps_of_sameButDrive (recoverPort_sameButDrive ..)
  | weighSample n x hx => exact scaleSteps_at (n := n) (by simp) (takeWeighSample_scale hx) m
  | endOp n o => exact scaleSteps_at (n := n) (by simp) (endOp_scale ..) m
  | becomeSilent i e => exact becomeSilent_scale i e s m
  | passMs =>
    have hp : ∀ st : Station, ScaleSteps st.scale (stationMs st).scale := fun st =>
      scaleSteps_quiet rfl ⟨.inl rfl, rfl, rfl, rfl⟩ (.refl _)
    cases m
    · exact hp _
    · exact hp _
  | hearNode i e =>
    unfold Machine.hearNode
    dsimp only
    (repeat' split) <;> exact scaleSteps_of_eq (by simp) (by simp)
  | removeLearned i e he => exact removeEntry_scale i s m
  | pending | requests | emptyAccumulator => exact scaleSteps_of_eq (by cases m <;> rfl) (by cases m <;> rfl)
  | learn | moveLearned => exact .refl
  | reportTimer => exact scaleSteps_modSt rfl m
  | _ => exact scaleSteps_of_eq (by simp) (by simp)

/-- A binding that changes the WEIGH node flushes the ring (R18, R69). -/
theorem forgetRoles_scale (n : StationId) (old new : Binding) (s : State) :
    ScaleSteps (s.st n).scale ((forgetRoles n old new s).st n).scale := by
  have hw : ((forgetRoles n old new s).st n).weigh =
      if old.weigh = new.weigh then (s.st n).weigh else flushRing (s.st n).weigh := by
    simp only [forgetRoles]
    (repeat' split) <;> simp
  refine scaleSteps_quiet (by simp) ?_ ?_ <;> rw [hw] <;> split
  · exact .refl _
  · exact ⟨.inr rfl, rfl, rfl, rfl⟩
  · exact .refl _
  · exact .refl _

theorem bindStation_scale (n : StationId) (new : Binding) (s : State) :
    ScaleSteps (s.st n).scale ((bindStation n new s).st n).scale :=
  (forgetRoles_scale n (s.st n).binding new s).trans
    (scaleSteps_of_eq (by simp [bindStation]) (by simp [bindStation]))

theorem applyWeighItem_scale {n : StationId} {id : Nat} {v : Int} {s : State} (h : weighInRange id v = true) :
    ScaleSteps (s.st n).scale ((applyWeighItem n id v s).st n).scale := by
  obtain rfl | h0 := Nat.eq_zero_or_pos id
  · rw [applyWeighItem_cap, st_modSt]
    exact .single (.cap _ _ v h)
  · by_cases h5 : 5 ≤ id
    · rw [applyWeighItem_calibration h5, st_modSt]
      exact .single (.item _ _ (flushRing (s.st n).weigh) id v (by omega) h ⟨.inr rfl, rfl, rfl, rfl⟩ (.refl _))
    · rw [applyWeighItem_filter h0 (by omega), st_modSt]
      exact .single (.item _ _ (s.st n).weigh id v (by omega) h (.refl _) (.refl _))

theorem startOp_scale {n : StationId} {op : WeighOp} {ms : Nat} {mass : Option Int} {s : State}
    (h : op = .calibrating → ∃ m, mass = some m ∧ 100 ≤ m) :
    ScaleSteps (s.st n).scale ((s.modWeigh n (startOp op ms mass)).st n).scale := by
  unfold Station.scale
  rw [modWeigh_st_weighCfg, modWeigh_st_weigh]
  exact .single (.start _ _ op ms mass h)

theorem startCapture_scale {n : StationId} {op : WeighOp} {mass : Option Int} {s : State}
    (h : op = .zeroing ∨ op = .calibrating ∧ ∃ m, mass = some m ∧ 100 ≤ m) :
    ScaleSteps (s.st n).scale ((startCapture n op mass s).st n).scale := by
  have hm : op = .calibrating → ∃ m, mass = some m ∧ 100 ≤ m := fun ho => by
    obtain h | ⟨-, h⟩ := h
    · rw [ho] at h; cases h
    · exact h
  unfold startCapture
  split
  · exact startOp_scale hm
  · exact (endOp_scale n .interrupted s).trans (startOp_scale hm)

theorem applyPortItem_scale (p : Port) (id v : Nat) (s : State) (m : StationId) :
    ScaleSteps (s.st m).scale ((applyPortItem p id v s).st m).scale := by
  unfold applyPortItem
  dsimp only
  split
  · rw [removeWhere_st]
    obtain ⟨-, -, hw, hc, -⟩ := freeLocks_contexts
      (fun k => (List.range 16).any (State.accepted { s with ageLimit := v } (NodeEntry.tooOld v) k)) (s.st m)
    exact scaleSteps_of_eq (by cases m <;> exact hc) (by cases m <;> exact hw)
  · (repeat' split)
    · exact scaleSteps_of_eq (by simp) (by simp)
    · have h := scaleSteps_of_sameButDrive (recoverIfMet_sameButDrive p
        (s.modPort p (fun q => { q with cfg := setPortItem q.cfg id v })) m)
      rwa [st_modPort'] at h
    · exact scaleSteps_of_eq (by simp) (by simp)

theorem writeEntry_scale (i : Nat) (e : NodeEntry) (s : State) (m : StationId) :
    ScaleSteps (s.st m).scale ((writeEntry i e s).st m).scale := by
  unfold writeEntry
  dsimp only
  split
  · have h := becomeSilent_scale i e (s.setEntry i (some e)) m
    rwa [setEntry_st] at h
  · exact scaleSteps_of_eq (by simp) (by simp)

theorem effect_scale {s u : State} (h : Effect s u) (m : StationId) : ScaleSteps (s.st m).scale (u.st m).scale := by
  cases h with
  | lock | unlock | recipeLength | recipeClear | heatItem | zeroStation | reportInterval => exact scaleSteps_modSt rfl m
  | storeStep => exact scaleSteps_modSt rfl m
  | bind n => exact scaleSteps_at (n := n) (by simp [bindStation]) (bindStation_scale ..) m
  | limit n id v =>
    unfold applyLimit
    dsimp only
    have hl : ScaleSteps (s.st m).scale ((s.modSt n (fun st => { st with limits := setLimit st.limits id v })).st m).scale :=
      scaleSteps_modSt rfl m
    (repeat' split)
    · exact hl.trans (scaleSteps_of_eq (by simp) (by simp))
    · exact hl.trans (scaleSteps_of_eq (by simp) (by simp))
    · exact hl
  | weighItem n id v _ _ h =>
    refine scaleSteps_at (n := n) ?_ (applyWeighItem_scale h) m
    simp only [applyWeighItem]
    (repeat' split) <;> simp
  | tare n => exact scaleSteps_at (n := n) (by simp) (startOp_scale fun h => by cases h) m
  | retare n =>
    exact scaleSteps_at (n := n) (by simp) ((endOp_scale n _ s).trans (startOp_scale fun h => by cases h)) m
  | capture n op mass h => exact scaleSteps_at (n := n) (by simp) (startCapture_scale h) m
  | portItem p id v => exact applyPortItem_scale p id v s m
  | restartPort p => exact scaleSteps_of_sameButDrive (restartPort_sameButDrive ..)
  | nodeWrite k p limit =>
    obtain h | ⟨i, e, -, -, -, h⟩ | ⟨i, -, -, h⟩ := nodeWrite_cases k p limit s
    · rw [h]
    all_goals rw [h]; exact writeEntry_scale ..
  | removeNode k i => exact removeEntry_scale i s m
  | flushNodes =>
    rw [removeWhere_st]
    obtain ⟨-, -, hw, hc, -⟩ := freeLocks_contexts (fun k => (List.range 16).any (s.accepted NodeEntry.isLearned k)) (s.st m)
    exact scaleSteps_of_eq hc hw
  | snapshot | clearNotices | route | routeDefault => exact scaleSteps_of_eq (by cases m <;> rfl) (by cases m <;> rfl)
  | _ => exact scaleSteps_of_eq (by simp) (by simp)

end Sys2Proof.Machine

namespace Sys2Proof.Machine

open Sys2Proof Relation

/-! ### Ring, tare and net weight (R58, R63, R64, R68) -/

/-- What WeightsSound asks of one station. -/
def Measured (cw : WeighConfig × WeighContext) : Prop :=
  10000 ≤ cw.1.cap ∧ cw.1.cap ≤ 200000 ∧ cw.2.ring.length ≤ 32 ∧ (∀ x ∈ cw.2.ring, -400000 ≤ x ∧ x ≤ 400000) ∧
    -cw.1.cap ≤ cw.2.tare ∧ cw.2.tare ≤ cw.1.cap ∧
    cw.2.net = clampInt (-cw.1.cap) cw.1.cap (cw.2.filtered - cw.2.tare)

theorem weightsSound_iff (s : State) : WeightsSound s ↔ ∀ n, Measured (s.st n).scale := Iff.rfl

theorem clampInt_bounds {c : Int} (h : 0 ≤ c) (x : Int) : -c ≤ clampInt (-c) c x ∧ clampInt (-c) c x ≤ c := by
  unfold clampInt; split
  · omega
  · split <;> omega

/-- The measure decides, whatever else of the contexts moves. -/
theorem measured_of {c d : WeighConfig} {w v : WeighContext} (hc : d.cap = c.cap) (hm : w.sameMeasure v)
    (h : Measured (c, w)) : Measured (d, v) := by
  obtain ⟨hr, hf, ht, hn⟩ := hm
  obtain ⟨h1, h2, h3, h4, h5, h6, h7⟩ := h
  unfold Measured
  simp only [hc, hf, ht, hn]
  refine ⟨h1, h2, ?_, ?_, h5, h6, h7⟩ <;> obtain hr | hr := hr <;> simp_all

theorem pushRing_length {ring : List Int} (h : ring.length ≤ 32) (x : Int) : (pushRing ring x).length ≤ 32 := by
  unfold pushRing Config.ringMax
  split <;> simp <;> omega

theorem mem_pushRing {ring : List Int} {x y : Int} (h : y ∈ pushRing ring x) : y ∈ ring ∨ y = x := by
  unfold pushRing at h
  split at h <;> simp only [List.mem_append, List.mem_singleton] at h
  · exact h
  · exact h.imp List.mem_of_mem_drop id

theorem cap_setWeighItem {c : WeighConfig} {id : Nat} {v : Int} (h : id ≠ 0) : (setWeighItem c id v).cap = c.cap := by
  unfold setWeighItem; split <;> first | rfl | exact absurd rfl h

theorem measured_scaleStep {a b : WeighConfig × WeighContext} (h : ScaleStep a b) (hs : Measured a) : Measured b := by
  have hcap : 0 ≤ a.1.cap := by have := hs.1; omega
  cases h with
  | quiet c w v hm => exact measured_of rfl hm hs
  | start c w op ms mass => exact measured_of rfl (w := w) ⟨.inl rfl, rfl, rfl, rfl⟩ hs
  | tare c w x =>
    obtain ⟨h1, h2, h3, h4, -⟩ := hs
    exact ⟨h1, h2, h3, h4, (clampInt_bounds hcap x).1, (clampInt_bounds hcap x).2, rfl⟩
  | update c w win x =>
    obtain ⟨h1, h2, h3, h4, h5, h6, -⟩ := hs
    refine ⟨h1, h2, pushRing_length h3 _, fun y hy => ?_, h5, h6, rfl⟩
    obtain hy | rfl := mem_pushRing hy
    · exact h4 y hy
    · exact clampInt_bounds (by decide) _
  | gather c w x => exact measured_of rfl (w := w) ⟨.inl rfl, rfl, rfl, rfl⟩ hs
  | zero c w v x hx ho hn hv hm =>
    refine measured_of (c := c) (d := c.zeroed (w.gathered x)) rfl hm ?_
    obtain ⟨h1, h2, -⟩ := hs
    refine ⟨h1, h2, by simp [flushRing], by simp [flushRing], ?_, hcap, ?_⟩
    · simp only at hcap ⊢; omega
    · simp only at hcap ⊢
      simp [clampInt, Int.not_lt.mpr hcap]
  | gain c w v g sum ho hg hv hm =>
    refine measured_of (c := c) rfl hm ?_
    obtain ⟨h1, h2, -, -, h5, h6, -⟩ := hs
    exact ⟨h1, h2, by simp [flushRing], by simp [flushRing], h5, h6, rfl⟩
  | cap c w v hv =>
    obtain ⟨h1, h2⟩ : 10000 ≤ v ∧ v ≤ 200000 := by simpa [weighInRange] using hv
    obtain ⟨-, -, h3, h4, -⟩ := hs
    have hb := clampInt_bounds (c := v) (by omega) w.tare
    exact ⟨h1, h2, h3, h4, hb.1, hb.2, rfl⟩
  | item c w v id x h0 hx hm => exact measured_of (cap_setWeighItem h0) hm hs

theorem measured_scaleSteps {a b : WeighConfig × WeighContext} (h : ScaleSteps a b) (hs : Measured a) : Measured b := by
  induction h with
  | refl => exact hs
  | tail _ h ih => exact measured_scaleStep h ih

/-- A station after power-on reset, or with its kept configuration. -/
theorem measured_blank {c : WeighConfig} (h1 : 10000 ≤ c.cap) (h2 : c.cap ≤ 200000) : Measured (c, {}) := by
  refine ⟨h1, h2, by simp, by simp, ?_, ?_, ?_⟩ <;> simp only [clampInt]
  · omega
  · omega
  · rw [if_neg (by omega), if_neg (by omega)]; rfl

theorem weightsSound_reset {s t : State} (hs : WeightsSound s) (h : Reset s t) : WeightsSound t := by
  cases h with
  | powerOn own l => intro n; cases n <;> exact measured_blank (c := {}) (by decide) (by decide)
  | asserted => intro n; cases n <;> exact measured_blank (c := {}) (by decide) (by decide)
  | kept =>
    rw [weightsSound_iff] at hs ⊢
    intro n
    rw [st_setNotice]
    obtain ⟨h1, h2, -⟩ := hs n
    cases n
    · exact measured_blank h1 h2
    · exact measured_blank h1 h2

/-- Settles O57: every piece of work on the scales forms the net weight anew where it moves what the net weight reads. -/
theorem stepKeepsWeights : Obligations.StepKeepsWeights :=
  step_keeps (fun _ _ hs h n => measured_scaleSteps (move_scale h n) (hs n))
    (fun _ _ hs h n => measured_scaleSteps (effect_scale h n) (hs n))
    (fun _ u r a _ _ _ hu n => by rw [leaveQueue_st, sendReply_st]; exact hu n)
    (fun _ _ => weightsSound_reset)

/-! ### Captures on their way to an offset and a gain in range (R58, R80 to R82) -/

/-- What SettingsSound asks of a weigh configuration and its context. -/
def Capturing (cw : WeighConfig × WeighContext) : Prop :=
  (∀ i v, weighValue cw.1 i = some v → weighInRange i v = true) ∧ cw.2.captureSound

theorem captureSound_of_op {w : WeighContext} (h : w.op = .none) : w.captureSound :=
  ⟨fun ho => (by rw [h] at ho; cases ho), fun ho => (by rw [h] at ho; cases ho)⟩

theorem captureSound_of_sameOp {w v : WeighContext} (ho : w.sameOp v) (h : w.captureSound) : v.captureSound := by
  obtain ho | ⟨hop, hm, hz⟩ := ho
  · exact captureSound_of_op ho
  · refine ⟨fun hv => ?_, fun hv => hm ▸ h.2 (hop ▸ hv)⟩
    have hw := hop ▸ hv
    obtain ⟨hn, h0, h1, h2, h3⟩ := hz hw
    rw [hn, h0, h1, h2, h3]
    exact h.1 hw

/-- A sixteenth of sixteen readings is a reading (R80). -/
theorem roundDiv_sixteenth {x : Int} (h : -134217728 ≤ x ∧ x ≤ 134217712) :
    -8388608 ≤ roundDiv x 16 ∧ roundDiv x 16 ≤ 8388607 := by
  unfold roundDiv; split <;> omega

theorem gathered_bounds {w : WeighContext} {x : WeighSample} (hx : x.inRange) (hs : w.captureSound) (ho : w.op = .zeroing) :
    ∀ y ∈ [(w.gathered x).sum0, (w.gathered x).sum1, (w.gathered x).sum2, (w.gathered x).sum3],
      -8388608 * ((w.accCount + 1 : Nat) : Int) ≤ y ∧ y ≤ 8388607 * ((w.accCount + 1 : Nat) : Int) := by
  obtain ⟨-, hb⟩ := hs.1 ho
  simp only [WeighSample.inRange, List.forall_mem_cons, List.not_mem_nil, IsEmpty.forall_iff, implies_true, and_true] at hx hb ⊢
  obtain ⟨⟨a0, b0⟩, ⟨a1, b1⟩, ⟨a2, b2⟩, ⟨a3, b3⟩⟩ := hx
  obtain ⟨⟨c0, d0⟩, ⟨c1, d1⟩, ⟨c2, d2⟩, ⟨c3, d3⟩⟩ := hb
  simp only [WeighContext.gathered]
  push_cast
  refine ⟨⟨?_, ?_⟩, ⟨?_, ?_⟩, ⟨?_, ?_⟩, ?_, ?_⟩ <;> omega

/-- A calibration writes a gain in its range (R82). -/
theorem calibratedGain_range {m sum g : Int} (h : calibratedGain m sum = some g) (hm : 0 ≤ m) : 1 ≤ g ∧ g ≤ 4194303 := by
  unfold calibratedGain at h
  dsimp only at h
  split at h
  · cases h
  · next ha =>
    split at h
    · cases h
    · next hg =>
      cases h
      rw [not_or] at hg
      obtain ⟨h0, hmax⟩ := hg
      have hpos : 0 ≤ roundDiv (m * 65536) (roundDiv sum 16) := by
        generalize roundDiv sum 16 = d at *
        unfold roundDiv
        rw [if_pos (by omega)]
        exact Int.ediv_nonneg (by omega) (by omega)
      unfold Config.gainMax at hmax
      omega

theorem weighValue_inRange_zeroed {c : WeighConfig} {w : WeighContext}
    (hc : ∀ i v, weighValue c i = some v → weighInRange i v = true)
    (hz : ∀ y ∈ [w.sum0, w.sum1, w.sum2, w.sum3], -134217728 ≤ y ∧ y ≤ 134217712) :
    ∀ i v, weighValue (c.zeroed w) i = some v → weighInRange i v = true := by
  intro i v h
  simp only [List.forall_mem_cons, List.not_mem_nil, IsEmpty.forall_iff, implies_true, and_true] at hz
  obtain ⟨h0, h1, h2, h3⟩ := hz
  match i with
  | 0 | 1 | 2 | 3 | 4 | 5 => exact hc _ v h
  | 6 => cases h; exact (weighInRange_iff 6 _).mpr ⟨_, _, rfl, roundDiv_sixteenth h0⟩
  | 7 => cases h; exact (weighInRange_iff 7 _).mpr ⟨_, _, rfl, roundDiv_sixteenth h1⟩
  | 8 => cases h; exact (weighInRange_iff 8 _).mpr ⟨_, _, rfl, roundDiv_sixteenth h2⟩
  | 9 => cases h; exact (weighInRange_iff 9 _).mpr ⟨_, _, rfl, roundDiv_sixteenth h3⟩
  | _ + 10 => cases h

theorem weighValue_inRange_set {c : WeighConfig} {id : Nat} {x : Int} (hx : weighInRange id x = true)
    (hc : ∀ i v, weighValue c i = some v → weighInRange i v = true) :
    ∀ i v, weighValue (setWeighItem c id x) i = some v → weighInRange i v = true := by
  intro i v h
  rw [weighValue_setWeighItem c i hx] at h
  split at h
  · next hi => cases h; rw [hi]; exact hx
  · exact hc i v h

theorem capturing_scaleStep {a b : WeighConfig × WeighContext} (h : ScaleStep a b) (hs : Capturing a) : Capturing b := by
  obtain ⟨hc, hs⟩ := hs
  cases h with
  | quiet c w v hm ho => exact ⟨hc, captureSound_of_sameOp ho hs⟩
  | start c w op ms mass hm =>
    exact ⟨hc, fun _ => ⟨by simp [startOp, clearOp], by simp [startOp, clearOp]⟩, fun ho => hm ho⟩
  | tare c w x => exact ⟨hc, hs⟩
  | update c w win x => exact ⟨hc, hs⟩
  | gather c w x hx ho hn =>
    refine ⟨hc, fun _ => ⟨hn, gathered_bounds hx hs ho⟩, fun h => hs.2 h⟩
  | zero c w v x hx ho hn hv =>
    have hb := gathered_bounds hx hs ho
    obtain ⟨hlt, -⟩ := hs.1 ho
    rw [show w.accCount + 1 = 16 by simp only at hlt; omega] at hb
    exact ⟨weighValue_inRange_zeroed hc fun y hy => by have := hb y hy; push_cast at this; omega, captureSound_of_op hv⟩
  | gain c w v g sum ho hg hv =>
    obtain ⟨m, hm, h100⟩ := hs.2 ho
    rw [hm] at hg
    refine ⟨weighValue_inRange_set (id := 5) (x := g) ?_ hc, captureSound_of_op hv⟩
    simpa [weighInRange] using calibratedGain_range hg (by simp only [Option.getD_some]; omega)
  | cap c w v hv => exact ⟨weighValue_inRange_set (id := 0) hv hc, hs⟩
  | item c w v id x _ hx _ ho => exact ⟨weighValue_inRange_set hx hc, captureSound_of_sameOp ho hs⟩

theorem capturing_scaleSteps {a b : WeighConfig × WeighContext} (h : ScaleSteps a b) (hs : Capturing a) : Capturing b := by
  induction h with
  | refl => exact hs
  | tail _ h ih => exact capturing_scaleStep h ih

end Sys2Proof.Machine

namespace Sys2Proof.Machine

open Sys2Proof Relation

/-! ### The budget (R105) -/

@[simp] theorem modSide_budget (s : State) (n : StationId) (f : ArbiterSide → ArbiterSide) :
    (s.modSide n f).arbiter.budget = s.arbiter.budget := by
  cases n <;> rfl

theorem budget_work {s t : State} (h : Work s t) : t.arbiter.budget = s.arbiter.budget := by
  induction h with
  | refl => rfl
  | aside _ _ _ hb ih => rw [hb, ih]
  | sent n _ ih => rw [modSide_budget, ih]
  | divide b hb _ ih => exact hb.trans ih
  | _ => rename_i ih; simpa using ih

theorem forgetRoles_budget (n : StationId) (old new : Binding) (s : State) :
    (forgetRoles n old new s).arbiter.budget = s.arbiter.budget := by
  simp only [forgetRoles]
  (repeat' split) <;> simp [discardUnsent]

theorem budget_effect {s u : State} (h : Effect s u) :
    u.arbiter.budget = s.arbiter.budget ∨ 500 ≤ u.arbiter.budget ∧ u.arbiter.budget ≤ 3600 := by
  obtain h | ⟨n, new, rfl⟩ | ⟨w, h1, h2, rfl⟩ := effect_work h
  · exact .inl (budget_work h)
  · refine .inl ((budget_work (followBinding_work n _ _ .refl)).trans ?_)
    rw [modSt_arbiter, forgetRoles_budget]
  · have : (setBudget w s).arbiter.budget = w := budget_work (recomputeArbiter_work .refl)
    rw [this]; exact .inr ⟨h1, h2⟩

/-! ### The learn limits (R135) -/

/-- A change of an entry moves the learned count by what it is and what it was. -/
theorem learnedCount_setEntry {s : State} {i : Nat} (hi : i < 16) (o : Option NodeEntry) (p : Port) :
    (s.setEntry i o).learnedCount p = s.learnedCount p - (if learnedOn p (s.entryAt i) then 1 else 0) +
      if learnedOn p o then 1 else 0 := by
  have hlen : i < s.nodes.toList.length := by simpa using hi
  have hset : (s.setEntry i o).nodes.toList = s.nodes.toList.set i o := by
    simp [State.setEntry]
  have hat : s.entryAt i = s.nodes.toList[i] := by
    rw [entryAt_of_lt hi]; simp
  rw [State.learnedCount, hset, List.countP_set hlen, hat]; rfl

theorem learnedCount_setEntry_le {s : State} {i : Nat} {o : Option NodeEntry} {p : Port}
    (h : learnedOn p o = true → learnedOn p (s.entryAt i) = true) : (s.setEntry i o).learnedCount p ≤ s.learnedCount p := by
  by_cases hi : i < 16
  · have hpos : learnedOn p (s.entryAt i) = true → 1 ≤ s.learnedCount p := fun hl => by
      refine List.countP_pos_iff.mpr ⟨s.entryAt i, ?_, hl⟩
      rw [entryAt_of_lt hi]; simp
    rw [learnedCount_setEntry hi]
    split
    · next hl => have := hpos hl; split <;> omega
    · next hl => rw [if_neg fun ho => hl (h ho)]; omega
  · have : s.setEntry i o = s := by
      simp only [State.setEntry, Vector.setIfInBounds_eq_of_size_le (Nat.not_lt.mp hi)]
    rw [this]

theorem learnedCount_setEntry_succ {s : State} (i : Nat) (o : Option NodeEntry) (p : Port) :
    (s.setEntry i o).learnedCount p ≤ s.learnedCount p + 1 := by
  by_cases hi : i < 16
  · rw [learnedCount_setEntry hi]
    split <;> split <;> omega
  · have : s.setEntry i o = s := by
      simp only [State.setEntry, Vector.setIfInBounds_eq_of_size_le (Nat.not_lt.mp hi)]
    rw [this]; omega

theorem learnedCount_of_nodes {s t : State} (h : t.nodes = s.nodes) (p : Port) : t.learnedCount p = s.learnedCount p := by
  rw [State.learnedCount, h]; rfl

theorem removeEntry_learnedCount (i : Nat) (s : State) (p : Port) : (removeEntry i s).learnedCount p ≤ s.learnedCount p := by
  cases he : s.entryAt i with
  | none => simp [removeEntry, he]
  | some e =>
    rw [removeEntry_of_some he, learnedCount_of_nodes (s := s.setEntry i none) (by simp)]
    exact learnedCount_setEntry_le (by simp [learnedOn])

/-! ### Limits, configurations, intervals, port settings and silence limits in range -/

/-- A port configuration within the ranges of R137 and R157. -/
def PortConfig.inRange (c : PortConfig) : Prop :=
  1 ≤ c.low ∧ c.low < c.high ∧ c.high ≤ 40 ∧ 1 ≤ c.wc ∧ c.wc ≤ 8 ∧ 1 ≤ c.wb ∧ c.wb ≤ 8 ∧ c.learnLimit ≤ 16

/-- A silence limit of R142. -/
def silenceInRange (v : Nat) : Prop := v = 0 ∨ 20 ≤ v ∧ v ≤ 2000 ∧ v % 10 = 0

/-- The tables and the interval of a station in range (R19, R88, R190). -/
def Station.inRange (st : Station) : Prop :=
  (∀ i v, limitValue st.limits i = some v → limitInRange i v = true) ∧
    (∀ i v, heatValue st.heatCfg i = some v → heatInRange i v = true) ∧
    (st.reportInterval = 0 ∨ 100 ≤ st.reportInterval ∧ st.reportInterval ≤ 2000)

/-- The settings that the outline holds. -/
def OutlineSettings (s : State) : Prop :=
  (1 ≤ s.ageLimit ∧ s.ageLimit ≤ 600) ∧ (∀ n, (s.st n).inRange) ∧
    (∀ p, (s.port p).cfg.inRange) ∧
    (∀ p, (s.port p).cfg.learnLimit ≠ 0 → s.learnedCount p ≤ (s.port p).cfg.learnLimit) ∧
    ∀ i e, s.entryAt i = some e → silenceInRange e.limit

theorem settingsSound_iff (s : State) : SettingsSound s ↔
    (500 ≤ s.arbiter.budget ∧ s.arbiter.budget ≤ 3600) ∧ (∀ n, Capturing (s.st n).scale) ∧ OutlineSettings s := by
  constructor
  · rintro ⟨b1, b2, a1, a2, hl, hh, hw, hc, hr, hp, he⟩
    refine ⟨⟨b1, b2⟩, fun n => ⟨hw n, hc n⟩, ⟨a1, a2⟩, fun n => ⟨hl n, hh n, hr n⟩, fun p => ?_, fun p => ?_, he⟩
    · obtain ⟨h1, h2, h3, h4, h5, h6, h7, h8, -⟩ := hp p
      exact ⟨h1, h2, h3, h4, h5, h6, h7, h8⟩
    · obtain ⟨-, -, -, -, -, -, -, -, h9⟩ := hp p
      exact h9
  · rintro ⟨⟨b1, b2⟩, hc, ⟨a1, a2⟩, hs, hp, hn, he⟩
    refine ⟨b1, b2, a1, a2, fun n => (hs n).1, fun n => (hs n).2.1, fun n => (hc n).1, fun n => (hc n).2,
      fun n => (hs n).2.2, fun p => ?_, he⟩
    obtain ⟨h1, h2, h3, h4, h5, h6, h7, h8⟩ := hp p
    exact ⟨h1, h2, h3, h4, h5, h6, h7, h8, hn p⟩

/-- What the settings read of a state. -/
theorem outlineSettings_of {s t : State} (h : OutlineSettings s) (ha : t.ageLimit = s.ageLimit)
    (hst : ∀ n, (t.st n).limits = (s.st n).limits ∧ (t.st n).heatCfg = (s.st n).heatCfg ∧
      (t.st n).reportInterval = (s.st n).reportInterval)
    (hp : ∀ p, (t.port p).cfg = (s.port p).cfg)
    (hl : ∀ p, (s.port p).cfg.learnLimit ≠ 0 → s.learnedCount p ≤ (s.port p).cfg.learnLimit →
      t.learnedCount p ≤ (s.port p).cfg.learnLimit)
    (he : ∀ i e, t.entryAt i = some e → silenceInRange e.limit ∨ ∃ f, s.entryAt i = some f ∧ f.limit = e.limit) :
    OutlineSettings t := by
  obtain ⟨h1, h2, h3, h4, h5⟩ := h
  refine ⟨ha ▸ h1, fun n => ?_, fun p => hp p ▸ h3 p, fun p hne => ?_, fun i e hi => ?_⟩
  · obtain ⟨hlim, hheat, hint⟩ := hst n
    have := h2 n
    unfold Station.inRange
    rw [hlim, hheat, hint]
    exact this
  · rw [hp] at hne ⊢
    exact hl p hne (h4 p hne)
  · obtain h | ⟨f, hf, hlim⟩ := he i e hi
    · exact h
    · exact hlim ▸ h5 i f hf

/-- The same with the node table kept. -/
theorem outlineSettings_of_nodes {s t : State} (h : OutlineSettings s) (ha : t.ageLimit = s.ageLimit)
    (hst : ∀ n, (t.st n).limits = (s.st n).limits ∧ (t.st n).heatCfg = (s.st n).heatCfg ∧
      (t.st n).reportInterval = (s.st n).reportInterval)
    (hp : ∀ p, (t.port p).cfg = (s.port p).cfg) (hn : t.nodes = s.nodes) : OutlineSettings t :=
  outlineSettings_of h ha hst hp (fun p _ hl => by rwa [learnedCount_of_nodes hn])
    fun i e he => .inr ⟨e, by rwa [← entryAt_of_nodes hn], rfl⟩

theorem outlineSettings_of_outline {s t : State} (h : t.outline = s.outline) (hs : OutlineSettings s) :
    OutlineSettings t := by
  exact outlineSettings_of_nodes hs (congrArg State.ageLimit h :) (fun n => ⟨limits_of h n, heatCfg_of h n,
    (congrArg Station.reportInterval (st_outline_of h n) :)⟩) (cfg_of h) (nodes_of h)

/-- A change of one entry that leaves stations and ports alone. -/
theorem outlineSettings_setEntry {s : State} {i : Nat} {o : Option NodeEntry} (hs : OutlineSettings s)
    (hl : ∀ p, (s.port p).cfg.learnLimit ≠ 0 → s.learnedCount p ≤ (s.port p).cfg.learnLimit →
      (s.setEntry i o).learnedCount p ≤ (s.port p).cfg.learnLimit)
    (hlim : ∀ e, o = some e → silenceInRange e.limit) : OutlineSettings (s.setEntry i o) := by
  refine outlineSettings_of hs rfl (by simp) (by simp) hl (fun j e he => ?_)
  by_cases hj : j = i
  · subst hj
    by_cases h16 : j < 16
    · rw [entryAt_setEntry_same h16] at he
      exact .inl (hlim e he)
    · rw [entryAt_of_le (Nat.not_lt.mp h16)] at he; cases he
  · rw [entryAt_setEntry_ne (Ne.symm hj)] at he
    exact .inr ⟨e, he, rfl⟩

/-- A new learned entry takes the room its port's limit leaves (R135). -/
theorem outlineSettings_learned {s : State} {i : Nat} {p : Port} {k : NodeId} (hs : OutlineSettings s)
    (hr : s.limitRoom p = true) : OutlineSettings (s.setEntry i (some (learnedEntry k p))) := by
  refine outlineSettings_setEntry hs (fun x hne hle => ?_) (fun e he => by cases he; exact .inl rfl)
  by_cases hx : x = p
  · subst hx
    have hroom := (limitRoom_iff s x).mp hr
    unfold State.room at hroom
    have := learnedCount_setEntry_succ (s := s) i (some (learnedEntry k x)) x
    omega
  · refine (learnedCount_setEntry_le fun h => ?_).trans hle
    simp [learnedOn, learnedEntry, Ne.symm hx] at h

theorem outlineSettings_removeEntry (i : Nat) {s : State} (hs : OutlineSettings s) : OutlineSettings (removeEntry i s) := by
  cases he : s.entryAt i with
  | none => simpa [removeEntry, he] using hs
  | some e =>
    refine outlineSettings_of (outlineSettings_setEntry (i := i) (o := none) hs
      (fun p _ hl => (learnedCount_setEntry_le (by simp [learnedOn])).trans hl) (by simp))
      ?_ (fun n => ?_) (by simp) (fun p _ hl => ?_) (fun j f hf => ?_)
    · rw [removeEntry_of_some he]; simp
    · obtain ⟨gone, h⟩ := removeEntry_st i s n
      rw [h, setEntry_st]
      unfold freeLocks; split <;> exact ⟨rfl, rfl, rfl⟩
    · rw [removeEntry_of_some he, learnedCount_of_nodes (s := s.setEntry i none) (by simp)]; exact hl
    · rw [removeEntry_of_some he, entryAt_of_nodes (s := s.setEntry i none) (by simp)] at hf
      exact .inr ⟨f, hf, rfl⟩

theorem learnedOn_olderEntry (p : Port) (o : Option NodeEntry) : learnedOn p (olderEntry o) = learnedOn p o := by
  cases o <;> rfl

theorem learnedCount_passMs (s : State) (p : Port) : (passMs s).learnedCount p = s.learnedCount p := by
  unfold State.learnedCount passMs
  dsimp only
  split
  · rfl
  · rw [Vector.toList_map, List.countP_map]
    exact List.countP_congr fun o _ => by rw [Function.comp, learnedOn_olderEntry]

theorem entryAt_passMs (s : State) (i : Nat) (e : NodeEntry) (h : (passMs s).entryAt i = some e) :
    ∃ f, s.entryAt i = some f ∧ f.limit = e.limit := by
  unfold State.entryAt passMs at h
  dsimp only at h
  split at h
  · exact ⟨e, h, rfl⟩
  · by_cases hi : i < 16
    · rw [Vector.getElem?_map, Vector.getElem?_eq_getElem hi] at h
      rw [entryAt_of_lt hi]
      simp only [Option.map_some, Option.join_some] at h
      unfold olderEntry at h
      obtain ⟨f, hf, rfl⟩ := Option.map_eq_some_iff.mp h
      exact ⟨f, hf, rfl⟩
    · rw [Vector.getElem?_eq_none (by simpa using hi)] at h; cases h

theorem outlineSettings_sketch {s t : State} (h : Sketch s t) (hs : OutlineSettings s) : OutlineSettings t := by
  have at_setEntry {t : State} {i : Nat} {e f : NodeEntry} (he : s.entryAt i = some e) (hf : f.limit = e.limit)
      (hlo : ∀ p, learnedOn p (some f) = true → learnedOn p (some e) = true)
      (ht : t.outline = (s.setEntry i (some f)).outline) : OutlineSettings t := by
    refine outlineSettings_of_outline ht (outlineSettings_setEntry hs (fun p _ hl => ?_) fun g hg => ?_)
    · exact (learnedCount_setEntry_le fun h => he ▸ hlo p h).trans hl
    · cases hg
      obtain ⟨-, -, -, -, h5⟩ := hs
      exact hf ▸ h5 i e he
  cases h with
  | work h => exact outlineSettings_of_outline h hs
  | port p q _ hc h =>
    refine outlineSettings_of_outline h (outlineSettings_of_nodes hs (by simp) (by simp) (fun r => ?_) (by simp))
    by_cases hr : r = p
    · subst hr; rw [port_modPort]; exact hc
    · rw [port_modPort_ne hr]
  | pending | requests =>
    exact outlineSettings_of hs rfl (fun n => by cases n <;> exact ⟨rfl, rfl, rfl⟩) (fun p => by cases p <;> rfl)
      (fun _ _ hl => hl) (fun i e he => .inr ⟨e, he, rfl⟩)
  | passMs =>
    refine outlineSettings_of hs rfl (fun n => by cases n <;> exact ⟨rfl, rfl, rfl⟩) (fun p => ?_)
      (fun p _ hl => by rwa [learnedCount_passMs]) (fun i e he => .inr (entryAt_passMs s i e he))
    have hcfg : ∀ q, (portMs q).cfg = q.cfg := fun q => by unfold portMs; split <;> rfl
    cases p
    · exact hcfg _
    · exact hcfg _
  | reportTimer n =>
    refine outlineSettings_of_nodes hs (by simp) (fun m => ?_) (by simp) (by simp)
    by_cases hm : m = n
    · subst hm; rw [st_modSt]; exact ⟨rfl, rfl, rfl⟩
    · rw [st_modSt_ne hm]; exact ⟨rfl, rfl, rfl⟩
  | removeLearned i e he => exact outlineSettings_removeEntry i hs
  | silenced i e he ho h => exact at_setEntry (f := { e with silent := true }) he rfl (fun p h => h) h
  | heard i e he h => exact at_setEntry (f := { e with age := 0, silent := false }) he rfl (fun p h => h) h
  | learn p i k _ hr => exact outlineSettings_learned hs hr
  | moveLearned p i k e _ _ _ _ hr => exact outlineSettings_learned hs hr

end Sys2Proof.Machine

namespace Sys2Proof.Machine

open Sys2Proof Relation

/-! ### Settings that a request writes -/

theorem limitValue_setLimit {l : Limits} {id v : Nat} (h : limitInRange id v = true) (j : Nat) :
    limitValue (setLimit l id v) j = if j = id then some v else limitValue l j := by
  match id with
  | 0 | 1 | 2 | 3 | 4 | 5 | 6 | 7 | 8 | 9 =>
    match j with
    | 0 | 1 | 2 | 3 | 4 | 5 | 6 | 7 | 8 | 9 => rfl
    | _ + 10 => rfl
  | _ + 10 => cases h

theorem heatValue_setHeatItem {c : HeatConfig} {id v : Nat} (h : heatInRange id v = true) (j : Nat) :
    heatValue (setHeatItem c id v) j = if j = id then some v else heatValue c j := by
  match id with
  | 0 | 1 | 2 =>
    match j with
    | 0 | 1 | 2 => rfl
    | _ + 3 => rfl
  | _ + 3 => cases h

theorem Station.inRange_of {a b : Station} (h : a.inRange) (hl : b.limits = a.limits) (hh : b.heatCfg = a.heatCfg)
    (hr : b.reportInterval = a.reportInterval) : b.inRange := by
  unfold Station.inRange; rw [hl, hh, hr]; exact h

/-- A change of one station's tables within their ranges. -/
theorem outlineSettings_modSt {s : State} {n : StationId} {f : Station → Station} (hs : OutlineSettings s)
    (hf : (s.st n).inRange → (f (s.st n)).inRange) : OutlineSettings (s.modSt n f) := by
  obtain ⟨h1, h2, h3, h4, h5⟩ := hs
  refine ⟨by simpa using h1, fun m => ?_, by simpa using h3, fun p hp => ?_, fun i e he => ?_⟩
  · by_cases hm : m = n
    · subst hm; rw [st_modSt]; exact hf (h2 m)
    · rw [st_modSt_ne hm]; exact h2 m
  · rw [modSt_port] at hp ⊢
    rw [learnedCount_of_nodes (s := s) (by simp)]
    exact h4 p hp
  · rw [entryAt_of_nodes (s := s) (by simp)] at he
    exact h5 i e he

theorem inRange_setLimit {st : Station} {id v : Nat} (h : limitInRange id v = true) (hs : st.inRange) :
    ({ st with limits := setLimit st.limits id v } : Station).inRange := by
  refine ⟨fun i x hx => ?_, hs.2.1, hs.2.2⟩
  rw [limitValue_setLimit h] at hx
  split at hx
  · next hi => cases hx; rw [hi]; exact h
  · exact hs.1 i x hx

theorem inRange_setHeatItem {st : Station} {id v : Nat} (h : heatInRange id v = true) (hs : st.inRange) :
    ({ st with heatCfg := setHeatItem st.heatCfg id v } : Station).inRange := by
  refine ⟨hs.1, fun i x hx => ?_, hs.2.2⟩
  rw [heatValue_setHeatItem h] at hx
  split at hx
  · next hi => cases hx; rw [hi]; exact h
  · exact hs.2.1 i x hx

/-- A port item within its range that does not clash with the port's others (R137, R157). -/
theorem inRange_setPortItem {s : State} {p : Port} {id v : Nat} (h : portItemInRange id v = true)
    (hc : s.portItemClashes p id v = false) (hs : (s.port p).cfg.inRange) : (setPortItem (s.port p).cfg id v).inRange := by
  obtain ⟨h1, h2, h3, h4, h5, h6, h7, h8⟩ := hs
  match id with
  | 0 | 2 | 7 => exact ⟨h1, h2, h3, h4, h5, h6, h7, h8⟩
  | 1 =>
    have hv : v ≤ 16 := by simpa [portItemInRange] using h
    exact ⟨h1, h2, h3, h4, h5, h6, h7, hv⟩
  | 3 =>
    have hv : 2 ≤ v ∧ v ≤ 40 := by simpa [portItemInRange] using h
    have hlow : (s.port p).cfg.low < v := by simpa [State.portItemClashes] using hc
    exact ⟨h1, hlow, hv.2, h4, h5, h6, h7, h8⟩
  | 4 =>
    have hv : 1 ≤ v ∧ v ≤ 39 := by simpa [portItemInRange] using h
    have hhigh : v < (s.port p).cfg.high := by simpa [State.portItemClashes] using hc
    exact ⟨hv.1, hhigh, h3, h4, h5, h6, h7, h8⟩
  | 5 =>
    have hv : 1 ≤ v ∧ v ≤ 8 := by simpa [portItemInRange] using h
    exact ⟨h1, h2, h3, hv.1, hv.2, h6, h7, h8⟩
  | 6 =>
    have hv : 1 ≤ v ∧ v ≤ 8 := by simpa [portItemInRange] using h
    exact ⟨h1, h2, h3, h4, h5, hv.1, hv.2, h8⟩
  | _ + 8 => cases h

theorem outlineSettings_setPortItem {s : State} {p : Port} {id v : Nat} (hs : OutlineSettings s)
    (h : portItemInRange id v = true) (hc : s.portItemClashes p id v = false) :
    OutlineSettings (s.modPort p (fun q => { q with cfg := setPortItem q.cfg id v })) := by
  obtain ⟨h1, h2, h3, h4, h5⟩ := hs
  refine ⟨by simpa using h1, by simpa using h2, fun x => ?_, fun x hx => ?_, fun i e he => ?_⟩
  · by_cases hxp : x = p
    · subst hxp; rw [port_modPort]; exact inRange_setPortItem h hc (h3 x)
    · rw [port_modPort_ne hxp]; exact h3 x
  · rw [learnedCount_of_nodes (s := s) (by simp)]
    by_cases hxp : x = p
    · subst hxp
      rw [port_modPort] at hx ⊢
      by_cases hid : id = 1
      · subst hid
        have hle : v = 0 ∨ s.learnedCount x ≤ v := by
          by_cases hv : v = 0
          · exact .inl hv
          · right; simpa [State.portItemClashes, hv] using hc
        exact hle.resolve_left hx
      · have hl : (setPortItem (s.port x).cfg id v).learnLimit = (s.port x).cfg.learnLimit := by
          unfold setPortItem; split <;> first | rfl | exact absurd rfl hid
        simp only [hl] at hx ⊢
        exact h4 x hx
    · rw [port_modPort_ne hxp] at hx ⊢
      exact h4 x hx
  · rw [entryAt_of_nodes (s := s) (by simp)] at he
    exact h5 i e he

theorem outlineSettings_removeWhere (q : NodeEntry → Bool) {s : State} (hs : OutlineSettings s) :
    OutlineSettings (removeWhere q s) := by
  rw [removeWhere_eq_removeBelow]
  suffices H : ∀ k, OutlineSettings (removeBelow q k s) from H _
  intro k
  induction k with
  | zero => exact hs
  | succ k ih =>
    obtain ⟨e, he, -, h⟩ | ⟨-, h⟩ := removeIf_cases q k (removeBelow q k s)
    · rw [removeBelow, h, ← removeEntry_of_some he]; exact outlineSettings_removeEntry k ih
    · rw [removeBelow, h]; exact ih

theorem outlineSettings_portItem {s : State} {p : Port} {id v : Nat} (hs : OutlineSettings s)
    (h : portItemInRange id v = true) (hc : s.portItemClashes p id v = false) : OutlineSettings (applyPortItem p id v s) := by
  have hcfg := outlineSettings_setPortItem hs h hc
  unfold applyPortItem
  dsimp only
  split
  · next hid =>
    subst hid
    have hv : 1 ≤ v ∧ v ≤ 600 := by simpa [portItemInRange] using h
    obtain ⟨-, h2, h3, h4, h5⟩ := hs
    exact outlineSettings_removeWhere _ ⟨hv, fun n => by cases n; exacts [h2 .zero, h2 .one],
      fun p => by cases p; exacts [h3 .control, h3 .appliance], fun p => by cases p; exacts [h4 .control, h4 .appliance], h5⟩
  · (repeat' split)
    · exact outlineSettings_of_outline (updateDropMode_outline ..) hcfg
    · unfold recoverIfMet
      split
      · exact outlineSettings_sketch (recover_sketch _ p) hcfg
      · exact hcfg
    · exact hcfg

/-- A written entry is STATIC, with a limit of R142. -/
theorem outlineSettings_writeEntry {s : State} {i : Nat} {e : NodeEntry} (hs : OutlineSettings s) (ho : e.origin = .static)
    (hl : silenceInRange e.limit) : OutlineSettings (writeEntry i e s) := by
  refine outlineSettings_of_outline (writeEntry_outline ..) (outlineSettings_setEntry hs
    (fun p _ h => (learnedCount_setEntry_le fun hlo => ?_).trans h) fun f hf => ?_)
  · simp [learnedOn, ho] at hlo
  · cases hf; exact hl

theorem outlineSettings_effect {s u : State} (hs : OutlineSettings s) (h : Effect s u) : OutlineSettings u := by
  cases h with
  | lock | unlock | recipeLength | recipeClear | zeroStation =>
    exact outlineSettings_modSt hs fun h => Station.inRange_of h rfl rfl rfl
  | storeStep => exact outlineSettings_modSt hs fun h => Station.inRange_of h rfl rfl rfl
  | heatItem n id v _ h => exact outlineSettings_modSt hs (inRange_setHeatItem h)
  | reportInterval n v h =>
    refine outlineSettings_modSt hs fun hr => ⟨hr.1, hr.2.1, ?_⟩
    simpa [intervalOk] using h
  | bind =>
    exact outlineSettings_of_outline (bindStation_outline ..)
      (outlineSettings_modSt hs fun h => Station.inRange_of h rfl rfl rfl)
  | limit n id v _ h =>
    exact outlineSettings_of_outline (applyLimit_outline ..) (outlineSettings_modSt hs (inRange_setLimit h))
  | weighItem => exact outlineSettings_of_outline (applyWeighItem_outline ..) hs
  | zeroPort p => exact outlineSettings_of_outline (outline_modPort _ _ _ fun _ => rfl) hs
  | portItem p id v h hc => exact outlineSettings_portItem hs h hc
  | restartPort p => exact outlineSettings_sketch (restartPort_sketch s p) hs
  | nodeWrite k p limit _ _ hl =>
    have hlim : silenceInRange limit := (silenceLimitOk_iff limit).mp hl
    obtain h | ⟨i, e, -, -, -, h⟩ | ⟨i, -, -, h⟩ := nodeWrite_cases k p limit s
    · rwa [h]
    · rw [h]; exact outlineSettings_writeEntry hs rfl hlim
    · rw [h]; exact outlineSettings_writeEntry hs rfl hlim
  | removeNode k i => exact outlineSettings_removeEntry i hs
  | flushNodes => exact outlineSettings_removeWhere _ hs
  | snapshot | clearNotices | route | routeDefault =>
    exact outlineSettings_of_nodes hs rfl (fun n => by cases n <;> exact ⟨rfl, rfl, rfl⟩) (fun p => by cases p <;> rfl) rfl
  | _ => exact outlineSettings_of_outline (by simp) hs

/-! ### After a reset (R193, R194) -/

theorem inRange_blank : ({} : Station).inRange := by
  refine ⟨fun i v h => ?_, fun i v h => ?_, .inr ⟨by decide, by decide⟩⟩
  · match i with
    | 0 | 1 | 2 | 3 | 4 | 5 | 6 | 7 | 8 | 9 => cases h; decide
    | _ + 10 => cases h
  · match i with
    | 0 | 1 | 2 => cases h; decide
    | _ + 3 => cases h

theorem capturing_blank {c : WeighConfig} (h : ∀ i v, weighValue c i = some v → weighInRange i v = true) :
    Capturing (c, {}) := ⟨h, captureSound_of_op rfl⟩

theorem weighValue_blank : ∀ i v, weighValue {} i = some v → weighInRange i v = true := fun i v h => by
  match i with
  | 0 | 1 | 2 | 3 | 4 | 5 | 6 | 7 | 8 | 9 => cases h; decide
  | _ + 10 => cases h

theorem outlineSettings_blank (own : NodeId) : OutlineSettings (State.blank own) := by
  have hnone : ∀ i, (State.blank own).entryAt i = none := fun i => by
    by_cases hi : i < 16
    · rw [entryAt_of_lt hi]; simp [State.blank]
    · exact entryAt_of_le (Nat.not_lt.mp hi)
  have hage : 1 ≤ ({} : State).ageLimit ∧ ({} : State).ageLimit ≤ 600 := by decide
  have hcfg : ∀ a, ({ admission := a } : PortConfig).inRange := fun a => by simp [PortConfig.inRange]
  refine ⟨hage, fun n => by cases n <;> exact inRange_blank, fun p => ?_, fun p _ => ?_, fun i e he => ?_⟩
  · cases p <;> exact hcfg _
  · rw [learnedCount_eq_zero p fun i e he => by rw [hnone] at he; cases he]; exact Nat.zero_le _
  · rw [hnone] at he; cases he

theorem outlineSettings_keptState {s : State} (hs : OutlineSettings s) : OutlineSettings (keptState s) := by
  have hat : ∀ i e, (keptState s).entryAt i = some e → e.origin = .static ∧ ∃ f, s.entryAt i = some f ∧ f.limit = e.limit := by
    intro i e he
    by_cases hi : i < 16
    · rw [entryAt_of_lt hi] at he ⊢
      simp only [keptState, Vector.getElem_map] at he
      unfold keptEntry at he
      split at he
      · next f hf =>
        split at he
        · next ho => cases he; exact ⟨ho, f, hf, rfl⟩
        · cases he
      · cases he
    · rw [entryAt_of_le (Nat.not_lt.mp hi)] at he; cases he
  refine outlineSettings_of hs rfl (fun n => by cases n <;> exact ⟨rfl, rfl, rfl⟩) (fun p => by cases p <;> rfl)
    (fun p _ _ => ?_) (fun i e he => .inr (hat i e he).2)
  rw [learnedCount_eq_zero p fun i e he => by rw [(hat i e he).1]; simp]
  exact Nat.zero_le _

theorem settingsSound_reset {s t : State} (hs : SettingsSound s) (h : Reset s t) : SettingsSound t := by
  rw [settingsSound_iff] at hs ⊢
  obtain ⟨hb, hc, ho⟩ := hs
  have hbudget : 500 ≤ ({} : Arbiter).budget ∧ ({} : Arbiter).budget ≤ 3600 := by decide
  cases h with
  | kept =>
    refine ⟨by rw [setNotice_arbiter]; exact hb, fun n => ?_, outlineSettings_of_outline (setNotice_outline ..)
      (outlineSettings_keptState ho)⟩
    rw [st_setNotice]
    have := (hc n).1
    cases n <;> exact capturing_blank this
  | powerOn own l =>
    refine ⟨hbudget, fun n => by cases n <;> exact capturing_blank weighValue_blank, ?_⟩
    exact outlineSettings_of_nodes (outlineSettings_blank own) rfl (fun n => by cases n <;> exact ⟨rfl, rfl, rfl⟩)
      (fun p => by cases p <;> rfl) rfl
  | asserted =>
    refine ⟨hbudget, fun n => by cases n <;> exact capturing_blank weighValue_blank, ?_⟩
    exact outlineSettings_of_nodes (outlineSettings_blank 27) rfl (fun n => by cases n <;> exact ⟨rfl, rfl, rfl⟩)
      (fun p => by cases p <;> rfl) rfl

theorem settingsSound_move {s t : State} (hs : SettingsSound s) (h : Move s t) : SettingsSound t := by
  rw [settingsSound_iff] at hs ⊢
  obtain ⟨hb, hc, ho⟩ := hs
  exact ⟨by rw [budget_work (move_work h)]; exact hb, fun n => capturing_scaleSteps (move_scale h n) (hc n),
    outlineSettings_sketch (move_sketch h) ho⟩

theorem settingsSound_effect {s u : State} (hs : SettingsSound s) (h : Effect s u) : SettingsSound u := by
  rw [settingsSound_iff] at hs ⊢
  obtain ⟨hb, hc, ho⟩ := hs
  refine ⟨?_, fun n => capturing_scaleSteps (effect_scale h n) (hc n), outlineSettings_effect ho h⟩
  obtain hbu | hbu := budget_effect h
  · rw [hbu]; exact hb
  · exact hbu

/-- Settles O58: a request writes a setting within its range, a capture writes what it has gathered, and the node table
learns within the room of its ports. -/
theorem stepKeepsSettings : Obligations.StepKeepsSettings := by
  refine step_keeps (fun _ _ => settingsSound_move) (fun _ _ => settingsSound_effect) (fun _ u r a _ _ _ hu => ?_)
    (fun _ _ => settingsSound_reset)
  rw [settingsSound_iff] at hu ⊢
  obtain ⟨hb, hc, ho⟩ := hu
  refine ⟨?_, fun n => by rw [leaveQueue_st, sendReply_st]; exact hc n, ?_⟩
  · change 500 ≤ (sendReply r a u).arbiter.budget ∧ (sendReply r a u).arbiter.budget ≤ 3600
    rw [sendReply_arbiter]; exact hb
  · exact outlineSettings_of_nodes (outlineSettings_of_outline (sendReply_outline r a u) ho) rfl
      (fun n => by cases n <;> exact ⟨rfl, rfl, rfl⟩) (fun p => by cases p <;> rfl) rfl

end Sys2Proof.Machine

/-! PROOFS. The step engine (chapter 2): what each of its operations leaves of the run context, the notice bits and the heat and
drive contexts, and the run fields that each state calls for (R24). -/

namespace Sys2Proof.Machine

open Sys2Proof

/-! ### Notice bits (R187) -/

/-- A bit that is set already is set again without a change. -/
theorem or_noticeMask {b : NoticeBit} {x : BitVec 16} (h : x &&& noticeMask b ≠ 0) : x ||| noticeMask b = x := by
  have hmask : noticeMask b = BitVec.twoPow 16 (noticeIndex b) := rfl
  rw [hmask, BitVec.and_twoPow] at h
  split at h
  · next hx =>
    rw [hmask]
    ext i hi
    rw [BitVec.getElem_or, BitVec.getElem_twoPow, Bool.or_eq_left_iff_imp]
    intro hb
    have : i = noticeIndex b := by simpa using hb
    subst this
    rwa [BitVec.getLsbD_eq_getElem hi] at hx
  · exact absurd rfl h

@[simp] theorem setNotice_bits (b : NoticeBit) (s : State) :
    (setNotice b s).notices.bits = s.notices.bits ||| noticeMask b := by
  unfold setNotice
  split
  · next h => exact (or_noticeMask h).symm
  · split <;> simp

/-! ### The drive context behind a recomputed speed (R116, R117) -/

/-- A drive context up to the lid command and the pending unlock, which the interlock writes. -/
def DriveContext.sameSpeed (d e : DriveContext) : Prop :=
  d = { e with lidCommand := d.lidCommand, pendingUnlock := d.pendingUnlock }

theorem recomputeDrive_sameSpeed (n : StationId) (s : State) :
    ((recomputeDrive n s).st n).drive.sameSpeed (composeSpeed (s.requestOf n) (s.st n).drive) := by
  obtain h | ⟨-, h⟩ := recomputeDrive_drive (n := n) (s := s) rfl <;> rw [h] <;> rfl

theorem testUnlock_sameSpeed (n : StationId) (s : State) : ((testUnlock n s).st n).drive.sameSpeed (s.st n).drive := by
  obtain h | ⟨-, h⟩ := testUnlock_drive (n := n) (s := s) rfl <;> rw [h] <;> rfl

theorem DriveContext.sameSpeed.trans {a b c : DriveContext} (h : a.sameSpeed b) (g : b.sameSpeed c) : a.sameSpeed c := by
  unfold DriveContext.sameSpeed at *; rw [h, g]

theorem askUnlock_sameSpeed (n : StationId) (s : State) : ((askUnlock n s).st n).drive.sameSpeed (s.st n).drive :=
  (testUnlock_sameSpeed n _).trans (by rw [modDrive_st_drive]; rfl)

theorem lockLid_sameSpeed (n : StationId) (s : State) : ((lockLid n s).st n).drive.sameSpeed (s.st n).drive := by
  unfold lockLid
  split
  · rfl
  · rw [sendLidSet_drive, modDrive_st_drive]; rfl

/-- The fields of a speed context. -/
theorem DriveContext.sameSpeed.fields {d e : DriveContext} (h : d.sameSpeed e) :
    d.requested = e.requested ∧ d.requestedDir = e.requestedDir ∧ d.commanded = e.commanded ∧
      d.commandedDir = e.commandedDir ∧ d.clamped = e.clamped ∧ d.envelope = e.envelope ∧ d.manualSpeed = e.manualSpeed ∧
      d.manualDir = e.manualDir ∧ d.speedHold = e.speedHold ∧ d.manualHeat = e.manualHeat ∧ d.heatHold = e.heatHold ∧
      d.manualLid = e.manualLid ∧ d.report = e.report ∧ d.lidReport = e.lidReport ∧ d.spinDown = e.spinDown ∧
      d.spinDownElapsed = e.spinDownElapsed ∧ d.refreshTimer = e.refreshTimer := by
  unfold DriveContext.sameSpeed at h
  rw [h]
  exact ⟨rfl, rfl, rfl, rfl, rfl, rfl, rfl, rfl, rfl, rfl, rfl, rfl, rfl, rfl, rfl, rfl, rfl⟩

theorem stateChanged_sameSpeed (n : StationId) (rule : Adoption) (b : Bool) (s : State) :
    ((stateChanged n rule b s).st n).drive.sameSpeed (composeSpeed (s.requestOf n) (s.st n).drive) := by
  rw [stateChanged_drive]; exact recomputeDrive_sameSpeed n s

/-! ### A station at rest (R25, R93 to R98) -/

/-- A station that is neither IDLE nor RUNNING in ACTIVE asks for no speed. -/
theorem requestOf_rest {s : State} {n : StationId} (h : (s.st n).run.state ≠ .idle)
    (ha : (s.st n).run.state = .running → (s.st n).run.phase ≠ some .active) :
    s.requestOf n = (0, (s.st n).drive.requestedDir) := by
  unfold State.requestOf
  dsimp only
  split
  · next hs => exact absurd hs h
  · next hs hp => exact absurd hp (ha hs)
  · rfl

@[simp] theorem setDemand_heat (n : StationId) (d : Nat) (s : State) :
    ((setDemand n d s).st n).heat = { (s.st n).heat with demand := d } := by
  unfold setDemand
  split
  · next h => rw [← h]
  · simp

/-- What the adoption of a heat target reads. -/
theorem heatTarget_of {s t : State} {n : StationId} (hr : (t.st n).run = (s.st n).run) (hs : (t.st n).steps = (s.st n).steps)
    (hl : (t.st n).limits = (s.st n).limits) : t.heatTarget n = s.heatTarget n := by
  have hc : t.curStep n = s.curStep n := by unfold State.curStep; rw [hr, hs]
  unfold State.heatTarget
  dsimp only
  rw [hr, hl, hc]

/-- The integral of station `n` follows the heat target that stands (R94). -/
def adoptedState (n : StationId) (rule : Adoption) (s : State) : State :=
  retestReached n (s.modHeat n (fun h => { h with integral := adoptedIntegral rule (s.heatTarget n) h.integral }))

theorem adoptTarget_eq {n : StationId} {rule : Adoption} {b : Bool} {s : State} (hr : rule ≠ .skip) :
    adoptTarget n rule b s = if b then adoptedState n rule s
      else setDemand n ((adoptedState n rule s).heldDemand n) (adoptedState n rule s) := by
  cases rule with
  | skip => exact absurd rfl hr
  | keep => rfl
  | entry _ => rfl

@[simp] theorem adoptedState_heatTarget (n : StationId) (rule : Adoption) (s : State) :
    (adoptedState n rule s).heatTarget n = s.heatTarget n :=
  heatTarget_of (by simp [adoptedState]) (by simp [adoptedState]) (by simp [adoptedState])

theorem adoptedState_heat (n : StationId) (rule : Adoption) (s : State) :
    ((adoptedState n rule s).st n).heat = { (s.st n).heat with
      integral := adoptedIntegral rule (s.heatTarget n) (s.st n).heat.integral
      reached := reachTest (s.heatTarget n) (s.st n).heat.bowl (s.st n).heatCfg.reachBand } := by
  have hm : (s.modHeat n (fun h => { h with integral := adoptedIntegral rule (s.heatTarget n) h.integral })).heatTarget n =
      s.heatTarget n := heatTarget_of (by simp) (by simp) (by simp)
  simp [adoptedState, retestReached, hm]

/-- A heat target of 0 leaves nothing to heat (R93 to R98). -/
theorem adoptTarget_rest {n : StationId} {rule : Adoption} {s : State} (hr : rule ≠ .skip) (ht : s.heatTarget n = some 0) :
    ((adoptTarget n rule false s).st n).heat = { (s.st n).heat with integral := 0, reached := false, demand := 0 } := by
  have hd : (adoptedState n rule s).heldDemand n = 0 := by
    unfold State.heldDemand
    simp [ht]
  have hreach : reachTest (some 0) (s.st n).heat.bowl (s.st n).heatCfg.reachBand = false := by
    cases (s.st n).heat.bowl <;> simp [reachTest]
  rw [adoptTarget_eq hr, if_neg (by decide), setDemand_heat, adoptedState_heat, hd, ht, hreach]
  simp [adoptedIntegral, heating]

/-- A state that asks for neither speed nor heat is entered at rest (R25). -/
theorem atRest_stateChanged {n : StationId} {rule : Adoption} {s : State} (hr : rule ≠ .skip) (hi : (s.st n).run.state ≠ .idle)
    (ha : (s.st n).run.state = .running → (s.st n).run.phase ≠ some .active) (ht : s.heatTarget n = some 0) :
    AtRest (stateChanged n rule false s) n := by
  obtain ⟨h1, -, h3, -, h5, -⟩ := (stateChanged_sameSpeed n rule false s).fields
  have hheat : ((stateChanged n rule false s).st n).heat =
      { (s.st n).heat with integral := 0, reached := false, demand := 0 } := by
    unfold stateChanged
    have := adoptTarget_rest (n := n) (s := recomputeDrive n s) hr (by
      rw [← ht]; exact heatTarget_of (by simp) (by simp) (by simp))
    simpa using this
  rw [requestOf_rest hi ha] at h1 h3 h5
  unfold AtRest
  rw [h1, h3, h5, hheat]
  simp [composeSpeed]

theorem atRest_of {s t : State} {n : StationId} (hd : (t.st n).drive.sameSpeed (s.st n).drive)
    (hh : (t.st n).heat = (s.st n).heat) (h : AtRest s n) : AtRest t n := by
  obtain ⟨h1, -, h3, -, h5, -⟩ := hd.fields
  unfold AtRest
  rw [h1, h3, h5, hh]
  exact h

theorem atRest_setNotice {s : State} {n : StationId} (b : NoticeBit) (h : AtRest s n) : AtRest (setNotice b s) n :=
  atRest_of (by rw [setNotice_drive]; rfl) (by simp) h

end Sys2Proof.Machine

/-! PROOFS. The step engine (chapter 2): the run context and the notice bits that each of its operations leaves. -/

namespace Sys2Proof.Machine

open Sys2Proof

/-! ### Step end (R36, R56) -/

/-- Only a step that is skipped or faulted may report another elapsed time than its own (R46, R53). -/
theorem captureReport_whole (st : Station) {o : StepOutcome} (h : o ≠ .skipped ∧ o ≠ .faulted) :
    st.captureReport o = st.endReport o st.run.elapsed := by
  simp [Station.captureReport, Station.endReport, Station.reportedElapsed, Station.added, h.1, h.2]

theorem captureReport_cut (st : Station) {o : StepOutcome} (h : o = .skipped ∨ o = .faulted) :
    st.captureReport o = st.endReport o st.cutElapsed := by
  have helapsed : st.reportedElapsed o = st.cutElapsed := by
    unfold Station.reportedElapsed Station.cutElapsed
    cases hp : st.run.phase with
    | none => simp
    | some p => cases p <;> simp [h]
  unfold Station.captureReport
  rw [helapsed]
  rfl

@[simp] theorem endStep_run (n : StationId) (o : StepOutcome) (s : State) :
    ((endStep n o s).st n).run = endedRun ((s.st n).captureReport o) (s.st n).run := by
  simp [endStep]

@[simp] theorem endStep_bits (n : StationId) (o : StepOutcome) (s : State) :
    (endStep n o s).notices.bits = s.notices.bits ||| noticeMask (.stepEnd n) := by
  simp [endStep]

/-! ### Faults (R53, R54) -/

/-- The last step report of a station that faults: that of the step it ends FAULTED, where one runs (R53). -/
def Station.faultedReport (st : Station) : Option StepReport :=
  if st.run.state = .running ∨ st.run.state = .paused then some (st.endReport .faulted st.cutElapsed)
  else st.run.lastReport

/-- The notice bits at a fault entry, before its own (R53). -/
def State.faultedBits (s : State) (n : StationId) : BitVec 16 :=
  if (s.st n).run.state = .running ∨ (s.st n).run.state = .paused then s.notices.bits ||| noticeMask (.stepEnd n)
  else s.notices.bits

/-- The state of a fault entry after the step's end (R53). -/
def faultEnded (n : StationId) (s : State) : State :=
  if (s.st n).run.state = .running ∨ (s.st n).run.state = .paused then endStep n .faulted s else s

theorem enterFault_eq (n : StationId) (c : FaultCause) (k : Nat) (b : Bool) (s : State) :
    enterFault n c k b s = setNotice (.fault n) (askUnlock n (stateChanged n .keep b
      (((faultEnded n s).modRun n (faultedRun c k)).modDrive n clearedManual))) := by
  unfold enterFault faultEnded
  cases (s.st n).run.state <;> simp

@[simp] theorem faultEnded_drive (n : StationId) (s : State) (m : StationId) :
    ((faultEnded n s).st m).drive = (s.st m).drive := by
  unfold faultEnded; split <;> simp

@[simp] theorem faultEnded_heat (n : StationId) (s : State) (m : StationId) :
    ((faultEnded n s).st m).heat = (s.st m).heat := by
  unfold faultEnded; split <;> simp

theorem faultEnded_lastReport (n : StationId) (s : State) :
    ((faultEnded n s).st n).run.lastReport = (s.st n).faultedReport := by
  unfold faultEnded Station.faultedReport
  split
  · rw [endStep_run, ← captureReport_cut _ (.inr rfl)]; rfl
  · rfl

theorem faultEnded_bits (n : StationId) (s : State) : (faultEnded n s).notices.bits = s.faultedBits n := by
  unfold faultEnded State.faultedBits; split <;> simp

@[simp] theorem enterFault_run (n : StationId) (c : FaultCause) (k : Nat) (b : Bool) (s : State) :
    ((enterFault n c k b s).st n).run =
      { state := .fault, faultCause := some c, furtherFaults := min 255 k, more := decide (0 < k)
        lastReport := (s.st n).faultedReport } := by
  rw [← faultEnded_lastReport, enterFault_eq]
  simp [faultedRun, clearedRun]

@[simp] theorem enterFault_bits (n : StationId) (c : FaultCause) (k : Nat) (b : Bool) (s : State) :
    (enterFault n c k b s).notices.bits = s.faultedBits n ||| noticeMask (.fault n) := by
  rw [enterFault_eq, setNotice_bits]
  simp [faultEnded_bits]

theorem onlyRuns_enterFault (n : StationId) (c : FaultCause) (k : Nat) (b : Bool) (s : State) :
    OnlyRuns s (enterFault n c k b s) n := by
  simp [OnlyRuns]

theorem unlockAsked_setNotice {s : State} {n : StationId} (b : NoticeBit) (h : UnlockAsked s n) :
    UnlockAsked (setNotice b s) n := by
  unfold UnlockAsked; rw [setNotice_drive]; exact h

/-- The drive context of a fault entry: no speed, no manual demand, and the unlock asked for (R53). -/
theorem enterFault_drive (n : StationId) (c : FaultCause) (k : Nat) (b : Bool) (s : State) :
    ((enterFault n c k b s).st n).drive.sameSpeed
      (composeSpeed (0, (s.st n).drive.requestedDir) (clearedManual (s.st n).drive)) := by
  rw [enterFault_eq, setNotice_drive]
  have h := (askUnlock_sameSpeed n (stateChanged n .keep b
    (((faultEnded n s).modRun n (faultedRun c k)).modDrive n clearedManual))).trans (stateChanged_sameSpeed ..)
  rw [requestOf_rest (by simp [faultedRun, clearedRun]) (by simp [faultedRun, clearedRun])] at h
  simpa [clearedManual] using h

theorem unlockAsked_enterFault (n : StationId) (c : FaultCause) (k : Nat) (b : Bool) (s : State) :
    UnlockAsked (enterFault n c k b s) n := by
  rw [enterFault_eq]
  exact unlockAsked_setNotice _ (unlockAsked_askUnlock ..)

/-- Whatever follows it in its event, a fault entry is entered once the heat is at rest too. -/
theorem enteredFault_of {u : State} {n : StationId} {c : FaultCause} {k : Nat} {b : Bool} {s : State}
    (hrun : (u.st n).run = ((enterFault n c k b s).st n).run)
    (hdrive : (u.st n).drive = ((enterFault n c k b s).st n).drive)
    (hbits : u.notices.bits = (enterFault n c k b s).notices.bits) (hrest : AtRest u n) :
    EnteredFault u n c k (s.st n).faultedReport (s.faultedBits n) := by
  obtain ⟨-, -, -, -, -, -, hspeed, -, hhold, hheat, hheatHold, hlid, -⟩ := (enterFault_drive n c k b s).fields
  rw [enterFault_run] at hrun
  rw [enterFault_bits] at hbits
  rw [← hdrive] at hspeed hhold hheat hheatHold hlid
  refine ⟨hrun, hrest, hspeed, hhold, hheat, hheatHold, hlid, ?_, hbits⟩
  unfold UnlockAsked
  rw [hdrive]
  exact unlockAsked_enterFault ..

/-- A fault entry outside a sample event leaves the station at rest (R53). -/
theorem atRest_enterFault (n : StationId) (c : FaultCause) (k : Nat) (s : State) : AtRest (enterFault n c k false s) n := by
  rw [enterFault_eq]
  exact atRest_setNotice _ (atRest_of (askUnlock_sameSpeed ..) (by simp)
    (atRest_stateChanged (by decide) (by simp [faultedRun, clearedRun]) (by simp [faultedRun, clearedRun])
      (by simp [State.heatTarget, faultedRun, clearedRun])))

theorem enteredFault_enterFault (n : StationId) (c : FaultCause) (k : Nat) (s : State) :
    EnteredFault (enterFault n c k false s) n c k (s.st n).faultedReport (s.faultedBits n) :=
  enteredFault_of rfl rfl rfl (atRest_enterFault ..)

theorem faultsFrom_enterFault (n : StationId) (c : FaultCause) (k : Nat) (s : State) :
    FaultsFrom s (enterFault n c k false s) n c k := by
  have h := enteredFault_enterFault n c k s
  unfold Station.faultedReport State.faultedBits at h
  refine ⟨fun hrun => ?_, fun hr hp => ?_, onlyRuns_enterFault ..⟩
  · simpa only [hrun, if_true] using h
  · simpa only [hr, hp, or_self, if_false] using h

/-! ### Phases (R28 to R30) -/

/-- The run context of a station that runs in phase `p`, entered from LOCKING, from a pause or anew. -/
def RunContext.runsIn (p : Phase) (deadline : Option Nat) (r : RunContext) : RunContext :=
  { r with
    state := .running, phase := some p, phaseAfterLock := none, savedPhase := none, pauseReason := none
    deadline := deadline }

@[simp] theorem enterActive_run (n : StationId) (rule : Adoption) (b : Bool) (s : State) :
    ((enterActive n rule b s).st n).run = (s.st n).run.runsIn .active none := by
  simp only [enterActive]
  split <;> simp [RunContext.runsIn]

@[simp] theorem enterBasing_run (n : StationId) (rule : Adoption) (b : Bool) (s : State) :
    ((enterBasing n rule b s).st n).run = (s.st n).run.runsIn .basing (some 5000) := by
  simp only [enterBasing, stateChanged_run, modRun_st_run, RunContext.runsIn, Config.basingMs]

theorem curStep_of {s t : State} {n : StationId} (hr : (t.st n).run.step = (s.st n).run.step)
    (hs : (t.st n).steps = (s.st n).steps) : t.curStep n = s.curStep n := by
  unfold State.curStep; rw [hr, hs]

/-- Entry into ACTIVE raises CONFIRM_n for a step that waits for it, and nothing else (R30). -/
theorem enterActive_confirm {n : StationId} {rule : Adoption} {b : Bool} {s : State} (h : (s.curStep n).endConfirm = true) :
    (enterActive n rule b s).notices.bits = s.notices.bits ||| noticeMask (.confirm n) := by
  simp only [enterActive]
  rw [curStep_of (s := s) (by simp) (by simp), if_pos h]
  simp

theorem enterActive_silently {n : StationId} {rule : Adoption} {b : Bool} {s : State} (h : (s.curStep n).endConfirm = false) :
    (enterActive n rule b s).notices = s.notices := by
  simp only [enterActive]
  rw [curStep_of (s := s) (by simp) (by simp), if_neg (by simp [h])]
  simp

/-- The phase that LOCKING leads to (R28). -/
theorem leaveLocking_basing {n : StationId} {rule : Adoption} {b : Bool} {s : State}
    (h : (s.st n).run.phaseAfterLock = some .basing) : leaveLocking n rule b s = enterBasing n rule b s := by
  simp [leaveLocking, h]

theorem leaveLocking_active {n : StationId} {rule : Adoption} {b : Bool} {s : State}
    (h : (s.st n).run.phaseAfterLock ≠ some .basing) : leaveLocking n rule b s = enterActive n rule b s := by
  unfold leaveLocking; split
  · next hb => exact absurd hb h
  · rfl

/-- The LOCKING deadline after a look at a lid that is not locked, where it was `old`: it runs only over a lid that is heard
and closed (R28). -/
def State.lidDeadline (s : State) (n : StationId) (old : Option Nat) : Option Nat :=
  if s.silent n .lid then none
  else match (s.st n).drive.lidReport with
    | none => none
    | some r => if r.closed then some (old.getD 3000) else none

theorem actOnLid_of_locked {n : StationId} {s : State} (h : s.lidLocked n = true) :
    actOnLid n s = leaveLocking n .skip false s := by
  simp [actOnLid, h]

theorem actOnLid_run_of_unlocked {n : StationId} {s : State} (h : s.lidLocked n = false) :
    ((actOnLid n s).st n).run =
      { (s.st n).run with deadline := s.lidDeadline n (s.st n).run.deadline } := by
  simp only [actOnLid, h, State.lidDeadline, Bool.false_eq_true, if_false]
  split
  · simp
  · cases hr : (s.st n).drive.lidReport with
    | none => simp
    | some r =>
      dsimp only
      split
      · cases hd : (s.st n).run.deadline with
        | none => simp [Config.lockingMs]
        | some d => rw [show some ((some d).getD 3000) = (s.st n).run.deadline from hd.symm]
      · simp

theorem actOnLid_notices_of_unlocked {n : StationId} {s : State} (h : s.lidLocked n = false) :
    (actOnLid n s).notices = s.notices := by
  simp only [actOnLid, h, Bool.false_eq_true, if_false]
  (repeat' split) <;> simp

/-- What LOCKING reads of the lid. -/
theorem lidDeadline_of {s t : State} {n : StationId} (h : t.outline = s.outline)
    (hr : (t.st n).drive.lidReport = (s.st n).drive.lidReport) (old : Option Nat) :
    t.lidDeadline n old = s.lidDeadline n old := by
  unfold State.lidDeadline; rw [silent_of h, hr]

theorem stateChanged_lidReport (n : StationId) (rule : Adoption) (b : Bool) (s : State) :
    ((stateChanged n rule b s).st n).drive.lidReport = (s.st n).drive.lidReport := by
  obtain ⟨-, -, -, -, -, -, -, -, -, -, -, -, -, hr, -⟩ := (stateChanged_sameSpeed n rule b s).fields
  exact hr

/-- Over a lid that is not locked a step waits in LOCKING (R28). -/
theorem enterLocking_run {n : StationId} {after : Phase} {rule : Adoption} {b : Bool} {s : State}
    (h : s.lidLocked n = false) : ((enterLocking n after rule b s).st n).run =
      { (s.st n).run.runsIn .locking (s.lidDeadline n none) with phaseAfterLock := some after } := by
  unfold enterLocking
  rw [actOnLid_run_of_unlocked]
  · rw [lidDeadline_of (s := s) (by simp) (by rw [stateChanged_lidReport]; simp)]
    simp [RunContext.runsIn]
  · rw [← h]; exact lidLocked_of (by simp) (by rw [stateChanged_lidReport]; simp)

/-- BASING ends: the lid decides (R29). -/
theorem leaveBasing_locking {n : StationId} {s : State} (h : (s.curStep n).lock = true) (hl : s.lidLocked n = false) :
    leaveBasing n s = enterLocking n .active .skip false s := by
  simp [leaveBasing, h, hl]

theorem leaveBasing_active {n : StationId} {s : State} (h : (s.curStep n).lock = false ∨ s.lidLocked n = true) :
    leaveBasing n s = enterActive n .skip false s := by
  obtain h | h := h <;> simp [leaveBasing, h]

/-! ### Pauses (R41, R42) -/

@[simp] theorem pauseStation_run (n : StationId) (why : PauseReason) (s : State) :
    ((pauseStation n why s).st n).run = { (s.st n).run with
      state := .paused, savedPhase := (s.st n).run.phase, phase := none, pauseReason := some why
      flags := { (s.st n).run.flags with paused := true } } := by
  simp [pauseStation]

@[simp] theorem pauseStation_bits (n : StationId) (why : PauseReason) (s : State) :
    (pauseStation n why s).notices.bits = s.notices.bits ||| noticeMask (.paused n) := by
  simp [pauseStation]

theorem atRest_pauseStation (n : StationId) (why : PauseReason) (s : State) : AtRest (pauseStation n why s) n :=
  atRest_setNotice _ (atRest_stateChanged (by decide) (by simp) (by simp) (by simp [State.heatTarget]))

end Sys2Proof.Machine

/-! PROOFS. What follows a step's end (chapter 2): step entry (R27), WARMING and recipe end (R37, R38). -/

namespace Sys2Proof.Machine

open Sys2Proof

/-! ### Step entry (R27) -/

theorem standing_of {s t : State} (h : t.outline = s.outline) (n : StationId) (r : Option StepRecord) (ht : Option Int) :
    t.standing n r ht = s.standing n r ht := by
  unfold State.standing; rw [isolated_of h, silent_of h, silent_of h, silent_of h, silent_of h]

/-- A station that has entered step `i` heats to that step's target (R93). -/
theorem heatTarget_enteredRun (n : StationId) (i : Nat) (s : State) :
    (s.modRun n (enteredRun i ((s.st n).slot i))).heatTarget n = some (((s.st n).slot i).heat : Int) := by
  simp [State.heatTarget, State.curStep, Station.slot, enteredRun]

theorem enterStep_standing {n : StationId} {i : Nat} {old : Option Int} {b : Bool} {s : State} {c : FaultCause}
    {further : List FaultCause}
    (h : s.standing n (some ((s.st n).slot i)) (some (((s.st n).slot i).heat : Int)) = c :: further) :
    enterStep n i old b s = enterFault n c further.length b (s.modRun n (enteredRun i ((s.st n).slot i))) := by
  unfold enterStep
  rw [← standing_of (t := s.modRun n (enteredRun i ((s.st n).slot i))) (by simp)] at h
  simp only [heatTarget_enteredRun, h]

/-- Without a standing cause a step is entered in the phase that its lid and its dose call for (R27). -/
theorem enterStep_free {n : StationId} {i : Nat} {old : Option Int} {b : Bool} {s s1 : State} {r : StepRecord}
    (hr : (s.st n).slot i = r) (hs : s1 = s.modRun n (enteredRun i r)) (h : s.standing n (some r) (some (r.heat : Int)) = []) :
    enterStep n i old b s =
      if r.lock = true ∧ s.lidLocked n = false then
        enterLocking n (if 0 < r.dose then .basing else .active) (.entry old) b s1
      else if 0 < r.dose then enterBasing n (.entry old) b s1 else enterActive n (.entry old) b s1 := by
  subst hr hs
  have hlock : (s.modRun n (enteredRun i ((s.st n).slot i))).lidLocked n = s.lidLocked n := lidLocked_of (by simp) (by simp)
  unfold enterStep
  rw [← standing_of (t := s.modRun n (enteredRun i ((s.st n).slot i))) (by simp)] at h
  simp only [heatTarget_enteredRun, h, hlock, Bool.and_eq_true, Bool.not_eq_true']

/-- The deadline of a phase just entered (R28, R29). -/
def State.entryDeadline (s : State) (n : StationId) : Phase → Option Nat
  | .locking => s.lidDeadline n none
  | .basing => some 5000
  | .active => none

theorem enterStep_run {n : StationId} {i : Nat} {old : Option Int} {b : Bool} {s : State} {r : StepRecord} {p : Phase}
    (hr : (s.st n).slot i = r) (hp : p = entryPhase r (s.lidLocked n))
    (h : s.standing n (some r) (some (r.heat : Int)) = []) :
    ((enterStep n i old b s).st n).run =
      { (enteredRun i r (s.st n).run).runsIn p (s.entryDeadline n p) with
        phaseAfterLock := if p = .locking then some (if r.dose = 0 then .active else .basing) else none } := by
  rw [enterStep_free hr rfl h]
  subst hp
  unfold entryPhase
  split
  · next hl =>
    rw [enterLocking_run (by rw [← hl.2]; exact lidLocked_of (by simp) (by simp)),
      lidDeadline_of (s := s) (by simp) (by simp)]
    have hafter : (if 0 < r.dose then Phase.basing else .active) = if r.dose = 0 then .active else .basing := by
      split <;> split <;> first | rfl | omega
    simp [hafter, State.entryDeadline, RunContext.runsIn]
  · split
    · next hd => simp [Nat.pos_iff_ne_zero.mp hd, State.entryDeadline, RunContext.runsIn]
    · next hd => simp [Nat.eq_zero_of_not_pos hd, State.entryDeadline, RunContext.runsIn]

theorem enteredStep_enterStep {n : StationId} {i : Nat} {old : Option Int} {b : Bool} {s s0 u : State} {r : StepRecord}
    (hl : s.lidLocked n = s0.lidLocked n) (hr : (s.st n).slot i = r)
    (h : s.standing n (some r) (some (r.heat : Int)) = []) (hu : (u.st n).run = ((enterStep n i old b s).st n).run) :
    EnteredStep s0 u n i r := by
  unfold EnteredStep
  rw [hu, enterStep_run hr rfl h, hl]
  dsimp only [RunContext.runsIn, enteredRun]
  refine ⟨rfl, rfl, rfl, fun hp => ?_, fun hp => ?_, fun hp => ?_, rfl, rfl, rfl, rfl, rfl, rfl, rfl, rfl⟩
  · rw [if_pos (Option.some.inj hp)]
  · rw [Option.some.inj hp]; rfl
  · rw [Option.some.inj hp]; rfl

/-! ### WARMING and recipe end (R37, R38) -/

/-- The run context that WARMING starts from (R38). -/
def warmedState (n : StationId) (s : State) : State :=
  s.modRun n (fun r => { clearedRun .warming r with warmingLimit := some (s.st n).limits.keepWarmLimit })

theorem heatTarget_warmedState (n : StationId) (s : State) :
    (warmedState n s).heatTarget n = some ((s.st n).limits.keepWarmTemp : Int) := by
  simp [warmedState, State.heatTarget, clearedRun]

theorem enterWarming_standing {n : StationId} {old : Option Int} {b : Bool} {s : State} {c : FaultCause}
    {further : List FaultCause} (h : s.standing n none (some ((s.st n).limits.keepWarmTemp : Int)) = c :: further) :
    enterWarming n old b s = enterFault n c further.length b (warmedState n s) := by
  rw [← standing_of (t := warmedState n s) (by simp [warmedState]), ← heatTarget_warmedState] at h
  unfold warmedState at h ⊢
  simp only [enterWarming, h]

theorem enterWarming_free {n : StationId} {old : Option Int} {b : Bool} {s : State}
    (h : s.standing n none (some ((s.st n).limits.keepWarmTemp : Int)) = []) :
    enterWarming n old b s = askUnlock n (stateChanged n (.entry old) b (warmedState n s)) := by
  rw [← standing_of (t := warmedState n s) (by simp [warmedState]), ← heatTarget_warmedState] at h
  unfold warmedState at h ⊢
  simp only [enterWarming, h]

theorem unlockAsked_enterIdle (n : StationId) (b : Bool) (s : State) : UnlockAsked (enterIdle n true b s) n := by
  unfold enterIdle; exact unlockAsked_askUnlock ..

/-! ### Step end (R36 to R38) -/

theorem onlyRuns_finishStep (n : StationId) (o : StepOutcome) (b : Bool) (s : State) :
    OnlyRuns s (finishStep n o b s) n := by
  simp [OnlyRuns]

/-- The state of a step's end, once the step report stands and the loop counter has moved (R36, R37). -/
def stepEnded (n : StationId) (o : StepOutcome) (s : State) : State :=
  (endStep n o s).modRun n (fun r => { r with
    loopCounter := (nextStep (s.curStep n) ((s.st n).run.step.getD 0) (s.st n).run.loopCounter).2 })

theorem finishStep_eq (n : StationId) (o : StepOutcome) (b : Bool) (s : State) :
    finishStep n o b s =
      if (nextStep (s.curStep n) ((s.st n).run.step.getD 0) (s.st n).run.loopCounter).1 < (s.st n).recipeLength then
        enterStep n (nextStep (s.curStep n) ((s.st n).run.step.getD 0) (s.st n).run.loopCounter).1 (s.heatTarget n) b
          (stepEnded n o s)
      else endRecipe n (s.curStep n) (s.heatTarget n) b (stepEnded n o s) := rfl

@[simp] theorem stepEnded_outline (n : StationId) (o : StepOutcome) (s : State) : (stepEnded n o s).outline = s.outline := by
  simp [stepEnded]

@[simp] theorem stepEnded_drive (n : StationId) (o : StepOutcome) (s : State) (m : StationId) :
    ((stepEnded n o s).st m).drive = (s.st m).drive := by
  simp [stepEnded]

@[simp] theorem stepEnded_bits (n : StationId) (o : StepOutcome) (s : State) :
    (stepEnded n o s).notices.bits = s.notices.bits ||| noticeMask (.stepEnd n) := by
  simp [stepEnded]

@[simp] theorem stepEnded_run (n : StationId) (o : StepOutcome) (s : State) :
    ((stepEnded n o s).st n).run = { endedRun ((s.st n).captureReport o) (s.st n).run with
      loopCounter := (nextStep (s.curStep n) ((s.st n).run.step.getD 0) (s.st n).run.loopCounter).2 } := by
  simp [stepEnded]

/-- The next step in the terms of R5 and R37. -/
theorem nextStep_eq (r : StepRecord) (i loop : Nat) : nextStep r i loop =
    (if r.loopCount = 0 ∨ r.loopCount ≤ loop then i + 1 else r.loopTarget,
      if r.loopCount = 0 then loop else if loop < r.loopCount then loop + 1 else 0) := by
  unfold nextStep
  by_cases h0 : r.loopCount = 0
  · simp [h0]
  · by_cases hl : loop < r.loopCount
    · simp [h0, hl, Nat.not_le.mpr hl]
    · simp [h0, hl, Nat.not_lt.mp hl]

/-- The recipe's end after `s1`, once RECIPE_END_n is set (R38). -/
theorem endRecipe_idle {n : StationId} {r : StepRecord} (old : Option Int) {b : Bool} {s : State} (h : r.keepWarm = false) :
    endRecipe n r old b s = enterIdle n true b (setNotice (.recipeEnd n) s) := by
  simp [endRecipe, h]

theorem endRecipe_warming {n : StationId} {r : StepRecord} (old : Option Int) {b : Bool} {s : State} (h : r.keepWarm = true) :
    endRecipe n r old b s = enterWarming n old b (setNotice (.recipeEnd n) s) := by
  simp [endRecipe, h]

/-- A step that ends with an outcome that goes on, with whatever follows in the same event outside the run, drive context and
notice bits (R36 to R38). -/
theorem endsStep_of {s u : State} {n : StationId} {o : StepOutcome} {b : Bool} {e : Nat}
    (hrep : (s.st n).captureReport o = (s.st n).endReport o e)
    (hrun : (u.st n).run = ((finishStep n o b s).st n).run) (hdrive : (u.st n).drive = ((finishStep n o b s).st n).drive)
    (hbits : u.notices.bits = (finishStep n o b s).notices.bits) (honly : OnlyRuns s u n)
    (hrest : (u.st n).run.state = .fault → AtRest u n) : EndsStep s u n o e := by
  have hunlock : UnlockAsked (finishStep n o b s) n → UnlockAsked u n := by
    unfold UnlockAsked; rw [hdrive]; exact id
  rw [finishStep_eq, nextStep_eq] at hrun hdrive hbits hunlock
  dsimp only at hrun hdrive hbits hunlock
  have hlimits : ((stepEnded n o s).st n).limits = (s.st n).limits := limits_of (stepEnded_outline ..) n
  have hslot : ∀ i, ((stepEnded n o s).st n).slot i = ((s.st n).steps[i]?).join.getD {} := fun i => by
    unfold Station.slot; rw [steps_of (stepEnded_outline ..) n]
  refine ⟨fun hnext => ⟨fun hfree => ?entered, fun c further hc => ?stepFault⟩,
    fun hnext => ⟨fun hk => ?idle, fun hk hfree => ?warming, fun hk c further hc => ?warmFault⟩, honly⟩
  case entered =>
    rw [if_pos hnext] at hrun
    have hstand := (standing_of (stepEnded_outline n o s) n _ _).trans hfree
    refine ⟨enteredStep_enterStep (s := stepEnded n o s) (lidLocked_of (by simp) (by simp)) (hslot _) hstand hrun, ?_, ?_⟩ <;>
      rw [hrun, enterStep_run (s := stepEnded n o s) (hslot _) rfl hstand] <;>
      simp [RunContext.runsIn, enteredRun, endedRun, nextStep_eq, hrep]
  case stepFault =>
    have hstand := (standing_of (stepEnded_outline n o s) n _ _).trans hc
    rw [if_pos hnext, enterStep_standing (further := further) (c := c) (by rw [hslot]; exact hstand),
      enterFault_run] at hrun
    rw [hrun]
    exact ⟨rfl, rfl, rfl⟩
  case idle =>
    rw [if_neg (Nat.not_lt.mpr hnext), endRecipe_idle _ hk] at hrun hbits hunlock
    refine ⟨?_, hunlock (unlockAsked_enterIdle ..), ?_⟩
    · rw [hrun]
      simp [RunContext.emptied, endedRun, hrep]
    · rw [hbits]
      simp
  case warming =>
    have hstand := (standing_of (t := setNotice (.recipeEnd n) (stepEnded n o s)) (by simp) n _ _).trans hfree
    rw [if_neg (Nat.not_lt.mpr hnext), endRecipe_warming _ hk,
      enterWarming_free (by rw [limits_of (s := s) (by simp)]; exact hstand)] at hrun hbits hunlock
    refine ⟨?_, hunlock (unlockAsked_askUnlock ..), ?_⟩
    · rw [hrun]
      simp [warmedState, clearedRun, RunContext.emptied, endedRun, hrep, hlimits]
    · rw [hbits]
      simp [warmedState]
  case warmFault =>
    have hstand := (standing_of (t := setNotice (.recipeEnd n) (stepEnded n o s)) (by simp) n _ _).trans hc
    rw [if_neg (Nat.not_lt.mpr hnext), endRecipe_warming _ hk,
      enterWarming_standing (further := further) (c := c) (by rw [limits_of (s := s) (by simp)]; exact hstand)]
      at hrun hdrive hbits
    have h := enteredFault_of hrun hdrive hbits (hrest (by rw [hrun, enterFault_run]))
    simpa [Station.faultedReport, State.faultedBits, warmedState, clearedRun, endedRun, hrep] using h

/-- A fault that follows a step's end is a fault entry. -/
theorem finishStep_fault {n : StationId} {o : StepOutcome} {b : Bool} {s : State}
    (h : ((finishStep n o b s).st n).run.state = .fault) : ∃ c k v, finishStep n o b s = enterFault n c k b v := by
  have enterStep_fault : ∀ i old (v : State), ((enterStep n i old b v).st n).run.state = .fault →
      ∃ c k w, enterStep n i old b v = enterFault n c k b w := by
    intro i old v hv
    cases hc : v.standing n (some ((v.st n).slot i)) (some (((v.st n).slot i).heat : Int)) with
    | nil => rw [enterStep_run rfl rfl hc] at hv; cases hv
    | cons c further => exact ⟨_, _, _, enterStep_standing hc⟩
  revert h
  rw [finishStep_eq]
  split <;> intro h
  · exact enterStep_fault _ _ _ h
  · cases hk : (s.curStep n).keepWarm with
    | false =>
      rw [endRecipe_idle _ hk, enterIdle_run] at h
      cases h
    | true =>
      rw [endRecipe_warming _ hk] at h ⊢
      generalize setNotice (.recipeEnd n) (stepEnded n o s) = v at h ⊢
      cases hc : v.standing n none (some ((v.st n).limits.keepWarmTemp : Int)) with
      | nil => rw [enterWarming_free hc] at h; simp [warmedState, clearedRun] at h
      | cons c further => exact ⟨_, _, _, enterWarming_standing hc⟩

/-- Outside a sample event such a fault leaves the station at rest. -/
theorem atRest_finishStep {n : StationId} {o : StepOutcome} {s : State}
    (h : ((finishStep n o false s).st n).run.state = .fault) : AtRest (finishStep n o false s) n := by
  obtain ⟨c, k, v, hv⟩ := finishStep_fault h
  rw [hv]
  exact atRest_enterFault ..

/-- A step that ends outside a temperature sample (R36 to R38). -/
theorem endsStep_finishStep {s : State} {n : StationId} {o : StepOutcome} {e : Nat}
    (hrep : (s.st n).captureReport o = (s.st n).endReport o e) : EndsStep s (finishStep n o false s) n o e :=
  endsStep_of hrep rfl rfl rfl (onlyRuns_finishStep ..) atRest_finishStep

end Sys2Proof.Machine

/-! PROOFS. The run fields that each state and phase call for (R24). -/

namespace Sys2Proof.Machine

open Sys2Proof

/-! ### Sound run contexts -/

/-- What a step that runs or pauses holds in every phase. -/
def RunContext.inStep (r : RunContext) : Prop :=
  r.step ≠ none ∧ r.effLimit ≠ none ∧ r.reversal ≠ none ∧ r.warmingElapsed = 0 ∧ r.warmingLimit = none

theorem RunContext.sound.inStep {r : RunContext} (h : r.sound) (hs : r.state = .running ∨ r.state = .paused) : r.inStep := by
  obtain ⟨-, hstep, hwarm, hlimit, -⟩ := h
  obtain ⟨h1, h2, h3⟩ := hstep hs
  have hw : r.state ≠ .warming := by obtain hs | hs := hs <;> simp [hs]
  exact ⟨h1, h2, h3, hwarm hw, not_not.mp (mt hlimit.mp hw)⟩

theorem RunContext.sound.notWarming {r : RunContext} (h : r.sound) (hs : r.state ≠ .warming) :
    r.warmingElapsed = 0 ∧ r.warmingLimit = none := by
  obtain ⟨-, -, hwarm, hlimit, -⟩ := h
  exact ⟨hwarm hs, not_not.mp (mt hlimit.mp hs)⟩

/-- A step that runs in BASING or ACTIVE. -/
theorem sound_runsIn {r : RunContext} (h : r.inStep) {p : Phase} {d : Option Nat}
    (hp : p = .basing ∧ d ≠ none ∨ p = .active ∧ d = none) : (r.runsIn p d).sound := by
  obtain ⟨h1, h2, h3, h4, h5⟩ := h
  obtain ⟨rfl, hd⟩ | ⟨rfl, rfl⟩ := hp <;> simp_all [RunContext.sound, RunContext.runsIn]

/-- A step that runs in LOCKING. -/
theorem sound_locking {r : RunContext} (h : r.inStep) {after : Phase} {d : Option Nat} (ha : after ≠ .locking) :
    ({ r.runsIn .locking d with phaseAfterLock := some after } : RunContext).sound := by
  obtain ⟨h1, h2, h3, h4, h5⟩ := h
  simp_all [RunContext.sound, RunContext.runsIn]

theorem sound_emptied_idle (r : RunContext) : (r.emptied .idle).sound := by
  simp [RunContext.sound, RunContext.emptied]

theorem sound_faulted (c : FaultCause) (k : Nat) (more : Bool) (rep : Option StepReport) :
    ({ state := .fault, faultCause := some c, furtherFaults := k, more := more, lastReport := rep } : RunContext).sound := by
  simp [RunContext.sound]

/-- Outside ACTIVE and BASING the deadline is free. -/
theorem RunContext.sound.deadline {r : RunContext} (h : r.sound) (hp : r.phase = some .locking) (d : Option Nat) :
    ({ r with deadline := d } : RunContext).sound := by
  have hstate : r.state = .running := by
    by_contra hs
    by_cases hpause : r.state = .paused
    · obtain ⟨-, -, -, -, -, -, hpaused, -⟩ := h
      simp [(hpaused hpause).1] at hp
    · simp [(h.1 hs hpause).1] at hp
  obtain ⟨-, h2, h3, h4, h5, h6, h7, h8, h9, h10, h11⟩ := h
  obtain ⟨-, hsaved, hreason⟩ := h6 hstate
  simp_all [RunContext.sound]

/-! ### What the step engine leaves -/

section
variable {s : State} {n : StationId}

theorem sound_enterFault (c : FaultCause) (k : Nat) (b : Bool) : ((enterFault n c k b s).st n).run.sound := by
  rw [enterFault_run]; exact sound_faulted ..

theorem sound_enterIdle (unlock b : Bool) : ((enterIdle n unlock b s).st n).run.sound := by
  rw [enterIdle_run]; exact sound_emptied_idle _

theorem sound_enterWarming (old : Option Int) (b : Bool) : ((enterWarming n old b s).st n).run.sound := by
  cases hc : s.standing n none (some ((s.st n).limits.keepWarmTemp : Int)) with
  | nil => rw [enterWarming_free hc]; simp [warmedState, clearedRun, RunContext.sound]
  | cons c further => rw [enterWarming_standing hc]; exact sound_enterFault ..

theorem sound_endRecipe (r : StepRecord) (old : Option Int) (b : Bool) : ((endRecipe n r old b s).st n).run.sound := by
  cases hk : r.keepWarm with
  | false => rw [endRecipe_idle _ hk]; exact sound_enterIdle ..
  | true => rw [endRecipe_warming _ hk]; exact sound_enterWarming ..

theorem sound_enterStep (i : Nat) (old : Option Int) (b : Bool)
    (hw : (s.st n).run.warmingElapsed = 0 ∧ (s.st n).run.warmingLimit = none) :
    ((enterStep n i old b s).st n).run.sound := by
  cases hc : s.standing n (some ((s.st n).slot i)) (some (((s.st n).slot i).heat : Int)) with
  | cons c further => rw [enterStep_standing hc]; exact sound_enterFault ..
  | nil =>
    rw [enterStep_run rfl rfl hc]
    have hin : (enteredRun i ((s.st n).slot i) (s.st n).run).inStep := by simp [RunContext.inStep, enteredRun, hw]
    cases hp : entryPhase ((s.st n).slot i) (s.lidLocked n) with
    | locking => exact sound_locking hin (by split <;> decide)
    | basing => exact sound_runsIn hin (.inl ⟨rfl, by simp [State.entryDeadline, RunContext.runsIn]⟩)
    | active => exact sound_runsIn hin (.inr ⟨rfl, rfl⟩)

theorem sound_finishStep (o : StepOutcome) (b : Bool)
    (hw : (s.st n).run.warmingElapsed = 0 ∧ (s.st n).run.warmingLimit = none) : ((finishStep n o b s).st n).run.sound := by
  rw [finishStep_eq]
  split
  · exact sound_enterStep _ _ _ (by rw [stepEnded_run]; exact hw)
  · exact sound_endRecipe ..

theorem sound_enterActive (rule : Adoption) (b : Bool) (h : (s.st n).run.inStep) :
    ((enterActive n rule b s).st n).run.sound := by
  rw [enterActive_run]; exact sound_runsIn h (.inr ⟨rfl, rfl⟩)

theorem sound_enterBasing (rule : Adoption) (b : Bool) (h : (s.st n).run.inStep) :
    ((enterBasing n rule b s).st n).run.sound := by
  rw [enterBasing_run]; exact sound_runsIn h (.inl ⟨rfl, by simp⟩)

theorem sound_leaveLocking (rule : Adoption) (b : Bool) (h : (s.st n).run.inStep) :
    ((leaveLocking n rule b s).st n).run.sound := by
  unfold leaveLocking; split
  · exact sound_enterBasing _ _ h
  · exact sound_enterActive _ _ h

theorem sound_actOnLid (h : (s.st n).run.sound) (hp : (s.st n).run.phase = some .locking)
    (hi : (s.st n).run.inStep) : ((actOnLid n s).st n).run.sound := by
  cases hl : s.lidLocked n with
  | true => rw [actOnLid_of_locked hl]; exact sound_leaveLocking _ _ hi
  | false => rw [actOnLid_run_of_unlocked hl]; exact h.deadline hp _

theorem sound_enterLocking {after : Phase} (rule : Adoption) (b : Bool) (h : (s.st n).run.inStep) (ha : after ≠ .locking) :
    ((enterLocking n after rule b s).st n).run.sound := by
  unfold enterLocking
  refine sound_actOnLid ?_ (by simp) ?_ <;> rw [stateChanged_run, modRun_st_run]
  · exact sound_locking h ha
  · exact h

theorem sound_leaveBasing (h : (s.st n).run.inStep) : ((leaveBasing n s).st n).run.sound := by
  unfold leaveBasing; split
  · exact sound_enterLocking _ _ h (by decide)
  · exact sound_enterActive _ _ h

theorem sound_pauseStation (why : PauseReason) (h : (s.st n).run.sound) (hr : (s.st n).run.state = .running) :
    ((pauseStation n why s).st n).run.sound := by
  obtain ⟨h1, h2, h3, h4, h5, h6, h7, h8, h9, h10, h11⟩ := h
  rw [pauseStation_run]
  simp_all [RunContext.sound]

theorem sound_furtherFault (h : (s.st n).run.sound) : ((furtherFault n s).st n).run.sound := by
  unfold furtherFault
  rw [setNotice_run, modRun_st_run]
  exact h

theorem sound_raiseCause (c : FaultCause) (b : Bool) (h : (s.st n).run.sound) : ((raiseCause n c b s).st n).run.sound := by
  unfold raiseCause; (repeat' split)
  · exact h
  · exact sound_furtherFault h
  · exact sound_enterFault ..

theorem sound_raiseSilence (c : FaultCause) (b : Bool) (h : (s.st n).run.sound) :
    ((raiseSilence n c b s).st n).run.sound := by
  unfold raiseSilence; (repeat' split)
  · exact sound_furtherFault h
  · exact sound_enterFault ..
  · exact h

/-! ### Requests (section 2.6) -/

theorem sound_resumeLocking (h : (s.st n).run.sound) (hp : (s.st n).run.state = .paused)
    (hs : (s.st n).run.savedPhase = some .locking) : ((resumeLocking n s).st n).run.sound := by
  have hi := h.inStep (.inr hp)
  unfold resumeLocking
  refine sound_actOnLid ?_ (by simp) ?_ <;> rw [stateChanged_run, modRun_st_run]
  · obtain ⟨h1, h2, h3, h4, h5, h6, h7, h8, h9, h10, h11⟩ := h
    simp_all [RunContext.sound]
  · exact hi

theorem sound_resumeStation (h : (s.st n).run.sound) (hp : (s.st n).run.state = .paused) :
    ((resumeStation n s).st n).run.sound := by
  have hi := h.inStep (.inr hp)
  unfold resumeStation resumePhase
  split
  · exact sound_enterFault ..
  · dsimp only
    split
    · next hs =>
      split
      · exact sound_resumeLocking h hp hs
      · exact sound_leaveLocking _ _ hi
    · split
      · exact sound_enterLocking _ _ hi (by decide)
      · exact sound_enterBasing _ _ hi
    · split
      · exact sound_enterLocking _ _ hi (by decide)
      · exact sound_enterActive _ _ hi

theorem sound_adjustRun {r : RunContext} (a : Adjustment) (rec1 : StepRecord) (overtemp : Nat) (h : r.sound)
    (hs : r.state = .running ∨ r.state = .paused) : (adjustRun a rec1 overtemp r).sound := by
  obtain ⟨h1, h2, h3, h4, h5, h6, h7, h8, h9, h10, h11⟩ := h
  obtain ⟨hstep, heff, hrev⟩ := h2 hs
  have hlimit : (adjustRun a rec1 overtemp r).effLimit ≠ none := by
    unfold adjustRun; dsimp only; split
    · exact heff
    · simp
  exact ⟨fun hr hp => absurd hs (by simp [adjustRun] at hr hp; simp [hr, hp]), fun _ => ⟨hstep, hlimit, hrev⟩,
    h3, h4, h5, h6, h7, h8, h9, h10, h11⟩

theorem sound_adjustStation (a : Adjustment) (h : (s.st n).run.sound)
    (hs : (s.st n).run.state = .running ∨ (s.st n).run.state = .paused) : ((adjustStation n a s).st n).run.sound := by
  have hadj := sound_adjustRun a (s.curStep n) (s.st n).limits.overtemp h hs
  unfold adjustStation adjustHeat
  dsimp only
  (repeat' split) <;> first | exact sound_enterFault .. | simpa using hadj

/-! ### Events -/

theorem sound_weighStep (h : (s.st n).run.sound) : ((weighStep n s).st n).run.sound := by
  unfold weighStep
  dsimp only
  split
  · next hr _ =>
    split
    · split
      · exact sound_finishStep _ _ (h.notWarming (by simp [hr]))
      · exact h
    · exact h
  · next hr _ =>
    split
    · refine sound_leaveBasing ?_
      rw [modRun_st_run]
      exact h.inStep (.inl hr)
    · exact h
  · exact h

theorem sound_mapBase {r : RunContext} (f : Int → Int) (h : r.sound) :
    ({ r with doseBase := r.doseBase.map f } : RunContext).sound := by
  obtain ⟨h1, hrest⟩ := h
  refine ⟨fun hr hp => ?_, hrest⟩
  have h := h1 hr hp
  simp_all

theorem sound_advanceOp (x : WeighSample) (h : (s.st n).run.sound) : ((advanceOp n x s).st n).run.sound := by
  unfold advanceOp
  dsimp only
  split
  · exact h
  · split
    · have := sound_mapBase (fun b => clampInt (-(s.st n).weighCfg.cap) (s.st n).weighCfg.cap
        (b - (clampInt (-(s.st n).weighCfg.cap) (s.st n).weighCfg.cap (s.st n).weigh.filtered - (s.st n).weigh.tare))) h
      simpa [endOp, changeTare] using this
    · exact h
  · split <;> simpa [completeZero, endOp] using h
  · split
    · unfold completeCalibrate
      dsimp only
      split <;> simpa [endOp] using h
    · simpa using h

theorem sound_takeWeighSample (x : WeighSample) (h : (s.st n).run.sound) : ((takeWeighSample n x s).st n).run.sound := by
  have accept : ∀ v : State, (v.st n).run.sound → ((acceptSample n x v).st n).run.sound := fun v hv =>
    sound_advanceOp x (sound_weighStep (by simpa using hv))
  unfold takeWeighSample
  (repeat' split)
  · exact accept _ h
  · simpa using h
  · exact accept _ h
  · exact accept _ (by simpa using h)

theorem sound_takeThermoSample (t : Int) (fault : Bool) (h : (s.st n).run.sound) :
    ((takeThermoSample n t fault s).st n).run.sound := by
  have hfaults : ((thermoFaults n t fault (s.st n).heat (s.modHeat n (storeThermo t fault))).st n).run.sound := by
    have h1 : ((s.modHeat n (storeThermo t fault)).st n).run.sound := by simpa using h
    unfold thermoFaults
    dsimp only
    split
    · exact sound_raiseCause _ _ h1
    · split
      · exact sound_raiseCause _ _ h1
      · exact h1
  have htemp : ∀ v : State, (v.st n).run.sound → ((tempStep n t v).st n).run.sound := by
    intro v hv
    unfold tempStep
    dsimp only
    split
    · next hc => exact sound_finishStep _ _ (hv.notWarming (by simp [hc.1]))
    · exact hv
  unfold takeThermoSample
  dsimp only
  split
  · exact hfaults
  · simpa using htemp (recomputeEnvelope n (thermoFaults n t fault (s.st n).heat (s.modHeat n (storeThermo t fault))))
      (by simpa using hfaults)

theorem sound_takeHeatState (r : HeatReport) (h : (s.st n).run.sound) : ((takeHeatState n r s).st n).run.sound := by
  unfold takeHeatState
  dsimp only
  split
  · exact sound_raiseCause _ _ (by simpa using h)
  · simpa using h

theorem sound_takeDriveState (r : DriveReport) (h : (s.st n).run.sound) : ((takeDriveState n r s).st n).run.sound := by
  unfold takeDriveState
  dsimp only
  rw [testUnlock_run, setDraw_run]
  split
  · exact sound_raiseCause _ _ (by simpa using h)
  · simpa using h

theorem sound_takeLidState (r : LidReport) (h : (s.st n).run.sound) : ((takeLidState n r s).st n).run.sound := by
  have h1 : ((s.modDrive n (fun d => { d with lidReport := some r })).st n).run.sound := by simpa using h
  unfold takeLidState
  dsimp only
  rw [recomputeEnvelope_run]
  split
  · next hc => exact sound_actOnLid h1 hc.2 (h1.inStep (.inl hc.1))
  · split
    · next hc =>
      simp only [State.losesLid, Bool.and_eq_true, beq_iff_eq] at hc
      obtain ⟨⟨⟨hr, -⟩, -⟩, -⟩ := hc
      exact sound_pauseStation _ h1 hr
    · exact h1

theorem sound_lidSilence (h : (s.st n).run.sound) : ((lidSilence n s).st n).run.sound := by
  unfold lidSilence
  dsimp only
  rw [recomputeEnvelope_run]
  split
  · next hc => rw [modRun_st_run]; exact h.deadline hc.2 _
  · split
    · next hc =>
      simp only [State.losesLid, Bool.and_eq_true, beq_iff_eq] at hc
      obtain ⟨⟨hr, -⟩, -⟩ := hc
      exact sound_pauseStation _ h hr
    · exact h

theorem sound_roleSilent (r : Role) (h : (s.st n).run.sound) : ((roleSilent n r s).st n).run.sound := by
  cases r with
  | lid => exact sound_lidSilence h
  | drive => exact sound_raiseSilence _ _ (by split <;> simpa using h)
  | heater => exact sound_raiseSilence _ _ (by simpa using h)
  | weigh => exact sound_raiseSilence _ _ (by split <;> simpa using h)
  | thermo => exact sound_raiseSilence _ _ (by split <;> simpa using h)

theorem sound_isolateStation (h : (s.st n).run.sound) : ((isolateStation n s).st n).run.sound := by
  unfold isolateStation; split
  · simpa using h
  · exact sound_raiseSilence _ _ h

end

/-- The run context of a station after one millisecond. -/
theorem sound_stationMs {st : Station} (h : st.run.sound) : (stationMs st).run.sound := by
  have helapse : (elapseMs st.run).sound := by
    unfold elapseMs
    (repeat' split)
    · exact h
    · next hc _ =>
      obtain ⟨-, hrest⟩ := h
      exact ⟨fun hr _ => absurd hc.1 hr, hrest⟩
    · exact h
  have hwarm : (warmOneMs (elapseMs st.run)).sound := by
    unfold warmOneMs
    split
    · next hc =>
      split
      · exact helapse
      · obtain ⟨h1, h2, h3, hrest⟩ := helapse
        exact ⟨h1, h2, fun hw => absurd hc hw, hrest⟩
    · exact helapse
  show (deadlineMs _).sound
  unfold deadlineMs
  split
  · next hr =>
    obtain ⟨h1, h2, h3, h4, h5, h6, h7, h8, h9, h10, h11⟩ := hwarm
    refine ⟨fun hn => absurd hr hn, h2, h3, h4, h5, h6, h7, h8, h9, fun hb => ?_, fun ha => ?_⟩
    · simpa [countMs] using h10 hb
    · simpa [countMs] using h11 ha
  · exact hwarm

/-! ### The whole step -/

/-- An operation on one station keeps the run contexts when it keeps that station's. -/
theorem runs_at {s t : State} {n : StationId} (ho : t.st (otherStation n) = s.st (otherStation n))
    (h : (s.st n).run.sound → (t.st n).run.sound) (m : StationId) (hm : (s.st m).run.sound) : (t.st m).run.sound := by
  by_cases hn : m = n
  · subst hn; exact h hm
  · obtain rfl := eq_otherStation_of_ne hn
    rwa [ho]

theorem runs_of_eq {a b : Station} (h : b.run = a.run) (ha : a.run.sound) : b.run.sound := h ▸ ha

theorem runs_modSt {s : State} {n : StationId} {f : Station → Station} (hf : (f (s.st n)).run = (s.st n).run) (m : StationId)
    (h : (s.st m).run.sound) : ((s.modSt n f).st m).run.sound :=
  runs_at (n := n) (by simp) (fun hn => by rw [st_modSt, hf]; exact hn) m h

theorem runs_becomeSilent (i : Nat) (e : NodeEntry) (s : State) (m : StationId) (h : (s.st m).run.sound) :
    ((becomeSilent i e s).st m).run.sound := by
  have h1 : ((setNotice .nodeSilent (s.setEntry i (some { e with silent := true }))).st m).run.sound := by simpa using h
  unfold becomeSilent
  dsimp only
  split
  · next n r _ => exact runs_at (n := n) (by simp) (sound_roleSilent r) m h1
  · exact h1

theorem runs_writeEntry (i : Nat) (e : NodeEntry) (s : State) (m : StationId) (h : (s.st m).run.sound) :
    ((writeEntry i e s).st m).run.sound := by
  unfold writeEntry
  dsimp only
  split
  · exact runs_becomeSilent i e _ m (by simpa using h)
  · simpa using h

theorem runs_removeEntry (i : Nat) (s : State) (m : StationId) (h : (s.st m).run.sound) :
    ((removeEntry i s).st m).run.sound := by
  obtain ⟨gone, hg⟩ := removeEntry_st i s m
  obtain ⟨hr, -⟩ := freeLocks_contexts gone (s.st m)
  rw [hg, hr]
  exact h

theorem runs_transmitErrorAt (p : Port) (error : TxError) (s : State) (m : StationId) (h : (s.st m).run.sound) :
    ((transmitErrorAt p error s).st m).run.sound := by
  have isolated : ∀ v : State, (v.st m).run.sound → ((enterIsolated p v).st m).run.sound := by
    intro v hv
    unfold enterIsolated
    dsimp only
    split
    · exact runs_at (n := .one) (by simp) sound_isolateStation m
        (runs_at (n := .zero) (by simp) sound_isolateStation m (by simpa using hv))
    · simpa using hv
  simp only [transmitErrorAt]
  split
  · exact isolated _ (by simpa using h)
  · simpa using h

theorem move_runs {s t : State} (h : Move s t) (m : StationId) (hs : (s.st m).run.sound) : (t.st m).run.sound := by
  cases h with
  | goodFrame p => exact runs_of_eq (goodFrameAt_sameButDrive p s m).1 hs
  | recover p => exact runs_of_eq (recoverPort_sameButDrive p s m).1 hs
  | transmitError p e => exact runs_transmitErrorAt p e s m hs
  | stepTimer n o hp =>
    refine runs_at (n := n) (by simp) (fun hn => sound_finishStep _ _ ?_) m hs
    rw [modRun_st_run]
    simp only [Station.inPhase, Bool.and_eq_true, beq_iff_eq] at hp
    exact hn.notWarming (by simp [hp.1])
  | reversal n at' d hp =>
    refine runs_at (n := n) (by simp) (fun hn => ?_) m hs
    simp only [Station.inPhase, Bool.and_eq_true, beq_iff_eq] at hp
    rw [recomputeDrive_run, modRun_st_run]
    obtain ⟨h1, h2, hrest⟩ := hn
    obtain ⟨hstep, heff, -⟩ := h2 (.inl hp.1)
    exact ⟨fun hr _ => absurd hp.1 hr, fun _ => ⟨hstep, heff, by simp⟩, hrest⟩
  | lockingDeadline n => exact runs_at (n := n) (by simp) (fun _ => sound_enterFault ..) m hs
  | basingDeadline n hp =>
    refine runs_at (n := n) (by simp) (fun hn => sound_leaveBasing ?_) m hs
    simp only [Station.inPhase, Bool.and_eq_true, beq_iff_eq] at hp
    rw [modRun_st_run]
    exact hn.inStep (.inl hp.1)
  | warmingLimit n => exact runs_at (n := n) (by simp) (fun _ => sound_enterIdle ..) m hs
  | weighSample n x => exact runs_at (n := n) (by simp) (sound_takeWeighSample x) m hs
  | thermoSample n x fault => exact runs_at (n := n) (by simp) (sound_takeThermoSample x fault) m hs
  | driveState n r => exact runs_at (n := n) (by simp) (sound_takeDriveState r) m hs
  | heatState n r => exact runs_at (n := n) (by simp) (sound_takeHeatState r) m hs
  | lidState n r => exact runs_at (n := n) (by simp) (sound_takeLidState r) m hs
  | becomeSilent i e => exact runs_becomeSilent i e s m hs
  | hearNode i e =>
    unfold Machine.hearNode
    dsimp only
    (repeat' split) <;> simpa using hs
  | passMs => cases m <;> exact sound_stationMs hs
  | removeLearned i e he => exact runs_removeEntry i s m hs
  | pending | requests | emptyAccumulator => cases m <;> exact hs
  | learn | moveLearned => simpa using hs
  | reportTimer n => exact runs_modSt rfl m hs
  | _ => simpa using hs

theorem startRefusal_idle {s : State} {q : NodeId} {n : StationId} {first : Nat} (h : s.startRefusal q n first = none) :
    (s.st n).run.state = .idle := by
  by_contra hi
  rw [startRefusal_not_idle hi] at h
  cases h

theorem effect_runs {s u : State} (h : Effect s u) (m : StationId) (hs : (s.st m).run.sound) : (u.st m).run.sound := by
  cases h with
  | start n q first hr =>
    refine runs_at (n := n) (by simp) (fun hn => sound_enterStep _ _ _ ?_) m hs
    simpa using hn.notWarming (by simp [startRefusal_idle hr])
  | pause n hr => exact runs_at (n := n) (by simp) (fun hn => sound_pauseStation _ hn hr) m hs
  | resume n hr => exact runs_at (n := n) (by simp) (fun hn => sound_resumeStation hn hr) m hs
  | stopStep n => exact runs_at (n := n) (by simp) (fun _ => sound_enterIdle ..) m hs
  | stopWarming n => exact runs_at (n := n) (by simp) (fun _ => sound_enterIdle ..) m hs
  | clearFault n => exact runs_at (n := n) (by simp) (fun _ => sound_enterIdle ..) m hs
  | finish n o hr => exact runs_at (n := n) (by simp) (fun hn => sound_finishStep _ _ (hn.notWarming (by simp [hr]))) m hs
  | adjust n a hr => exact runs_at (n := n) (by simp) (fun hn => sound_adjustStation a hn hr) m hs
  | lock | unlock | recipeLength | recipeClear | heatItem | zeroStation | reportInterval | storeStep =>
    exact runs_modSt rfl m hs
  | limit n id v =>
    unfold applyLimit
    dsimp only
    have hl : ((s.modSt n (fun st => { st with limits := setLimit st.limits id v })).st m).run.sound := runs_modSt rfl m hs
    (repeat' split)
    · simpa using hl
    · simpa using hl
    · exact hl
  | weighItem n id v =>
    have hw : ((s.modSt n (fun st => { st with weighCfg := setWeighItem st.weighCfg id v })).st m).run.sound :=
      runs_modSt rfl m hs
    unfold applyWeighItem
    dsimp only
    (repeat' split)
    · simpa using hw
    · simpa using hw
    · exact hw
  | portItem p id v =>
    unfold applyPortItem
    dsimp only
    split
    · rw [removeWhere_st]
      exact runs_of_eq (freeLocks_contexts _ _).1 (by cases m <;> exact hs)
    · (repeat' split)
      · simpa using hs
      · have h := (recoverIfMet_sameButDrive p (s.modPort p (fun q => { q with cfg := setPortItem q.cfg id v })) m).1
        exact runs_of_eq h (by simpa using hs)
      · simpa using hs
  | bind n d h w t l =>
    have hf : ∀ old new : Binding, ((forgetRoles n old new s).st m).run.sound := fun old new => by simpa using hs
    unfold bindStation
    dsimp only
    rw [followBinding_run]
    exact runs_modSt rfl m (hf _ _)
  | restartPort p => exact runs_of_eq (restartPort_sameButDrive p s m).1 hs
  | nodeWrite k p limit =>
    obtain h | ⟨i, e, -, -, -, h⟩ | ⟨i, -, -, h⟩ := nodeWrite_cases k p limit s
    · rw [h]; exact hs
    all_goals rw [h]; exact runs_writeEntry _ _ s m hs
  | removeNode k i => exact runs_removeEntry i s m hs
  | flushNodes =>
    rw [removeWhere_st]
    exact runs_of_eq (freeLocks_contexts _ _).1 hs
  | snapshot | clearNotices | route | routeDefault => cases m <;> exact hs
  | _ => simpa using hs

/-- A station after reset is IDLE (R193, R194). -/
theorem runs_reset {s t : State} (h : Reset s t) (m : StationId) : (t.st m).run.sound := by
  have idle : ({} : RunContext).sound := by simp [RunContext.sound]
  cases h with
  | powerOn own l =>
    have hp : (({ State.powerOn own with pending := l } : State).st m).run = {} := by cases m <;> rfl
    rw [hp]; exact idle
  | asserted => cases m <;> exact idle
  | kept =>
    rw [setNotice_run]
    cases m <;> exact idle

/-- Settles O56: each operation on a station leaves a run context of one of a few forms, and each form is sound. -/
theorem stepKeepsRuns : Obligations.StepKeepsRuns :=
  step_keeps (fun _ _ hs h m => move_runs h m (hs m)) (fun _ _ hs h m => effect_runs h m (hs m))
    (fun _ _ _ _ _ _ _ hu m => by rw [leaveQueue_st, sendReply_st]; exact hu m) (fun _ _ _ h m => runs_reset h m)

end Sys2Proof.Machine

/-! PROOFS. The run-time requests (section 2.6) and the deadlines of a run (sections 2.2 to 2.5). -/

namespace Sys2Proof.Machine

open Sys2Proof

/-! ### STOP (R45) -/

theorem stopRule_step {n : StationId} {s : State} (h : (s.st n).run.state = .running ∨ (s.st n).run.state = .paused) :
    stopRule n s = (enterIdle n true false (endStep n .stopped s), done []) := by
  obtain h | h := h <;> simp [stopRule, h]

/-- The drive context of an IDLE station whose manual demands are dropped (R45, R122). -/
theorem stopIdle_drive (n : StationId) (s : State) :
    ((askUnlock n (dropManualHeat n (dropManualSpeed n s))).st n).drive.manualSpeed = 0 ∧
    ((askUnlock n (dropManualHeat n (dropManualSpeed n s))).st n).drive.speedHold = none ∧
    ((askUnlock n (dropManualHeat n (dropManualSpeed n s))).st n).drive.manualHeat = 0 ∧
    ((askUnlock n (dropManualHeat n (dropManualSpeed n s))).st n).drive.heatHold = none ∧
    ((askUnlock n (dropManualHeat n (dropManualSpeed n s))).st n).drive.manualLid = (s.st n).drive.manualLid := by
  have hheat : ((dropManualHeat n (dropManualSpeed n s)).st n).drive =
      { ((dropManualSpeed n s).st n).drive with manualHeat := 0, heatHold := none } := by simp [dropManualHeat]
  obtain ⟨-, -, -, -, -, -, h1, -, h2, h3, h4, h5, -⟩ := (askUnlock_sameSpeed n (dropManualHeat n (dropManualSpeed n s))).fields
  obtain ⟨-, -, -, -, -, -, g1, -, g2, -, -, g5, -⟩ := (recomputeDrive_sameSpeed n (s.modDrive n (fun d =>
    { d with manualSpeed := 0, speedHold := none }))).fields
  rw [hheat] at h1 h2 h3 h4 h5
  rw [modDrive_st_drive] at g1 g2 g5
  exact ⟨h1.trans g1, h2.trans g2, h3, h4, h5.trans g5⟩

/-- Settles O11: each state but FAULT is one equation of `stopRule`, and each asks for the unlock last. -/
theorem stopEndsTheRun : Obligations.StopEndsTheRun := by
  intro s q tag b h
  refine ⟨answers_badStation h rfl rfl, fun n hn => ?_⟩
  have answer {t a} : stopRule n s = (t, a) → Answers (.stop q tag [b]) s a t := answers_of_station h rfl rfl hn
  refine ⟨fun hf => answer (by simp [stopRule, hf, State.wrongState, stateCode]), fun hf => ?_⟩
  have step (hs : (s.st n).run.state = .running ∨ (s.st n).run.state = .paused) :
      ((enterIdle n true false (endStep n .stopped s)).st n).run = { (s.st n).run.emptied .idle with
        lastReport := some ((s.st n).endReport .stopped (s.st n).run.elapsed) } := by
    rw [enterIdle_run, endStep_run, captureReport_whole _ (by decide)]
    rfl
  cases hs : (s.st n).run.state with
  | fault => exact absurd hs hf
  | running =>
    exact ⟨_, answer (stopRule_step (.inl hs)), unlockAsked_enterIdle .., by simp [OnlyRuns],
      fun _ => ⟨step (.inl hs), by simp⟩, (by simp), (by simp)⟩
  | paused =>
    exact ⟨_, answer (stopRule_step (.inr hs)), unlockAsked_enterIdle .., by simp [OnlyRuns],
      fun _ => ⟨step (.inr hs), by simp⟩, (by simp), (by simp)⟩
  | warming =>
    exact ⟨enterIdle n true false s, answer (by simp [stopRule, hs]), unlockAsked_enterIdle .., by simp [OnlyRuns],
      (by simp), fun _ => ⟨by simp, by simp⟩, (by simp)⟩
  | idle =>
    obtain ⟨h1, h2, h3, h4, h5⟩ := stopIdle_drive n s
    exact ⟨askUnlock n (dropManualHeat n (dropManualSpeed n s)), answer (by simp [stopRule, hs]), unlockAsked_askUnlock ..,
      by simp [OnlyRuns], (by simp), (by simp), fun _ => ⟨by simp, h1, h2, h3, h4, h5, by simp⟩⟩

/-! ### SKIP and CONFIRM (R46, R47) -/

/-- CONFIRM for a station that exists (R47). -/
def confirmStation (expected : Nat) (n : StationId) (s : State) : State × Answer :=
  match s.confirmRefusal n expected with
  | some a => (s, a)
  | none => (finishStep n .confirm false s, done [])

theorem confirmRule_eq (b e : Byte) (s : State) : confirmRule [b, e] s = withStation b (confirmStation e.toNat) s := rfl

/-- Settles O12: the refusals are the equations of the two rules, and both requests end the step they are accepted for. -/
theorem skipAndConfirmEndSteps : Obligations.SkipAndConfirmEndSteps := by
  intro s q tag b e
  refine ⟨fun h => ⟨answers_badStation h rfl rfl, fun n hn => ?_⟩, fun h => ⟨answers_badStation h rfl (confirmRule_eq b e s), fun n hn => ?_⟩⟩
  · have answer {t a} : skipRule n s = (t, a) → Answers (.skip q tag [b]) s a t := answers_of_station h rfl rfl hn
    exact ⟨fun hr => answer (if_neg hr), fun hr => ⟨_, answer (if_pos hr), endsStep_finishStep (captureReport_cut _ (.inl rfl))⟩⟩
  · have refused {a} (ha : s.confirmRefusal n e.toNat = some a) : Answers (.confirm q tag [b, e]) s a s :=
      answers_of_station h rfl (confirmRule_eq b e s) hn (by simp only [confirmStation, ha])
    have accepted (ha : s.confirmRefusal n e.toNat = none) :
        Answers (.confirm q tag [b, e]) s (done []) (finishStep n .confirm false s) :=
      answers_of_station h rfl (confirmRule_eq b e s) hn (by simp only [confirmStation, ha])
    have hbyte : e.toNat ≠ 255 ↔ e ≠ 255 := by
      rw [not_iff_not]; exact ⟨fun h => BitVec.eq_of_toNat_eq h, fun h => by rw [h]; rfl⟩
    have hstep : some e.toNat ≠ (s.st n).run.step ↔ (s.st n).run.step ≠ some e.toNat := ne_comm
    refine ⟨fun hr => refused (by simp [State.confirmRefusal, State.wrongState, hr]),
      fun hr hp => refused (by simp [State.confirmRefusal, hr, hp]),
      fun hr hp => refused (by simp [State.confirmRefusal, hr, hp]), fun hr hp => ⟨fun hc => refused ?_, fun hc =>
        ⟨fun he hi => refused ?_, fun he => ⟨_, accepted ?_, endsStep_finishStep (captureReport_whole _ (by decide))⟩⟩⟩⟩
    · simp [State.confirmRefusal, hr, hp, hc]
    · simp [State.confirmRefusal, hr, hp, hc, hbyte.mpr he, hstep.mpr hi]
    · have : ¬(e.toNat ≠ 255 ∧ some e.toNat ≠ (s.st n).run.step) := by rw [hbyte, hstep]; tauto
      simp only [State.confirmRefusal, hr, hp, hc, if_neg this]
      simp

/-! ### Deadlines (R28, R29, R39) -/

theorem whenLive_live {s : State} (h : s.inReset = false) (event : State → State) : whenLive event s = event s := by
  simp [whenLive, h]

theorem inPhase_iff (st : Station) (p : Phase) : st.inPhase p = true ↔ st.run.state = .running ∧ st.run.phase = some p := by
  simp [Station.inPhase]

/-- The end of BASING after the dose base is taken (R29). -/
theorem leaveBasing_spec {s v : State} {n : StationId} (hv : v.outline = s.outline)
    (hlid : (v.st n).drive.lidReport = (s.st n).drive.lidReport) (hstep : v.curStep n = s.curStep n) :
    ((s.curStep n).lock = true → s.lidLocked n = false →
      leaveBasing n v = enterLocking n .active .skip false v ∧ v.lidLocked n = false) ∧
    ((s.curStep n).lock = false ∨ s.lidLocked n = true → leaveBasing n v = enterActive n .skip false v) := by
  have hl : v.lidLocked n = s.lidLocked n := lidLocked_of hv hlid
  rw [← hl, ← hstep]
  exact ⟨fun h1 h2 => ⟨leaveBasing_locking h1 h2, h2⟩, leaveBasing_active⟩

/-- Settles O15: a LOCKING deadline is a fault entry, the end of BASING goes on by its lid, and the warming limit is an entry
into IDLE that asks for the unlock. -/
theorem deadlinesEndPhases : Obligations.DeadlinesEndPhases := by
  refine ⟨fun s n hl => ⟨fun hr hp hd => ⟨_, ?_, faultsFrom_enterFault n .lidLock 0 s⟩, fun hn => ?_⟩,
    fun s n hl => ⟨fun hr hp hd => ?basing, fun limit hr hw => ⟨fun h0 => ⟨enterIdle n true false s, ?_, enterIdle_run ..,
      enterIdle_notices .., unlockAsked_enterIdle .., onlyRuns_enterIdle ..⟩, fun h0 => ?_⟩⟩⟩
  · show Host.Outcome.next _ = _
    rw [whenLive_live hl, if_pos]
    simp [inPhase_iff, hr, hp, Option.isSome_iff_ne_none, hd]
  · show Host.Outcome.next _ = _
    rw [whenLive_live hl, if_neg]
    simp only [Bool.and_eq_true, inPhase_iff, Option.isSome_iff_ne_none]
    tauto
  case basing =>
    refine ⟨leaveBasing n (s.modRun n (fun r => { r with
      doseBase := some (s.st n).weigh.net, deadline := none, flags := { r.flags with baseUnsettled := true } })), ?_, ?_⟩
    · show Host.Outcome.next _ = _
      rw [whenLive_live hl, if_pos]
      simp [inPhase_iff, hr, hp, Option.isSome_iff_ne_none, hd]
    · obtain ⟨hlock, hactive⟩ := leaveBasing_spec (s := s) (n := n) (v := s.modRun n (fun r => { r with
        doseBase := some (s.st n).weigh.net, deadline := none, flags := { r.flags with baseUnsettled := true } }))
        (by simp) (by simp) (curStep_of (by simp) (by simp))
      by_cases hc : (s.curStep n).lock = true ∧ s.lidLocked n = false
      · obtain ⟨heq, hv⟩ := hlock hc.1 hc.2
        rw [heq, enterLocking_run hv]
        refine ⟨by simp [RunContext.runsIn], by simp [RunContext.runsIn], by simp [RunContext.runsIn],
          by simp [RunContext.runsIn], by simp [RunContext.runsIn], by simp [RunContext.runsIn],
          fun _ _ => by simp [RunContext.runsIn], fun h => ?_, by simp [OnlyRuns]⟩
        obtain h | h := h <;> simp [hc] at h
      · have ha : (s.curStep n).lock = false ∨ s.lidLocked n = true := by
          revert hc; cases (s.curStep n).lock <;> cases s.lidLocked n <;> simp
        rw [hactive ha, enterActive_run]
        refine ⟨by simp [RunContext.runsIn], by simp [RunContext.runsIn], by simp [RunContext.runsIn],
          by simp [RunContext.runsIn], by simp [RunContext.runsIn], by simp [RunContext.runsIn],
          fun h1 h2 => absurd ⟨h1, h2⟩ hc, fun _ => ⟨rfl, rfl, fun hk => ?_, fun hk => ?_⟩, by simp [OnlyRuns]⟩
        · rw [enterActive_confirm (by rwa [curStep_of (s := s) (by simp) (by simp)])]; simp
        · rw [enterActive_silently (by rwa [curStep_of (s := s) (by simp) (by simp)])]; simp
  · show Host.Outcome.next _ = _
    rw [whenLive_live hl, if_pos (by simp [hr, hw, h0])]
  · show Host.Outcome.next _ = _
    rw [whenLive_live hl, if_neg (by simp [hw, h0])]

/-! ### The step timer (R31, R32, R119) -/

/-- The elapsed time is no part of what a step's end is judged by, once it is reported. -/
theorem endsStep_modElapsed {s u : State} {n : StationId} {o : StepOutcome} {e : Nat} {f : RunContext → RunContext}
    (hf : ∀ r, ∃ a b, f r = { r with elapsed := a, tenthMs := b }) (h : EndsStep (s.modRun n f) u n o e) :
    EndsStep s u n o e := by
  obtain ⟨a, b, hr⟩ := hf (s.st n).run
  have hfr : s.modRun n f = s.modRun n (fun r => { r with elapsed := a, tenthMs := b }) := by
    cases n <;> simp only [State.modRun, State.modSt] <;> simp only [State.st] at hr <;> rw [hr]
  rw [hfr] at h
  cases n <;> exact h

/-- Where a reversal leaves the commanded and requested direction (R119). -/
theorem recomputeDrive_dir {s : State} {n : StationId} {d : Direction} (h : (s.requestOf n).2 = d) :
    ((recomputeDrive n s).st n).drive.commandedDir = d ∧ ((recomputeDrive n s).st n).drive.requestedDir = d := by
  obtain ⟨-, h2, -, h4, -⟩ := (recomputeDrive_sameSpeed n s).fields
  exact ⟨h4.trans h, h2.trans h⟩

/-- An ALT step turns as its reversal says (R25). -/
theorem requestOf_alt {s : State} {n : StationId} {d : Direction} (hr : (s.st n).run.state = .running)
    (hp : (s.st n).run.phase = some .active) (hm : (s.curStep n).mode = .alt) (hd : (s.st n).run.reversal = some d) :
    (s.requestOf n).2 = d := by
  simp [State.requestOf, hr, hp, hm, hd, stepDirection]

/-- Settles O16: the timer's end is a step end at the effective limit, and a reversal is a recomputed speed after the flip. -/
theorem stepTimerEndsAndReverses : Obligations.StepTimerEndsAndReverses := by
  intro s n limit hl hr hp he
  refine ⟨fun hlim => ⟨_, ?timer, endsStep_modElapsed (f := fun r => { r with
      elapsed := r.effLimit.getD r.elapsed, tenthMs := 0 }) (fun r => ⟨_, _, rfl⟩) (endsStep_finishStep ?_)⟩,
    fun hlim => ?_, fun k d hm hrev hd hk => ?reversal⟩
  case timer =>
    show Host.Outcome.next _ = _
    rw [whenLive_live hl, if_pos (by simp [inPhase_iff, hr, hp, hlim])]
  · rw [captureReport_whole]
    · simp [he]
    · split <;> decide
  · show Host.Outcome.next _ = _
    rw [whenLive_live hl, if_neg (by simp [hlim])]
  case reversal =>
    have reversed (at' : Nat) (hat : at' = reversalTime ((s.curStep n).reversal * 10) (s.st n).run.elapsed d) (hle : at' ≤ limit) :
        ∃ u, exec (.reversal n) s = .next u ∧
          (u.st n).run = { (s.st n).run with
            elapsed := at', reversal := some (flipDirection d)
            tenthMs := if at' = (s.st n).run.elapsed then (s.st n).run.tenthMs else 0 } ∧
          (u.st n).drive.commandedDir = flipDirection d ∧ (u.st n).drive.requestedDir = flipDirection d ∧
          (u.st n).heat = (s.st n).heat ∧ u.notices = s.notices ∧ OnlyRuns s u n := by
      obtain ⟨h1, h2⟩ := recomputeDrive_dir (n := n) (s := s.modRun n (fun r => { r with
        elapsed := at', reversal := some (flipDirection d), tenthMs := if at' = r.elapsed then r.tenthMs else 0 }))
        (requestOf_alt (d := flipDirection d) (by simpa using hr) (by simpa using hp)
          (by rwa [curStep_of (s := s) (by simp) (by simp)]) (by simp))
      refine ⟨_, ?_, by rw [recomputeDrive_run, modRun_st_run], h1, h2, by simp, by simp, by simp [OnlyRuns]⟩
      show Host.Outcome.next _ = _
      rw [whenLive_live hl]
      have hunit : 0 < (s.curStep n).reversal * 10 := by omega
      simp [inPhase_iff, hr, hp, hm, hd, he, hunit, ← hat, hle]
    refine ⟨fun hpar hle => ?_, fun hpar hle => ?_⟩
    · have hat : (k + 1) * ((s.curStep n).reversal * 10) =
          reversalTime ((s.curStep n).reversal * 10) (s.st n).run.elapsed d := by
        unfold reversalTime; rw [← hk, if_pos hpar]
      have hlt : (s.st n).run.elapsed < (k + 1) * ((s.curStep n).reversal * 10) := by
        rw [hk, Nat.mul_comm]
        exact Nat.lt_mul_div_succ _ (by omega)
      have h := reversed _ hat hle
      rwa [if_neg (by omega)] at h
    · have h := reversed (s.st n).run.elapsed (by unfold reversalTime; rw [← hk, if_neg hpar]) hle
      rwa [if_pos rfl] at h

end Sys2Proof.Machine

/-! PROOFS. PAUSE, RESUME and ADJUST (section 2.6). -/

namespace Sys2Proof.Machine

open Sys2Proof

/-! ### RESUME (R44) -/

/-- A PAUSED station with no LID node in a step that needs a locked lid. It was paused in LOCKING with 1 ms to go, and its last lid
report shows the lid closed and locked. -/
def unboundResume : State :=
  tHead (.resume 20 7 [0]) ((tPaused { tWait with lock := true } .locking (some .active)).modSt .zero (fun st => { st with
    binding := { st.binding with lid := none }
    run := { st.run with deadline := some 1 }
    drive := { st.drive with lidReport := some ⟨true, true⟩ } }))

/-- The LOCKING that the RESUME enters starts a new deadline, since no lid is closed and unlocked (R44). -/
theorem unboundResume_deadline : ((tAfter (.resume 20 7 [0]) unboundResume).st .zero).run.deadline = some 3000 := by
  decide +kernel

/-- Refutes O10: the statement has a frozen LOCKING deadline resume over every lid that is reported closed. The model resumes it
only over one reported closed and not locked, and a report of a locked lid from a station without a LID node is neither that nor a
lid that R27 takes for locked: a deadline with 1 ms to go starts again at 3000 ms. -/
theorem not_pauseAndResume : ¬ Obligations.PauseAndResume := by
  rintro ⟨-, hresume⟩
  have hhead : AtHead (.resume 20 7 [0]) unboundResume := by decide +kernel
  obtain ⟨-, hstation⟩ := hresume unboundResume 20 7 0 hhead
  obtain ⟨-, hpaused⟩ := hstation .zero rfl
  obtain ⟨u, hu, -, -, hfree⟩ := hpaused (by decide +kernel)
  obtain ⟨-, -, -, -, -, -, -, -, -, -, hneed, -⟩ := hfree (by decide +kernel)
  obtain ⟨-, -, -, -, -, hfrozen⟩ := hneed (by decide +kernel) (by decide +kernel)
  obtain ⟨hkept, -⟩ := hfrozen 1 (by decide +kernel) (by decide +kernel)
  have hone : (u.st .zero).run.deadline = some 1 := hkept ⟨true, true⟩ (by decide +kernel) (by decide +kernel) rfl
  have hrun : ((tAfter (.resume 20 7 [0]) unboundResume).st .zero).run = (u.st .zero).run := by
    unfold Answers at hu
    unfold tAfter
    rw [hu]
    dsimp only
    rw [leaveQueue_st, sendReply_st]
  rw [← hrun, unboundResume_deadline] at hone
  exact absurd hone (by decide)

/-! ### ADJUST (R48 to R50) -/

/-- The run context an accepted ADJUST leaves, field by field (R48 to R50). -/
theorem adjustRun_eq (p s0 s1 t0 t1 e0 e1 : Byte) (rec1 : StepRecord) (overtemp : Nat) (r : RunContext) :
    adjustRun (readAdjust p s0 s1 t0 t1 e0 e1) rec1 overtemp r = { r with
      speedOverride := if p.getLsbD 0 then some (u16 s0 s1) else r.speedOverride
      tempOverride := if p.getLsbD 1 then some (clampInt 300 (min 2000 (overtemp - 50)) (s16 t0 t1)) else r.tempOverride
      extension := if u16 e0 e1 = 0 ∨ rec1.hasLimit = false then r.extension
        else min (r.extension + u16 e0 e1) (65535 - rec1.duration)
      effLimit := if u16 e0 e1 = 0 then r.effLimit
        else if rec1.hasLimit = false then some 655350
        else some (min 655350 ((rec1.duration + min (r.extension + u16 e0 e1) (65535 - rec1.duration)) * 10))
      flags := { r.flags with adjusted := r.flags.adjusted || p.getLsbD 0 || p.getLsbD 1 || (u16 e0 e1 != 0) } } := by
  have hext : (if (readAdjust p s0 s1 t0 t1 e0 e1).extension = 0 then r.extension
      else extended rec1 r.extension (readAdjust p s0 s1 t0 t1 e0 e1).extension) =
      if u16 e0 e1 = 0 ∨ rec1.hasLimit = false then r.extension
      else min (r.extension + u16 e0 e1) (65535 - rec1.duration) := by
    cases hl : rec1.hasLimit <;> by_cases h0 : u16 e0 e1 = 0 <;> simp [readAdjust, extended, hl, h0]
  have heff : (if (readAdjust p s0 s1 t0 t1 e0 e1).extension = 0 then r.effLimit
      else some (effectiveLimit rec1 (extended rec1 r.extension (readAdjust p s0 s1 t0 t1 e0 e1).extension))) =
      if u16 e0 e1 = 0 then r.effLimit
      else if rec1.hasLimit = false then some 655350
      else some (min 655350 ((rec1.duration + min (r.extension + u16 e0 e1) (65535 - rec1.duration)) * 10)) := by
    cases hl : rec1.hasLimit <;> simp [readAdjust, extended, effectiveLimit, hl, Config.elapsedMax, Nat.add_mul]
  have hflags : (if (readAdjust p s0 s1 t0 t1 e0 e1).speed.isSome || (readAdjust p s0 s1 t0 t1 e0 e1).temp.isSome ||
        (readAdjust p s0 s1 t0 t1 e0 e1).extension != 0 then { r.flags with adjusted := true } else r.flags) =
      { r.flags with adjusted := r.flags.adjusted || p.getLsbD 0 || p.getLsbD 1 || (u16 e0 e1 != 0) } := by
    unfold readAdjust
    cases p.getLsbD 0 <;> cases p.getLsbD 1 <;> cases u16 e0 e1 != 0 <;> simp
  unfold adjustRun
  rw [hflags, hext, heff]
  simp only [readAdjust]
  cases p.getLsbD 0 <;> cases p.getLsbD 1 <;> rfl

theorem adjustRule_wrongState {n : StationId} {a : Adjustment} {s : State} (hr : (s.st n).run.state ≠ .running)
    (hp : (s.st n).run.state ≠ .paused) : adjustRule n a s = (s, s.wrongState n) := if_pos ⟨hr, hp⟩

theorem adjustRule_badSpeed {n : StationId} {a : Adjustment} {s : State}
    (hs : (s.st n).run.state = .running ∨ (s.st n).run.state = .paused) (ha : 12000 < a.speed.getD 0) :
    adjustRule n a s = (s, refuse .badValue 0) := by
  unfold adjustRule
  rw [if_neg (by tauto), if_pos ha]

theorem adjustRule_badExtension {n : StationId} {a : Adjustment} {s : State}
    (hs : (s.st n).run.state = .running ∨ (s.st n).run.state = .paused) (ha : a.speed.getD 0 ≤ 12000)
    (he : 3600 < a.extension) : adjustRule n a s = (s, refuse .badValue 2) := by
  unfold adjustRule
  rw [if_neg (by tauto), if_neg (by omega), if_pos he]

theorem adjustRule_accepted {n : StationId} {a : Adjustment} {s : State}
    (hs : (s.st n).run.state = .running ∨ (s.st n).run.state = .paused) (ha : a.speed.getD 0 ≤ 12000)
    (he : a.extension ≤ 3600) : adjustRule n a s = (adjustStation n a s,
      done (adjustData (adjustRun a (s.curStep n) (s.st n).limits.overtemp (s.st n).run))) := by
  unfold adjustRule
  rw [if_neg (by tauto), if_neg (by omega), if_neg (by omega)]

/-- The state before the heat side of an ADJUST (R48). -/
def adjustedState (n : StationId) (a : Adjustment) (s : State) : State :=
  let s1 := s.modRun n (adjustRun a (s.curStep n) (s.st n).limits.overtemp)
  if a.speed.isSome then recomputeDrive n s1 else s1

theorem adjustStation_eq (n : StationId) (a : Adjustment) (s : State) :
    adjustStation n a s = adjustHeat n (s.heatTarget n) a (adjustedState n a s) := rfl

@[simp] theorem adjustedState_outline (n : StationId) (a : Adjustment) (s : State) :
    (adjustedState n a s).outline = s.outline := by
  simp only [adjustedState]; split <;> simp

@[simp] theorem adjustedState_run (n : StationId) (a : Adjustment) (s : State) : ((adjustedState n a s).st n).run =
    adjustRun a (s.curStep n) (s.st n).limits.overtemp (s.st n).run := by
  simp only [adjustedState]; split <;> simp

@[simp] theorem adjustedState_notices (n : StationId) (a : Adjustment) (s : State) :
    (adjustedState n a s).notices = s.notices := by
  simp only [adjustedState]; split <;> simp

theorem adjustedState_curStep (n : StationId) (a : Adjustment) (s : State) :
    (adjustedState n a s).curStep n = s.curStep n :=
  curStep_of (by rw [adjustedState_run]; rfl) (steps_of (adjustedState_outline ..) n)

/-- A raised heat target meets the standing causes (R49, R52). -/
theorem adjustHeat_fault {n : StationId} {before : Option Int} {a : Adjustment} {v : State} {c : FaultCause}
    {further : List FaultCause} (hr : (v.st n).run.state = .running) (ha : a.temp.isSome = true) (hb : heating before = false)
    (hc : v.standing n (some (v.curStep n)) (v.heatTarget n) = c :: further) :
    adjustHeat n before a v = enterFault n c further.length false v := by
  simp [adjustHeat, hr, ha, hb, hc]

/-- Where no cause meets it, the heat side keeps the run, the notices and the drive context. -/
theorem adjustHeat_free {n : StationId} {before : Option Int} {a : Adjustment} {v : State}
    (h : (v.st n).run.state ≠ .running ∨ a.temp.isSome = false ∨ heating before = true ∨
      v.standing n (some (v.curStep n)) (v.heatTarget n) = []) :
    ((adjustHeat n before a v).st n).run = (v.st n).run ∧ (adjustHeat n before a v).notices = v.notices ∧
      ((adjustHeat n before a v).st n).drive = (v.st n).drive := by
  have hkeep : adjustHeat n before a v = v ∨ adjustHeat n before a v = adoptTarget n .keep false v := by
    unfold adjustHeat
    split
    · next hc =>
      right
      have hnil : (if heating before then [] else v.standing n (some (v.curStep n)) (v.heatTarget n)) = [] := by
        obtain h | h | h | h := h
        · exact absurd hc.1 h
        · rw [hc.2] at h; cases h
        · simp [h]
        · simp [h]
      rw [hnil]
    · exact .inl rfl
  obtain h | h := hkeep <;> rw [h] <;> simp

/-- A speed override is the requested speed of a step in ACTIVE (R48, R116). -/
theorem adjustedState_speed {n : StationId} {a : Adjustment} {s : State} {v : Nat} (hr : (s.st n).run.state = .running)
    (hp : (s.st n).run.phase = some .active) (ha : a.speed = some v) :
    ((adjustedState n a s).st n).drive.requested = v ∧
    ((adjustedState n a s).st n).drive.commanded = min v (s.st n).drive.envelope := by
  have hreq : ((s.modRun n (adjustRun a (s.curStep n) (s.st n).limits.overtemp)).requestOf n).1 = v := by
    simp [State.requestOf, adjustRun, hr, hp, ha]
  obtain ⟨h1, -, h3, -⟩ := (recomputeDrive_sameSpeed n (s.modRun n (adjustRun a (s.curStep n) (s.st n).limits.overtemp))).fields
  simp only [adjustedState, ha, Option.isSome_some, if_true]
  rw [h1, h3]
  simp [composeSpeed, hreq]

/-- Settles O13: the run context of `adjustRun` written out, and the heat side either faults the station or keeps that
context. -/
theorem adjustChangesTheStep : Obligations.AdjustChangesTheStep := by
  intro s q tag b p s0 s1 t0 t1 e0 e1 c r hc h
  subst hc
  refine ⟨answers_badStation (body := fun n s => adjustRule n (readAdjust p s0 s1 t0 t1 e0 e1) s) h rfl rfl, fun n hn => ?_⟩
  have answer {t a} : adjustRule n (readAdjust p s0 s1 t0 t1 e0 e1) s = (t, a) →
      Answers (.adjust q tag [b, p, s0, s1, t0, t1, e0, e1]) s a t :=
    answers_of_station (body := fun n s => adjustRule n (readAdjust p s0 s1 t0 t1 e0 e1) s) h rfl rfl hn
  have hspeed (hv : p.getLsbD 0 = false ∨ u16 s0 s1 ≤ 12000) : (readAdjust p s0 s1 t0 t1 e0 e1).speed.getD 0 ≤ 12000 := by
    obtain hv | hv := hv
    · simp only [readAdjust, hv, Bool.false_eq_true, if_false, Option.getD_none]; omega
    · simp only [readAdjust]; split <;> simp [hv]
  refine ⟨fun hr hp => answer (adjustRule_wrongState hr hp), fun hs =>
    ⟨fun hp hv => answer (adjustRule_badSpeed hs (by simpa only [readAdjust, hp, if_true, Option.getD_some] using hv)),
    fun hv => ⟨fun he => answer (adjustRule_badExtension hs (hspeed hv) he), fun he hr => ?_⟩⟩⟩
  have hadj : r = adjustRun (readAdjust p s0 s1 t0 t1 e0 e1) (s.curStep n) (s.st n).limits.overtemp (s.st n).run :=
    hr.trans (adjustRun_eq ..).symm
  have htemp : (readAdjust p s0 s1 t0 t1 e0 e1).temp.isSome = p.getLsbD 1 := by
    simp only [readAdjust]; cases p.getLsbD 1 <;> rfl
  have htarget (hrun : (s.st n).run.state = .running) (hp : p.getLsbD 1 = true) :
      (adjustedState n (readAdjust p s0 s1 t0 t1 e0 e1) s).heatTarget n = r.tempOverride := by
    have hsome : r.tempOverride = some (clampOverride (s.st n).limits.overtemp (s16 t0 t1)) := by
      rw [hadj]; simp [adjustRun, readAdjust, hp]
    simp only [State.heatTarget, adjustedState_run, ← hadj, hsome]
    simp [hadj, adjustRun, hrun]
  have hstand (hrun : (s.st n).run.state = .running) (hp : p.getLsbD 1 = true) :
      (adjustedState n (readAdjust p s0 s1 t0 t1 e0 e1) s).standing n
        (some ((adjustedState n (readAdjust p s0 s1 t0 t1 e0 e1) s).curStep n))
        ((adjustedState n (readAdjust p s0 s1 t0 t1 e0 e1) s).heatTarget n) =
      s.standing n (some (s.curStep n)) r.tempOverride := by
    rw [htarget hrun hp, adjustedState_curStep, standing_of (adjustedState_outline ..)]
  refine ⟨adjustStation n (readAdjust p s0 s1 t0 t1 e0 e1) s, answer ?_, by simp [OnlyRuns], fun hfree => ?_,
    fun hrun hp hb x further hx => ?_⟩
  · rw [adjustRule_accepted hs (hspeed hv) he, ← hadj]
    rfl
  · obtain ⟨h1, h2, h3⟩ := adjustHeat_free (n := n) (before := s.heatTarget n) (a := readAdjust p s0 s1 t0 t1 e0 e1)
      (v := adjustedState n (readAdjust p s0 s1 t0 t1 e0 e1) s) (by
        obtain hfree | hfree | hfree | hfree := hfree
        · left; rw [adjustedState_run]; simp [adjustRun, hfree]
        · right; left; rw [htemp, hfree]
        · exact .inr (.inr (.inl hfree))
        · by_cases hrun : (s.st n).run.state = .running
          · cases hp : p.getLsbD 1 with
            | false => right; left; rw [htemp, hp]
            | true => exact .inr (.inr (.inr (by rw [hstand hrun hp, hfree])))
          · left; rw [adjustedState_run]; simpa [adjustRun] using hrun)
    rw [adjustStation_eq, h1, h2, h3, adjustedState_run, adjustedState_notices, ← hadj]
    exact ⟨rfl, rfl, fun hrun hp hspd => adjustedState_speed hrun hp (by simp [readAdjust, hspd])⟩
  · rw [adjustStation_eq, adjustHeat_fault (c := x) (further := further) (by rw [adjustedState_run]; exact hrun)
      (by rw [htemp, hp]) hb (by rw [hstand hrun hp, hx]), enterFault_run]
    exact ⟨rfl, rfl, rfl⟩

end Sys2Proof.Machine

/-! PROOFS. Weighing (chapter 3): the operations TARE, ZERO and CALIBRATE, and the intake of a sample. -/

namespace Sys2Proof.Machine

open Sys2Proof

/-! ### Operations (R74 to R84) -/

/-- Successive changes of one station are one. -/
theorem modSt_modSt (s : State) (n : StationId) (f g : Station → Station) :
    (s.modSt n f).modSt n g = s.modSt n (fun st => g (f st)) := by
  cases n <;> rfl

/-- A change of a station counts by what it makes of that station. -/
theorem modSt_eq_of {s : State} {n : StationId} {f g : Station → Station} (h : f (s.st n) = g (s.st n)) :
    s.modSt n f = s.modSt n g := by
  cases n <;> simp only [State.modSt] <;> simp only [State.st] at h <;> rw [h]

/-- What becomes of the last outcomes when the running operation ends (R74). -/
theorem clearOp_recordOutcome (o : OpOutcome) (w : WeighContext) :
    clearOp (recordOutcome o w) = { w.withOp .none none none with
      lastTare := if w.op = .taring then some o else w.lastTare
      lastZero := if w.op = .zeroing then some o else w.lastZero
      lastCal := if w.op = .calibrating then some o else w.lastCal } := by
  cases h : w.op <;> simp [clearOp, recordOutcome, WeighContext.withOp, h]

theorem operationMoves_endOp {s : State} {n : StationId} {o : OpOutcome} (h : (s.st n).weigh.op ≠ .none) :
    OperationMoves s (endOp n o s) n .none none none o := by
  refine ⟨?_, ?_, by simp, by simp, by simp, by simp, by simp, by simp, by simp⟩
  · rw [endOp_weigh_same, clearOp_recordOutcome]
  · simp [endOp, h]

/-- An operation starts, after the one in progress has ended with outcome `o` (R74 to R83). -/
theorem operationMoves_start {s : State} {n : StationId} {op : WeighOp} {ms : Nat} {mass : Option Int} {o : OpOutcome} :
    OperationMoves s ((if (s.st n).weigh.op = .none then s else endOp n o s).modWeigh n (startOp op ms mass)) n op
      (some ms) mass o := by
  split
  · next h =>
    refine ⟨?_, ?_, by simp, by simp, by simp, by simp, by simp, by simp, by simp⟩
    · simp [startOp, clearOp, WeighContext.withOp, h]
    · simp [h]
  · next h =>
    refine ⟨?_, ?_, by simp, by simp, by simp, by simp, by simp, by simp, by simp⟩
    · rw [modWeigh_st_weigh, endOp_weigh_same, clearOp_recordOutcome]
      simp [startOp, clearOp, WeighContext.withOp]
    · simp [endOp, h]

theorem weighRefusal_unbound {s : State} {n : StationId} (h : (s.st n).binding.weigh = none) :
    s.weighRefusal n = some (refuse .noBinding 2) := by
  simp [State.weighRefusal, h]

theorem weighRefusal_silent {s : State} {n : StationId} (h : (s.st n).binding.weigh ≠ none) (hs : s.silent n .weigh = true) :
    s.weighRefusal n = some (refuse .wrongState 19) := by
  simp [State.weighRefusal, h, hs]

theorem weighRefusal_none {s : State} {n : StationId} (h : (s.st n).binding.weigh ≠ none) (hs : s.silent n .weigh = false) :
    s.weighRefusal n = none := by
  simp [State.weighRefusal, h, hs]

theorem tareRule_accepted {s : State} {n : StationId} (h : s.weighRefusal n = none)
    (ho : (s.st n).weigh.op = .none ∨ (s.st n).weigh.op = .taring) :
    tareRule n s = ((if (s.st n).weigh.op = .none then s else endOp n .superseded s).modWeigh n
      (startOp .taring Config.tareMs none), done []) := by
  obtain ho | ho := ho <;> simp [tareRule, h, ho]

/-- Settles O17: the checks of `tareRule` in their order, and an operation that moves. -/
theorem tareStartsAndExpires : Obligations.TareStartsAndExpires := by
  intro s q tag b n
  refine ⟨fun h => ⟨answers_badStation h rfl rfl, fun hn => ?_⟩, fun hl => ⟨fun ho => ⟨_, ?_,
    operationMoves_endOp (by simp [ho])⟩, fun ho => ?_⟩⟩
  · have answer {t a} : tareRule n s = (t, a) → Answers (.tare q tag [b]) s a t := answers_of_station h rfl rfl hn
    refine ⟨fun hb => answer (by simp [tareRule, weighRefusal_unbound hb]),
      fun hb hs => answer (by simp [tareRule, weighRefusal_silent hb hs]), fun hb hs => ⟨fun ho => answer ?_,
      fun ho => answer ?_, fun ho => ⟨_, answer (tareRule_accepted (weighRefusal_none hb hs) ho), operationMoves_start⟩⟩⟩
    · simp [tareRule, weighRefusal_none hb hs, ho]
    · simp [tareRule, weighRefusal_none hb hs, ho]
  · show Host.Outcome.next _ = _
    rw [whenLive_live hl, if_pos ho]
  · show Host.Outcome.next _ = _
    rw [whenLive_live hl, if_neg ho]

/-- The checks that ZERO and CALIBRATE share (R79, R81). -/
theorem captureRefusal_cases {s : State} {n : StationId} :
    ((s.st n).run.state ≠ .idle → s.captureRefusal n = some (s.wrongState n)) ∧
    ((s.st n).run.state = .idle →
      ((s.st n).binding.weigh = none → s.captureRefusal n = some (refuse .noBinding 2)) ∧
      ((s.st n).binding.weigh ≠ none → s.silent n .weigh = true → s.captureRefusal n = some (refuse .wrongState 19)) ∧
      ((s.st n).binding.weigh ≠ none → s.silent n .weigh = false →
        ((s.st n).weigh.op = .taring → s.captureRefusal n = some (refuse .busy 7)) ∧
        ((s.st n).weigh.op ≠ .taring → s.captureRefusal n = none))) := by
  unfold State.captureRefusal
  refine ⟨fun hi => if_pos hi, fun hi => ⟨fun hb => ?_, fun hb hs => ?_, fun hb hs => ⟨fun ho => ?_, fun ho => ?_⟩⟩⟩
  · simp [hi, weighRefusal_unbound hb]
  · simp [hi, weighRefusal_silent hb hs]
  · simp [hi, weighRefusal_none hb hs, ho]
  · simp [hi, weighRefusal_none hb hs, ho]

/-- The rule of ZERO and of CALIBRATE behind the shared checks (R79, R81). -/
def captureRule (op : WeighOp) (mass : Option Nat) (n : StationId) (s : State) : State × Answer :=
  match s.captureRefusal n with
  | some a => (s, a)
  | none =>
    match mass with
    | none => (startCapture n op none s, done [])
    | some m =>
      if m < 100 ∨ (s.st n).weighCfg.cap < (m : Int) then (s, refuse .badValue 0)
      else (startCapture n op (some (m : Int)) s, done [])

theorem zeroRule_eq (n : StationId) (s : State) : zeroRule n s = captureRule .zeroing none n s := rfl

theorem calibrateRule_eq (n : StationId) (m : Nat) (s : State) :
    calibrateRule n m s = captureRule .calibrating (some m) n s := rfl

/-- What a capture request answers at its turn, whichever of the two it is. -/
theorem captureRule_spec {s : State} {c : Instr} {b : Byte} {op : WeighOp} {mass : Option Nat} {n : StationId}
    (hnone : stationOf b = none → Answers c s (refuse .badValue 255) s)
    (answer : stationOf b = some n → ∀ t a, captureRule op mass n s = (t, a) → Answers c s a t) :
    (stationOf b = none → Answers c s (refuse .badValue 255) s) ∧
    (stationOf b = some n →
      ((s.st n).run.state ≠ .idle → Answers c s (refuse .wrongState (stateCode (s.st n).run.state)) s) ∧
      ((s.st n).run.state = .idle →
        ((s.st n).binding.weigh = none → Answers c s (refuse .noBinding 2) s) ∧
        ((s.st n).binding.weigh ≠ none → s.silent n .weigh = true → Answers c s (refuse .wrongState 19) s) ∧
        ((s.st n).binding.weigh ≠ none → s.silent n .weigh = false →
          ((s.st n).weigh.op = .taring → Answers c s (refuse .busy 7) s) ∧
          ((s.st n).weigh.op ≠ .taring →
            (∀ m : Int, mass.map Int.ofNat = some m → m < 100 ∨ (s.st n).weighCfg.cap < m →
              Answers c s (refuse .badValue 0) s) ∧
            ((∀ m : Int, mass.map Int.ofNat = some m → 100 ≤ m ∧ m ≤ (s.st n).weighCfg.cap) →
              ∃ u, Answers c s (done []) u ∧ OperationMoves s u n op (some 10000) (mass.map Int.ofNat) .interrupted))))) := by
  obtain ⟨hstate, hidle⟩ := captureRefusal_cases (s := s) (n := n)
  refine ⟨hnone, fun hn => ?_⟩
  have refused {a} (ha : s.captureRefusal n = some a) : Answers c s a s := answer hn _ _ (by simp [captureRule, ha])
  refine ⟨fun hi => refused (hstate hi), fun hi => ?_⟩
  obtain ⟨hunbound, hsilent, hready⟩ := hidle hi
  refine ⟨fun hb => refused (hunbound hb), fun hb hs => refused (hsilent hb hs), fun hb hs => ?_⟩
  obtain ⟨htaring, hfree⟩ := hready hb hs
  refine ⟨fun ho => refused (htaring ho), fun ho => ⟨fun m hm hbad => answer hn _ _ ?_, fun hm => ?_⟩⟩
  · cases mass with
    | none => cases hm
    | some k =>
      cases hm
      have : k < 100 ∨ (s.st n).weighCfg.cap < (k : Int) := by simpa using hbad
      simp [captureRule, hfree ho, this]
  · refine ⟨_, answer hn _ _ ?_, operationMoves_start⟩
    cases mass with
    | none => simp [captureRule, hfree ho, startCapture, Config.captureMs]
    | some k =>
      have hk := hm k rfl
      have : ¬(k < 100 ∨ (s.st n).weighCfg.cap < (k : Int)) := by omega
      simp [captureRule, hfree ho, this, startCapture, Config.captureMs]

/-- Settles O18: ZERO and CALIBRATE are one rule behind the same checks. -/
theorem capturesStartAndExpire : Obligations.CapturesStartAndExpire := by
  intro s q tag b m0 m1 m2 n c op mass
  refine ⟨?_, fun hl => ⟨fun ho => ⟨_, ?_, operationMoves_endOp (by obtain ho | ho := ho <;> simp [ho])⟩, fun ho => ?_⟩⟩
  · rintro (⟨rfl, rfl, rfl⟩ | ⟨rfl, rfl, rfl⟩) h
    · exact captureRule_spec (mass := none) (answers_badStation h rfl rfl) fun hn t a => answers_of_station h rfl rfl hn
    · exact captureRule_spec (mass := some (u24 m0 m1 m2))
        (answers_badStation (body := fun n => calibrateRule n (u24 m0 m1 m2)) h rfl rfl)
        fun hn t a => answers_of_station (body := fun n => calibrateRule n (u24 m0 m1 m2)) h rfl rfl hn
  · show Host.Outcome.next _ = _
    rw [whenLive_live hl, if_pos ho]
  · show Host.Outcome.next _ = _
    rw [whenLive_live hl, if_neg (by obtain ho | ho := ho <;> simp [ho])]

/-! ### An operation advances (R77, R80, R82) -/

/-- An operation's completion writes the weigh configuration and context of its station, and sets WEIGH_OP_n. -/
theorem endOp_modSt (n : StationId) (o : OpOutcome) (s : State) (f : Station → Station) :
    endOp n o (s.modSt n f) = setNotice (.weighOp n) (s.modSt n (fun st =>
      { f st with weigh := clearOp (recordOutcome o (f st).weigh) })) := by
  unfold endOp State.modWeigh
  rw [modSt_modSt]

theorem advanceOp_taring {s : State} {n : StationId} {x : WeighSample} (ho : (s.st n).weigh.op = .taring)
    (hs : (s.st n).weigh.settled = true) : advanceOp n x s = endOp n .done (changeTare n
      (clampInt (-(s.st n).weighCfg.cap) (s.st n).weighCfg.cap (s.st n).weigh.filtered) s) := by
  simp [advanceOp, ho, hs]

theorem advanceOp_calibrated {s : State} {n : StationId} {x : WeighSample} (ho : (s.st n).weigh.op = .calibrating)
    (hk : (s.st n).weigh.accCount = 15) : advanceOp n x s = completeCalibrate n (s.modWeigh n (fun w =>
      { w with sumS := w.sumS + cellSum (s.st n).weighCfg x, accCount := w.accCount + 1 })) := by
  have hdone : Config.captureSamples ≤ (s.st n).weigh.accCount + 1 := by simp [Config.captureSamples, hk]
  simp only [advanceOp, ho, if_pos hdone]

theorem completeCalibrate_failed {s : State} {n : StationId}
    (h : calibratedGain ((s.st n).weigh.refMass.getD 0) (s.st n).weigh.sumS = none) :
    completeCalibrate n s = endOp n .failedRange s := by
  simp [completeCalibrate, h]

theorem completeCalibrate_done {s : State} {n : StationId} {m g : Int} (hm : (s.st n).weigh.refMass = some m)
    (h : calibratedGain m (s.st n).weigh.sumS = some g) :
    completeCalibrate n s = endOp n .done (s.modSt n (fun st => { st with
      weighCfg := { st.weighCfg with gain := g }
      weigh := { flushRing (s.st n).weigh with
        filtered := m, net := netOf st.weighCfg.cap m (s.st n).weigh.tare } })) := by
  simp [completeCalibrate, hm, h]

/-- Settles O20: each operation's next update is one equation of `advanceOp`, on whole states. -/
theorem operationsAdvance : Obligations.OperationsAdvance := by
  intro s n x w c hw hc
  subst hw hc
  refine ⟨fun ho => by simp [advanceOp, ho], fun ho hs => by simp [advanceOp, ho, hs], fun ho hs t ht => ?tare,
    fun ho hk => ?gather, fun ho hk => ?zero, fun sum mass ho hm hsum => ⟨fun hk => ?sum, fun hk hbad => ?failed,
    fun hk hpos hne hle => ?gain⟩⟩
  case tare =>
    rw [advanceOp_taring ho hs, ← ht]
    unfold endOp changeTare State.modWeigh State.modRun
    simp only [modSt_modSt]
    refine congrArg _ (modSt_eq_of ?_)
    simp [clearOp_recordOutcome, WeighContext.withOp, ho, netOf]
  case gather =>
    have hmore : ¬ Config.captureSamples ≤ (s.st n).weigh.accCount + 1 := by simp only [Config.captureSamples]; omega
    simp only [advanceOp, ho, if_neg hmore]
    exact modSt_eq_of (by simp [ho])
  case zero =>
    have hdone : Config.captureSamples ≤ (s.st n).weigh.accCount + 1 := by simp [Config.captureSamples, hk]
    simp only [advanceOp, ho, if_pos hdone, completeZero, endOp_modSt]
    unfold State.modWeigh
    rw [modSt_modSt]
    refine congrArg _ (modSt_eq_of ?_)
    simp [clearOp_recordOutcome, WeighContext.withOp, flushRing, ho]
  case sum =>
    have hmore : ¬ Config.captureSamples ≤ (s.st n).weigh.accCount + 1 := by simp only [Config.captureSamples]; omega
    simp only [advanceOp, ho, if_neg hmore]
    exact modSt_eq_of (by simp [ho, hsum, cellSum])
  case failed =>
    have hnone : calibratedGain mass sum = none := by
      simp only [calibratedGain]
      by_cases h0 : roundDiv sum 16 ≤ 0
      · rw [if_pos h0]
      · rw [if_neg h0]
        exact if_pos (hbad.resolve_left h0)
    rw [advanceOp_calibrated ho hk, completeCalibrate_failed (by simpa [cellSum, ← hsum, hm] using hnone)]
    unfold State.modWeigh
    rw [endOp_modSt]
    refine congrArg _ (modSt_eq_of ?_)
    simp [clearOp_recordOutcome, WeighContext.withOp, ho]
  case gain =>
    have hsome : calibratedGain mass sum = some (roundDiv (mass * 65536) (roundDiv sum 16)) := by
      simp only [calibratedGain]
      rw [if_neg (by omega)]
      exact if_neg fun h => h.elim hne (not_lt.mpr hle)
    rw [advanceOp_calibrated ho hk,
      completeCalibrate_done (m := mass) (g := roundDiv (mass * 65536) (roundDiv sum 16)) (by simpa using hm)
        (by simpa [cellSum, ← hsum] using hsome)]
    unfold State.modWeigh
    rw [modSt_modSt, endOp_modSt]
    refine congrArg _ (modSt_eq_of ?_)
    simp [clearOp_recordOutcome, WeighContext.withOp, ho, flushRing, netOf]

/-! ### The intake of a sample (R29, R33, R60 to R68) -/

/-- The ring of R64 in one expression. -/
theorem pushRing_eq (ring : List Int) (w : Int) : pushRing ring w = (ring ++ [w]).drop (ring.length + 1 - 32) := by
  have hpush : pushRing ring w = if ring.length < 32 then ring ++ [w] else ring.drop (ring.length + 1 - 32) ++ [w] := rfl
  rw [hpush]
  split
  · next h => rw [show ring.length + 1 - 32 = 0 by omega, List.drop_zero]
  · next h => rw [List.drop_append_of_le_length (by omega)]

/-- The filter update in the terms of R61 to R68. -/
theorem filterUpdate_eq (st : Station) (x : WeighSample) :
    filterUpdate st.weighCfg st.window x { st.weigh with lastSeq := some x.seq, stale := false } = st.afterUpdate x := by
  simp only [filterUpdate, Station.afterUpdate, pushRing_eq, grossOf, cellSum, filteredOf, recent, settledOf, within, netOf,
    Station.window, Config.grossMax, Config.settleSpan]

/-- The state in which an accepted sample finds its station, with the gap counted (R60). -/
def gapCounted (n : StationId) (x : WeighSample) (s : State) : State :=
  if (s.st n).weigh.lastSeq = none ∨ (s.st n).weigh.lastSeq = some (x.seq - 1) then s else countStation n .gaps s

/-- An accepted sample is taken whole (R60, R61). -/
theorem takeWeighSample_accepted {s : State} {n : StationId} {x : WeighSample} (h : (s.st n).weigh.lastSeq ≠ some x.seq) :
    takeWeighSample n x s =
      advanceOp n x (weighStep n ((gapCounted n x s).modWeigh n (fun _ => (s.st n).afterUpdate x))) := by
  have accept (v : State) (hc : (v.st n).weighCfg = (s.st n).weighCfg) (hw : (v.st n).weigh = (s.st n).weigh)
      (hd : (v.st n).drive = (s.st n).drive) :
      acceptSample n x v = advanceOp n x (weighStep n (v.modWeigh n (fun _ => (s.st n).afterUpdate x))) := by
    have hst : (v.st n).afterUpdate x = (s.st n).afterUpdate x := by unfold Station.afterUpdate; rw [hc, hw, hd]
    unfold acceptSample
    dsimp only
    rw [← hst, ← filterUpdate_eq]
    exact congrArg (fun t => advanceOp n x (weighStep n t)) (modSt_eq_of rfl)
  unfold takeWeighSample gapCounted
  cases hq : (s.st n).weigh.lastSeq with
  | none => simp only [true_or, if_true]; exact accept s rfl rfl rfl
  | some q =>
    have hseq : x.seq ≠ q := fun h' => h (by rw [hq, h'])
    have hprev : some q = some (x.seq - 1) ↔ x.seq = q + 1 := by
      simp only [Option.some.injEq]
      exact ⟨fun h => by rw [h]; simp, fun h => by rw [h]; simp⟩
    simp only [if_neg hseq, reduceCtorEq, false_or, hprev]
    split
    · exact accept s rfl rfl rfl
    · exact accept _ (by simp) (by simp) (by simp)

/-- Settles O19: the filter update is `afterUpdate`, and part 7 follows the run's state and phase. -/
theorem sampleUpdatesTheFilter : Obligations.SampleUpdatesTheFilter := by
  intro s n x
  refine ⟨fun h => by simp [takeWeighSample, h], fun v h hv => ?_⟩
  have htake : takeWeighSample n x s = advanceOp n x (weighStep n v) := by rw [takeWeighSample_accepted h, hv]; rfl
  have hrun : (v.st n).run = (s.st n).run := by rw [hv]; split <;> simp
  have hcfg : (v.st n).weighCfg = (s.st n).weighCfg := by rw [hv]; split <;> simp
  have hweigh : (v.st n).weigh = (s.st n).afterUpdate x := by rw [hv]; simp
  have hout : v.outline = s.outline := by rw [hv]; split <;> simp
  have hlid : (v.st n).drive.lidReport = (s.st n).drive.lidReport := by rw [hv]; split <;> simp
  have hcur : v.curStep n = s.curStep n := curStep_of (by rw [hrun]) (steps_of hout n)
  rw [htake]
  refine ⟨fun hs => ?_, fun hr hp => ⟨fun base hb he hw => ⟨finishStep n .weight false v, ?_, ?_⟩, fun hno => ?_⟩,
    fun hr hp => ⟨fun hset => ?_, fun hset => ?base⟩⟩
  · obtain hs | hs := hs
    · cases hstate : (s.st n).run.state <;> first | exact absurd hstate hs | simp [weighStep, hrun, hstate]
    · cases hstate : (s.st n).run.state <;> simp [weighStep, hrun, hs, hstate]
  · simp only [weighStep, hrun, hr, hp, Station.added, hb, Option.map_some, hweigh, hcur, he, hcfg, Bool.true_and]
    rw [if_pos (by simpa using hw)]
  · rw [← hrun]
    exact endsStep_finishStep (captureReport_whole _ (by decide))
  · obtain he | hb | ⟨base, hb, hlow⟩ := hno
    · simp only [weighStep, hrun, hr, hp, Station.added, hcur, he, Bool.false_and, Bool.false_eq_true, if_false]
      split <;> rfl
    · simp [weighStep, hrun, hr, hp, Station.added, hb]
    · simp only [weighStep, hrun, hr, hp, Station.added, hb, Option.map_some, hweigh, hcur, hcfg]
      rw [if_neg (by simp only [Bool.and_eq_true, decide_eq_true_eq, not_and]; intro; omega)]
  · simp [weighStep, hrun, hr, hp, hweigh, hset]
  case base =>
    have hstep : weighStep n v = leaveBasing n (v.modRun n (fun r => { r with
        doseBase := some ((s.st n).afterUpdate x).net, deadline := none })) := by
      simp only [weighStep, hrun, hr, hp, hweigh, hset, if_true]
    obtain ⟨hlock, hactive⟩ := leaveBasing_spec (s := s) (n := n) (v := v.modRun n (fun r => { r with
      doseBase := some ((s.st n).afterUpdate x).net, deadline := none })) (by simp [hout]) (by simp [hlid])
      ((curStep_of (by simp) (by simp)).trans hcur)
    refine ⟨weighStep n v, rfl, by rw [hstep]; simp [OnlyRuns], ?_⟩
    rw [hstep]
    by_cases hc : (s.curStep n).lock = true ∧ s.lidLocked n = false
    · obtain ⟨heq, hl⟩ := hlock hc.1 hc.2
      rw [heq, enterLocking_run hl]
      refine ⟨by simp [RunContext.runsIn], by simp [RunContext.runsIn], by simp [RunContext.runsIn, hrun],
        fun _ _ => by simp [RunContext.runsIn], fun h => ?_⟩
      obtain h | h := h <;> simp [hc] at h
    · have ha : (s.curStep n).lock = false ∨ s.lidLocked n = true := by
        revert hc; cases (s.curStep n).lock <;> cases s.lidLocked n <;> simp
      rw [hactive ha, enterActive_run]
      exact ⟨by simp [RunContext.runsIn], by simp [RunContext.runsIn], by simp [RunContext.runsIn, hrun],
        fun h1 h2 => absurd ⟨h1, h2⟩ hc, fun _ => ⟨rfl, rfl⟩⟩

end Sys2Proof.Machine

/-! PROOFS. Temperature samples (chapter 4): the demand a good sample forms, and the faults and step ends a sample brings. -/

namespace Sys2Proof.Machine

open Sys2Proof

/-! ### What the envelope reads (R115) -/

/-- The envelope reads the bowl temperature alone of the heat context. -/
theorem envelopeOf_bowl {s t : State} {n : StationId} (h : t.outline = s.outline)
    (hb : (t.st n).heat.bowl = (s.st n).heat.bowl) (hlid : (t.st n).drive.lidReport = (s.st n).drive.lidReport) :
    t.envelopeOf n = s.envelopeOf n := by
  have hhot : (t.st n).hot = (s.st n).hot := by simp only [Station.hot, hb, limits_of h]
  simp only [State.envelopeOf, lidLocked_of h hlid, hhot, limits_of h]

/-! ### The demand of a good sample (R90, R95 to R99) -/

theorem curStep_of_run {s t : State} {n : StationId} (h : t.outline = s.outline) (hr : (t.st n).run = (s.st n).run) :
    t.curStep n = s.curStep n :=
  curStep_of (by rw [hr]) (steps_of h n)

theorem heatTarget_of_run {s t : State} {n : StationId} (h : t.outline = s.outline) (hr : (t.st n).run = (s.st n).run) :
    t.heatTarget n = s.heatTarget n :=
  heatTarget_of hr (steps_of h n) (limits_of h n)

@[simp] theorem retestReached_heat (n : StationId) (s : State) : ((retestReached n s).st n).heat = { (s.st n).heat with
    reached := reachTest (s.heatTarget n) (s.st n).heat.bowl (s.st n).heatCfg.reachBand } := by
  simp [retestReached]

/-- A sample below OVERTEMP that ends no step goes straight to its demand (R90). -/
theorem takeThermoSample_good {s : State} {n : StationId} {t : Int} (hlow : t < (s.st n).limits.overtemp)
    (hend : ¬ ((s.st n).run.state = .running ∧ (s.st n).run.phase = some .active ∧ (s.curStep n).endTemp = true ∧
      (s.heatTarget n).getD 0 - (s.st n).heatCfg.reachBand ≤ t)) :
    takeThermoSample n t false s = thermoDemand n t (s.side n).grant (s.st n).heat.demand
      (retestReached n (recomputeEnvelope n (s.modHeat n (storeThermo t false)))) := by
  have hfault : thermoFaults n t false (s.st n).heat (s.modHeat n (storeThermo t false)) =
      s.modHeat n (storeThermo t false) := by
    simp [thermoFaults, not_le.mpr hlow]
  have htemp : tempStep n t (recomputeEnvelope n (s.modHeat n (storeThermo t false))) =
      recomputeEnvelope n (s.modHeat n (storeThermo t false)) := by
    have hv : (recomputeEnvelope n (s.modHeat n (storeThermo t false))).outline = s.outline := by simp
    simp only [tempStep]
    rw [curStep_of_run hv (by simp), heatTarget_of_run hv (by simp)]
    exact if_neg (by simpa using hend)
  simp only [takeThermoSample, hfault, htemp, Bool.false_eq_true, if_false]

/-- The integral a PI computation leaves, as R95 and R96 say it. -/
theorem advanceIntegral_eq (pmax ki : Nat) (e : Int) (grant demand i : Nat) :
    advanceIntegral pmax ki e grant demand i = (nextIntegral pmax ki e grant demand i).toNat := by
  unfold advanceIntegral nextIntegral clampDemand integralStep truncDiv
  by_cases h : 0 < e ∧ grant < demand
  · rw [if_pos (by simpa [skipAdvance] using h), if_pos h]
  · rw [if_neg (by simpa [skipAdvance] using h), if_neg h]

theorem nextIntegral_nonneg (pmax ki : Nat) (e : Int) (grant demand i : Nat) :
    0 ≤ nextIntegral pmax ki e grant demand i := by
  unfold nextIntegral clampInt
  split <;> omega

/-- Settles O21: the sample is stored, the speed recomputed, REACHED re-tested, and the demand formed from the target. -/
theorem goodSampleFormsTheDemand : Obligations.GoodSampleFormsTheDemand := by
  intro s n t hlow hend
  have hgood := takeThermoSample_good hlow hend
  generalize hv : retestReached n (recomputeEnvelope n (s.modHeat n (storeThermo t false))) = v at hgood
  have hout : v.outline = s.outline := by rw [← hv]; simp
  have hrun : (v.st n).run = (s.st n).run := by rw [← hv]; simp
  have htarget : v.heatTarget n = s.heatTarget n := heatTarget_of_run hout hrun
  have hheat : (v.st n).heat = { (s.st n).heat with
      bowl := some t, sensorFault := some false, samples := satInc Config.counterMax (s.st n).heat.samples
      reached := reachTest (s.heatTarget n) (some t) (s.st n).heatCfg.reachBand } := by
    have hbefore : (recomputeEnvelope n (s.modHeat n (storeThermo t false))).heatTarget n = s.heatTarget n :=
      heatTarget_of_run (by simp) (by simp)
    rw [← hv]
    simp [storeThermo, hbefore]
  have hdrive : (v.st n).drive = ((recomputeEnvelope n (s.modHeat n (storeThermo t false))).st n).drive := by
    rw [← hv]; simp
  rw [hgood]
  refine ⟨fun ht hte hpos hsil i hi => ?_, fun ht hte hle => ?_, fun hidle hb hsil => ?_, by simp [hrun], ?_, ?_⟩
  · have hreach : reachTest (some ht) (some t) (s.st n).heatCfg.reachBand =
        decide (ht - (s.st n).heatCfg.reachBand ≤ t) := by simp [reachTest, hpos]
    have hint : (nextIntegral (s.st n).limits.pmax (s.st n).heatCfg.ki (ht - t) (s.side n).grant (s.st n).heat.demand
        (s.st n).heat.integral).toNat = i := by rw [hi]; exact Int.toNat_of_nonneg (nextIntegral_nonneg ..)
    simp only [thermoDemand, htarget, hte, if_neg (not_le.mpr hpos), silent_of hout, hsil, Bool.false_eq_true, if_false,
      setDemand_heat, modHeat_st_heat, hheat, limits_of hout, heatCfg_of hout, advanceIntegral_eq, hint, hreach]
    rw [hi]
    rfl
  · have hreach : reachTest (some ht) (some t) (s.st n).heatCfg.reachBand = false := by simp [reachTest, hle]
    simp [thermoDemand, htarget, hte, hle, hheat, hreach]
  · have hte : s.heatTarget n = none := by simp [State.heatTarget, hidle]
    have hidl : v.idleDemand n = (s.st n).drive.manualHeat := by
      obtain ⟨-, -, -, -, -, -, -, -, -, hm, -⟩ := (recomputeDrive_sameSpeed n ((s.modHeat n (storeThermo t false)).modDrive n
        (fun d => { d with envelope := (s.modHeat n (storeThermo t false)).envelopeOf n }))).fields
      have hmanual : (v.st n).drive.manualHeat = (s.st n).drive.manualHeat := by
        rw [hdrive]; exact hm.trans (by simp [composeSpeed])
      have hbound : (s.st n).binding.thermo.isNone = false := by
        cases h : (s.st n).binding.thermo with
        | none => exact absurd h hb
        | some _ => rfl
      simp [State.idleDemand, binding_of hout, silent_of hout, hsil, hheat, hmanual, hbound]
    simp [thermoDemand, htarget, hte, hheat, hidl, reachTest]
  · obtain ⟨henv, -, -, hlid⟩ := recomputeEnvelope_agrees (n := n) (s := s.modHeat n (storeThermo t false)) rfl
    rw [thermoDemand_drive, hdrive, henv]
    refine (envelopeOf_bowl (by simp [hout]) ?_ (by rw [thermoDemand_drive, hdrive])).symm
    have hbowl : ((thermoDemand n t (s.side n).grant (s.st n).heat.demand v).st n).heat.bowl = (v.st n).heat.bowl := by
      simp only [thermoDemand]
      (repeat' split) <;> simp
    rw [hbowl, hheat]
    simp [storeThermo]
  · have hother : v.st (otherStation n) = s.st (otherStation n) := by rw [← hv]; simp
    have hweigh : (v.st n).weigh = (s.st n).weigh ∧ (v.st n).weighCfg = (s.st n).weighCfg := by rw [← hv]; simp
    simp [OnlyRuns, hout, hother, hweigh]

/-! ### Faults and step ends of a sample (R34, R91) -/

/-- A cause raised outside FAULT is a fault entry, and in FAULT a further fault unless it was carried (R51, R54). -/
theorem raiseCause_enters {n : StationId} {c : FaultCause} {carried : Bool} {s : State} (h : (s.st n).run.state ≠ .fault) :
    raiseCause n c carried s = enterFault n c 0 false s := by
  simp [raiseCause, h]

theorem raiseCause_carried {n : StationId} {c : FaultCause} {s : State} (h : (s.st n).run.state = .fault) :
    raiseCause n c true s = s := by
  simp [raiseCause, h]

theorem raiseCause_further {n : StationId} {c : FaultCause} {s : State} (h : (s.st n).run.state = .fault) :
    raiseCause n c false s = setNotice (.fault n) (s.modRun n (fun r => { r with
      furtherFaults := satInc 255 r.furtherFaults, more := true })) := by
  simp [raiseCause, h, furtherFault]

/-- The manual demands of a drive context. -/
def DriveContext.sameDemands (d e : DriveContext) : Prop :=
  d.manualSpeed = e.manualSpeed ∧ d.speedHold = e.speedHold ∧ d.manualHeat = e.manualHeat ∧ d.heatHold = e.heatHold ∧
    d.manualLid = e.manualLid

theorem DriveContext.sameSpeed.demands {d e : DriveContext} (h : d.sameSpeed e) : d.sameDemands e := by
  obtain ⟨-, -, -, -, -, -, h1, -, h2, h3, h4, h5, -⟩ := h.fields
  exact ⟨h1, h2, h3, h4, h5⟩

/-- What a fault entry leaves holds through the rest of its event, as long as the run, the manual demands, the unlock, the notice bits
and the rest stay. -/
theorem faultsFrom_of {s u v : State} {n : StationId} {c : FaultCause} {k : Nat} (h : FaultsFrom s v n c k)
    (hrun : (u.st n).run = (v.st n).run) (hdemands : (u.st n).drive.sameDemands (v.st n).drive)
    (hunlock : UnlockAsked v n → UnlockAsked u n) (hrest : AtRest u n)
    (hbits : u.notices.bits = v.notices.bits) (honly : OnlyRuns s u n) : FaultsFrom s u n c k := by
  obtain ⟨h1, h2, h3, h4, h5⟩ := hdemands
  have entered {l : Option StepReport} {bits : BitVec 16} (he : EnteredFault v n c k l bits) : EnteredFault u n c k l bits := by
    obtain ⟨er, -, e4, e5, e6, e7, e8, e9, e10⟩ := he
    exact ⟨hrun.trans er, hrest, h1.trans e4, h2.trans e5, h3.trans e6, h4.trans e7, h5.trans e8, hunlock e9, hbits.trans e10⟩
  obtain ⟨hstep, hno, -⟩ := h
  exact ⟨fun hr => entered (hstep hr), fun hr hp => entered (hno hr hp), honly⟩

/-- A recomputed envelope leaves a station at rest that asks for no speed. -/
theorem recomputeEnvelope_rest {n : StationId} {s : State} (hi : (s.st n).run.state ≠ .idle)
    (ha : (s.st n).run.state = .running → (s.st n).run.phase ≠ some .active) :
    (((recomputeEnvelope n s).st n).drive.requested = 0 ∧ ((recomputeEnvelope n s).st n).drive.commanded = 0 ∧
      ((recomputeEnvelope n s).st n).drive.clamped = false) ∧
    ((recomputeEnvelope n s).st n).drive.sameDemands (s.st n).drive ∧
    (UnlockAsked s n → UnlockAsked (recomputeEnvelope n s) n) := by
  have hreq := requestOf_rest (s := s.modDrive n (fun d => { d with envelope := s.envelopeOf n })) (n := n)
    (by simpa using hi) (by simpa using ha)
  have hsame := recomputeDrive_sameSpeed n (s.modDrive n (fun d => { d with envelope := s.envelopeOf n }))
  obtain ⟨h1, -, h3, -, h5, -⟩ := hsame.fields
  have hdem := hsame.demands
  rw [hreq] at h1 h3 h5 hdem
  rw [modDrive_st_drive] at h3 h5 hdem
  have h3' : ((recomputeEnvelope n s).st n).drive.commanded = 0 := h3.trans (by simp [composeSpeed])
  refine ⟨⟨h1, h3', h5.trans (by simp [composeSpeed])⟩, hdem, fun hu => ?_⟩
  unfold UnlockAsked
  rw [h3']
  unfold recomputeEnvelope
  obtain h | ⟨-, h⟩ := recomputeDrive_drive (n := n)
    (s := s.modDrive n (fun d => { d with envelope := s.envelopeOf n })) rfl <;> rw [h, modDrive_st_drive]
  · obtain hu | ⟨hu, -⟩ := hu
    · exact .inl hu
    · exact .inr ⟨hu, rfl⟩
  · exact .inr ⟨rfl, rfl⟩

/-- A good sample leaves the heat of a station without a target at rest (R97, R98). -/
theorem thermoDemand_rest {n : StationId} {t : Int} {g d : Nat} {v : State} (h : v.heatTarget n = some 0) :
    ((thermoDemand n t g d (retestReached n v)).st n).heat =
      { (v.st n).heat with integral := 0, demand := 0, reached := false } := by
  have hte : (retestReached n v).heatTarget n = some 0 := (heatTarget_of_run (by simp) (by simp)).trans h
  have hreach : reachTest (some 0) (v.st n).heat.bowl (v.st n).heatCfg.reachBand = false := by
    cases (v.st n).heat.bowl <;> simp [reachTest]
  simp [thermoDemand, hte, h, hreach]

theorem heatTarget_fault {n : StationId} {v : State} (h : (v.st n).run.state = .fault) : v.heatTarget n = some 0 := by
  simp [State.heatTarget, h]

theorem tempStep_of_fault {n : StationId} {t : Int} {v : State} (h : (v.st n).run.state = .fault) : tempStep n t v = v := by
  simp [tempStep, h]

/-- The rest of a good sample's event over a station in FAULT. -/
theorem thermo_rest {n : StationId} {t : Int} {g d : Nat} {v u : State} (h : (v.st n).run.state = .fault)
    (hu : u = thermoDemand n t g d (retestReached n (tempStep n t (recomputeEnvelope n v)))) :
    (u.st n).run = (v.st n).run ∧ (u.st n).drive.sameDemands (v.st n).drive ∧ (UnlockAsked v n → UnlockAsked u n) ∧
      AtRest u n ∧ u.notices = v.notices ∧ (u.st n).heat.bowl = (v.st n).heat.bowl ∧
      (u.st n).heat.sensorFault = (v.st n).heat.sensorFault := by
  subst hu
  obtain ⟨⟨h1, h2, h3⟩, hdem, hunlock⟩ := recomputeEnvelope_rest (s := v) (n := n) (by simp [h]) (by simp [h])
  rw [tempStep_of_fault (by simpa using h)]
  have hheat := thermoDemand_rest (n := n) (t := t) (g := g) (d := d) (v := recomputeEnvelope n v)
    (heatTarget_fault (by simpa using h))
  refine ⟨by simp, by simpa using hdem, fun hv => ?_, ?_, by simp, by rw [hheat]; simp, by rw [hheat]; simp⟩
  · have := hunlock hv
    unfold UnlockAsked at this ⊢
    simpa using this
  · unfold AtRest
    rw [hheat]
    simp [h1, h2, h3]

/-- A step end judged from a state that differs in nothing a step's end reads. -/
theorem endsStep_from {s s' u : State} {n : StationId} {o : StepOutcome} {e : Nat} (hout : s'.outline = s.outline)
    (hrun : (s'.st n).run = (s.st n).run) (hweigh : (s'.st n).weigh = (s.st n).weigh)
    (hcfg : (s'.st n).weighCfg = (s.st n).weighCfg) (hheat : (s'.st n).heat = (s.st n).heat)
    (hlid : (s'.st n).drive.lidReport = (s.st n).drive.lidReport) (hbits : s'.notices = s.notices)
    (hother : s'.st (otherStation n) = s.st (otherStation n)) (h : EndsStep s' u n o e) : EndsStep s u n o e := by
  have hrep : (s'.st n).endReport o e = (s.st n).endReport o e := by
    unfold Station.endReport; rw [hrun, hweigh, hheat]
  have honly : OnlyRuns s u n ↔ OnlyRuns s' u n := by unfold OnlyRuns; rw [hout, hother, hweigh, hcfg]
  unfold EndsStep EnteredStep at h ⊢
  rw [honly]
  simpa only [hrep, curStep_of_run hout hrun, hrun, steps_of hout, recipeLength_of hout, limits_of hout, hbits,
    standing_of hout, lidLocked_of hout hlid] using h

theorem atLeast_iff {bowl : Option Int} {bound : Nat} :
    atLeast bowl bound = true ↔ ∃ b : Int, bowl = some b ∧ (bound : Int) ≤ b := by
  cases bowl <;> simp [atLeast]

/-- Settles O22: a cause is raised over the stored sample, and the rest of the event leaves a station in FAULT at rest; a sample at
the target is a step end inside its event. -/
theorem sampleFaultsAndEndsSteps : Obligations.SampleFaultsAndEndsSteps := by
  intro s s1 n t
  refine ⟨fun hs1 => ?sensor, fun hs1 => ⟨fun hhot hf => ?enter, fun u hu hhot hf => ?further, fun hlow hr hp he ht hte hle => ?ends⟩⟩
  case sensor =>
    have htake : takeThermoSample n t true s = raiseCause n .thermoSensor ((s.st n).heat.sensorFault == some true) s1 := by
      rw [hs1]; rfl
    have hrun : (s1.st n).run = (s.st n).run := by rw [hs1]; simp
    rw [htake]
    refine ⟨fun hf => ?_, fun hf hc => ?_, fun hf hc => ?_⟩
    · rw [raiseCause_enters (by rwa [hrun])]
      exact faultsFrom_enterFault ..
    · rw [hc]; exact raiseCause_carried (by rwa [hrun])
    · rw [beq_eq_false_iff_ne.mpr hc]; exact raiseCause_further (by rwa [hrun])
  all_goals
    have hstore : s.modHeat n (storeThermo t false) = s1 := by rw [hs1]; rfl
    have hrun : (s1.st n).run = (s.st n).run := by rw [hs1]; simp
    have hout : s1.outline = s.outline := by rw [hs1]; simp
  case enter =>
    have htake : takeThermoSample n t false s = thermoDemand n t (s.side n).grant (s.st n).heat.demand (retestReached n
        (tempStep n t (recomputeEnvelope n (enterFault n .overtemp 0 false s1)))) := by
      simp only [takeThermoSample, thermoFaults, hstore, limits_of hout, hhot, if_true, Bool.false_eq_true, if_false]
      rw [raiseCause_enters (by rwa [hrun])]
    obtain ⟨h1, h2, h3, h4, h5, -, -⟩ := thermo_rest (by rw [enterFault_run]) htake
    refine faultsFrom_of (faultsFrom_enterFault n .overtemp 0 s1) h1 h2 h3 h4 (by rw [h5]) ?_
    rw [hs1]
    simp [OnlyRuns]
  case further =>
    have htake : u = thermoDemand n t (s.side n).grant (s.st n).heat.demand (retestReached n (tempStep n t
        (recomputeEnvelope n (raiseCause n .overtemp (atLeast (s.st n).heat.bowl (s.st n).limits.overtemp) s1)))) := by
      rw [hu]
      simp only [takeThermoSample, thermoFaults, hstore, limits_of hout, hhot, if_true, Bool.false_eq_true, if_false]
    have hbowl : (s1.st n).heat.bowl = some t ∧ (s1.st n).heat.sensorFault = some false := by rw [hs1]; simp
    have honly : OnlyRuns s u n := by rw [hu]; simp [OnlyRuns]
    have hstate : (s1.st n).run.state = .fault := by rwa [hrun]
    cases hc : atLeast (s.st n).heat.bowl (s.st n).limits.overtemp with
    | true =>
      rw [hc, raiseCause_carried hstate] at htake
      obtain ⟨h1, -, -, -, h5, h6, h7⟩ := thermo_rest hstate htake
      refine ⟨h6.trans hbowl.1, h7.trans hbowl.2, honly, fun _ => ⟨h1.trans hrun, by rw [h5, hs1]; simp⟩, fun hlow => ?_⟩
      obtain ⟨b, hb, hle⟩ := atLeast_iff.mp hc
      exact absurd (hlow b hb) (not_lt.mpr hle)
    | false =>
      rw [hc, raiseCause_further hstate] at htake
      obtain ⟨h1, -, -, -, h5, h6, h7⟩ := thermo_rest (by simpa using hstate) htake
      refine ⟨h6.trans (by simpa using hbowl.1), h7.trans (by simpa using hbowl.2), honly, fun hhigh => ?_,
        fun _ => ⟨h1.trans (by simp [hrun]), by rw [h5, hs1]; simp⟩⟩
      rw [atLeast_iff.mpr hhigh] at hc
      cases hc
  case ends =>
    have hout2 : (recomputeEnvelope n s1).outline = s.outline := by simp [hout]
    have hrun2 : ((recomputeEnvelope n s1).st n).run = (s.st n).run := by simp [hrun]
    have htake : takeThermoSample n t false s = thermoDemand n t (s.side n).grant (s.st n).heat.demand (retestReached n
        (finishStep n .temp true (recomputeEnvelope n s1))) := by
      have htemp : tempStep n t (recomputeEnvelope n s1) = finishStep n .temp true (recomputeEnvelope n s1) := by
        simp only [tempStep]
        rw [if_pos ⟨by rw [hrun2, hr], by rw [hrun2, hp], by rw [curStep_of_run hout2 hrun2, he],
          by rw [heatTarget_of_run hout2 hrun2, hte, heatCfg_of hout2]; exact hle⟩]
      simp only [takeThermoSample, thermoFaults, hstore, limits_of hout, not_le.mpr hlow, Bool.false_eq_true, if_false, htemp]
    rw [htake]
    refine endsStep_from (s' := recomputeEnvelope n s1) (by simp) (by simp) (by simp) (by simp) (by simp) ?_ (by simp)
      (by simp) (endsStep_of (b := true) ?_ (by simp) (by simp) (by simp) (by simp [OnlyRuns]) fun hf => ?_)
    · obtain ⟨-, -, -, hlid⟩ := recomputeEnvelope_agrees (n := n) (s := s1) rfl
      exact hlid
    · rw [captureReport_whole _ (by decide), hrun2]
    · have hfault : ((finishStep n .temp true (recomputeEnvelope n s1)).st n).run.state = .fault := by simpa using hf
      obtain ⟨c, k, v, hv⟩ := finishStep_fault hfault
      have hheat := thermoDemand_rest (n := n) (t := t) (g := (s.side n).grant) (d := (s.st n).heat.demand)
        (heatTarget_fault hfault)
      obtain ⟨h1, -, h3, -, h5, -⟩ := (enterFault_drive n c k true v).fields
      unfold AtRest
      rw [hheat, thermoDemand_drive, retestReached_drive, hv, h1, h3, h5]
      simp [composeSpeed]

end Sys2Proof.Machine

/-! PROOFS. The part's own frames as they wait (R158, R160), and what a recomputed speed, the interlock and the refresh send
(chapter 6). -/

namespace Sys2Proof.Machine

open Sys2Proof

/-! ### Unsent frames (R158, R160) -/

section
variable {s u : State} {k : OwnKind} {dest : NodeId} {payload : List Byte}

/-- The queue of a kind after an origination of that kind holds its frame. -/
theorem mem_joinQueue_new (k : OwnKind) (f : Frame) (q : List Queued) :
    ∃ e ∈ joinQueue k f q, e.origin = .own k ∧ e.frame = f := by
  have rewritten : ∀ l : List Queued, l.any (Queued.isKind k) = true →
      ∃ e ∈ rewriteFirst (Queued.isKind k) f l, e.origin = .own k ∧ e.frame = f := by
    intro l hl
    induction l with
    | nil => simp at hl
    | cons a l ih =>
      unfold rewriteFirst
      split
      · next ha => exact ⟨{ a with frame := f }, by simp, (isKind_iff k a).mp ha, rfl⟩
      · next ha =>
        obtain ⟨e, he, h⟩ := ih (by simpa [ha] using hl)
        exact ⟨e, by simp [he], h⟩
  unfold joinQueue
  split
  · next h =>
    rw [Bool.and_eq_true] at h
    exact rewritten q h.2
  · exact ⟨⟨f, .own k, k.cls⟩, by simp, rfl, rfl⟩

/-- A frame of another kind is no obstacle to an origination. -/
theorem mem_joinQueue_of_mem {k' : OwnKind} {f : Frame} {q : List Queued} {e : Queued} (he : e ∈ q)
    (hk : e.origin ≠ .own k') : e ∈ joinQueue k' f q := by
  have kept : ∀ l : List Queued, e ∈ l → e ∈ rewriteFirst (Queued.isKind k') f l := by
    intro l hl
    induction l with
    | nil => simp at hl
    | cons a l ih =>
      unfold rewriteFirst
      split
      · next ha =>
        obtain rfl | hl := List.mem_cons.mp hl
        · exact absurd ((isKind_iff k' _).mp ha) hk
        · simp [hl]
      · obtain rfl | hl := List.mem_cons.mp hl
        · simp
        · simp [ih hl]
  unfold joinQueue
  split
  · exact kept q he
  · simp [he]

theorem unsent_of (hport : u.port k.port = s.port k.port) (hown : u.ownNode = s.ownNode) (h : Unsent s k dest payload) :
    Unsent u k dest payload := by
  unfold Unsent; rw [hport, hown]; exact h

theorem unsent_originate (h : (s.port k.port).health ≠ .isolated) : Unsent (originate k dest payload s) k dest payload := by
  obtain ⟨e, he, hk, hf⟩ := mem_joinQueue_new k (ownFrame s.ownNode k dest payload) ((s.port k.port).queue k.cls)
  refine ⟨e, ?_, hk, by rw [originate_ownNode]; exact hf⟩
  unfold originate
  rw [if_neg h, port_modPort, modQueue_queue]
  exact he

theorem unsent_originate_other {k' : OwnKind} {d' : NodeId} {p' : List Byte} (hk : k ≠ k') (h : Unsent s k dest payload) :
    Unsent (originate k' d' p' s) k dest payload := by
  obtain ⟨e, he, ho, hf⟩ := h
  refine ⟨e, ?_, ho, by rw [originate_ownNode]; exact hf⟩
  unfold originate
  split
  · unfold countPort
    by_cases hp : k.port = k'.port
    · rw [hp, port_modPort]; rw [hp] at he; cases h : k.cls <;> rw [h] at he <;> exact he
    · rw [port_modPort_ne hp]; exact he
  · by_cases hp : k.port = k'.port
    · rw [hp, port_modPort]
      rw [hp] at he
      by_cases hc : k.cls = k'.cls
      · rw [hc, modQueue_queue]
        rw [hc] at he
        exact mem_joinQueue_of_mem he (by rw [ho]; simpa using hk)
      · rw [modQueue_queue_ne hc]; exact he
    · rw [port_modPort_ne hp]; exact he

theorem unsent_modDrive {n : StationId} {f : DriveContext → DriveContext} (h : Unsent s k dest payload) :
    Unsent (s.modDrive n f) k dest payload :=
  unsent_of (by simp) (by simp) h

theorem unsent_testUnlock {n : StationId} (hk : k ≠ .lidSet n) (h : Unsent s k dest payload) :
    Unsent (testUnlock n s) k dest payload := by
  unfold testUnlock sendLidSet
  (repeat' split)
  · exact unsent_modDrive h
  · exact unsent_originate_other hk (unsent_modDrive h)
  · exact h

end

/-! ### A recomputed speed (R115 to R118) -/

@[simp] theorem modDrive_counters (s : State) (n : StationId) (f : DriveContext → DriveContext) (m : StationId) :
    ((s.modDrive n f).st m).counters = (s.st m).counters := by
  cases n <;> cases m <;> rfl

@[simp] theorem testUnlock_counters (n : StationId) (s : State) (m : StationId) :
    ((testUnlock n s).st m).counters = (s.st m).counters := by
  unfold testUnlock
  split <;> simp

/-- The state of a recomputed speed before anything is sent: the speed stands, and the clamp is counted (R116, R117). -/
def composedState (n : StationId) (s : State) : State :=
  let s1 := s.modDrive n (fun _ => composeSpeed (s.requestOf n) (s.st n).drive)
  if clampCounts (s.st n).drive (composeSpeed (s.requestOf n) (s.st n).drive) then countStation n .clamps s1 else s1

theorem recomputeDrive_eq (n : StationId) (s : State) : recomputeDrive n s =
    let c := composeSpeed (s.requestOf n) (s.st n).drive
    let s3 := if c.commanded ≠ (s.st n).drive.commanded ∨ c.commandedDir ≠ (s.st n).drive.commandedDir
      then sendSpeedSet n (composedState n s) else composedState n s
    if c.commanded = 0 then testUnlock n s3 else s3 := rfl

theorem composedState_drive (n : StationId) (s : State) :
    ((composedState n s).st n).drive = composeSpeed (s.requestOf n) (s.st n).drive := by
  simp only [composedState]; split <;> simp

theorem composedState_counters (n : StationId) (s : State) : ((composedState n s).st n).counters[0] =
    if clampCounts (s.st n).drive (composeSpeed (s.requestOf n) (s.st n).drive) then
      satInc Config.counterMax (s.st n).counters[0] else (s.st n).counters[0] := by
  simp only [composedState]
  split
  · simp [countStation, bump, stationCounterIndex, State.modDrive]
  · simp [State.modDrive]

/-- Every change of the commanded speed or direction is sent (R118). -/
theorem recomputeDrive_sends {n : StationId} {s : State} {k : NodeId} {c : DriveContext}
    (hc : c = composeSpeed (s.requestOf n) (s.st n).drive)
    (h : c.commanded ≠ (s.st n).drive.commanded ∨ c.commandedDir ≠ (s.st n).drive.commandedDir)
    (hk : (s.st n).binding.drive = some k) (hp : s.appliance.health ≠ .isolated) :
    Unsent (recomputeDrive n s) (.speedSet n) k (speedPayload c.commanded c.commandedDir) := by
  have hout : (composedState n s).outline = s.outline := by simp only [composedState]; split <;> simp
  have hsent : Unsent (sendSpeedSet n (composedState n s)) (.speedSet n) k (speedPayload c.commanded c.commandedDir) := by
    unfold sendSpeedSet
    rw [binding_of hout, hk]
    dsimp only
    rw [composedState_drive, ← hc]
    refine unsent_originate ?_
    rw [health_of hout]
    exact hp
  rw [recomputeDrive_eq]
  dsimp only
  rw [← hc, if_pos h]
  split
  · exact unsent_testUnlock (by simp) hsent
  · exact hsent

/-- An unchanged command over no pending unlock sends nothing (R118, R129). -/
theorem recomputeDrive_quiet {n : StationId} {s : State} {c : DriveContext}
    (hc : c = composeSpeed (s.requestOf n) (s.st n).drive) (h1 : c.commanded = (s.st n).drive.commanded)
    (h2 : c.commandedDir = (s.st n).drive.commandedDir) (hp : (s.st n).drive.pendingUnlock = false) :
    recomputeDrive n s = composedState n s := by
  rw [recomputeDrive_eq]
  dsimp only
  rw [← hc, if_neg (by rw [not_or, not_not, not_not]; exact ⟨h1, h2⟩ : ¬(c.commanded ≠ (s.st n).drive.commanded ∨
    c.commandedDir ≠ (s.st n).drive.commandedDir))]
  split
  · unfold testUnlock
    rw [if_neg]
    rw [composedState_drive, show (composeSpeed (s.requestOf n) (s.st n).drive).pendingUnlock = false from hp]
    simp
  · rfl

theorem clampCounts_iff {old new : DriveContext} : clampCounts old new = true ↔
    new.clamped = true ∧ (new.requested ≠ old.requested ∨ new.commanded < old.commanded) := by
  simp [clampCounts]

/-- The station counters of a recomputed speed (R117, R167). -/
theorem recomputeDrive_counters (n : StationId) (s : State) :
    ((recomputeDrive n s).st n).counters = ((composedState n s).st n).counters := by
  rw [recomputeDrive_eq]
  dsimp only
  (repeat' split) <;> simp

/-- The envelope is the smallest limit that applies (R115). -/
theorem envelopeOf_eq {s : State} {n : StationId} {hot : Bool}
    (h : hot = true ↔ ∃ t : Int, (s.st n).heat.bowl = some t ∧ (s.st n).limits.hotTemp ≤ t) :
    s.envelopeOf n = min (min (s.st n).limits.maxSpeed (if hot then (s.st n).limits.hotSpeed else (s.st n).limits.maxSpeed))
      (if s.lidLocked n then (s.st n).limits.maxSpeed else (s.st n).limits.openSpeed) := by
  have hhot : (s.st n).hot = hot := by
    rw [Bool.eq_iff_iff, h]
    unfold Station.hot
    cases (s.st n).heat.bowl <;> simp
  simp only [State.envelopeOf, hhot]
  cases hot <;> cases s.lidLocked n <;> simp

/-- What a station that is neither IDLE nor in ACTIVE asks for, whichever of the two it is not. -/
theorem requestOf_rest' {s : State} {n : StationId} (hi : (s.st n).run.state ≠ .idle)
    (ha : (s.st n).run.state ≠ .running ∨ (s.st n).run.phase ≠ some .active) :
    s.requestOf n = (0, (s.st n).drive.requestedDir) :=
  requestOf_rest hi fun hr => ha.resolve_left (not_not.mpr hr)

/-- A request in ACTIVE (R25, R116). -/
theorem requestOf_active {s : State} {n : StationId} (hr : (s.st n).run.state = .running)
    (hp : (s.st n).run.phase = some .active) : s.requestOf n =
      ((s.st n).run.speedOverride.getD (s.curStep n).speed, stepDirection (s.curStep n).mode (s.st n).run.reversal) := by
  simp [State.requestOf, hr, hp]

/-- Settles O26: a recomputation composes the speed from its request, and each hold's end is a drop of its demand. -/
theorem speedRecomputesAndHoldsExpire : Obligations.SpeedRecomputesAndHoldsExpire := by
  refine ⟨?_, fun s n hl => ⟨fun hh => ?speed, fun hh => ?_, fun hh => ?heat, fun hh => ?_⟩⟩
  · rintro s u n st hot rfl rfl hhot
    obtain ⟨h1, h2, h3, h4, h5, -⟩ := (recomputeDrive_sameSpeed n s).fields
    rw [h1, h2, h3, h4, h5, recomputeDrive_counters, composedState_counters]
    refine ⟨envelopeOf_eq hhot, fun hi => ?_, fun hr hp => ?_, fun hi ha => ?_, rfl, rfl, by simp [composeSpeed], ?_,
      fun hne k hk hp => recomputeDrive_sends rfl hne hk hp, fun e1 e2 hp => ?_, by simp, by simp, by simp, by simp [OnlyRuns]⟩
    · simp [composeSpeed, State.requestOf, hi]
    · rw [requestOf_active hr hp]
      exact ⟨rfl, fun hm => by simp [composeSpeed, stepDirection, hm], fun hm => by simp [composeSpeed, stepDirection, hm],
        fun d hm hd => by simp [composeSpeed, stepDirection, hm, hd]⟩
    · rw [requestOf_rest' hi ha]
      exact ⟨rfl, rfl⟩
    · simp only [clampCounts_iff]
    · rw [recomputeDrive_quiet rfl e1 e2 hp]
      simp only [composedState]
      cases n <;> split <;> rfl
  case speed =>
    have hsame := recomputeDrive_sameSpeed n (s.modDrive n (fun d => { d with manualSpeed := 0, speedHold := none }))
    obtain ⟨h1, -, h3, -, -, -, h7, h8, h9, -⟩ := hsame.fields
    have hidle (hi : (s.st n).run.state = .idle) : (s.modDrive n (fun d =>
        { d with manualSpeed := 0, speedHold := none })).requestOf n = (0, (s.st n).drive.requestedDir) := by
      simp [State.requestOf, hi]
    refine ⟨dropManualSpeed n s, ?_, ?_, ?_, ?_, fun hi => ⟨?_, ?_⟩, fun k hi hc hk hp => ?_, by simp, by simp, by simp,
      by simp, by simp [OnlyRuns]⟩
    · show Host.Outcome.next _ = _
      rw [whenLive_live hl, if_pos (Option.isSome_iff_ne_none.mpr hh)]
    · exact h7.trans (by simp [composeSpeed])
    · exact h9.trans (by simp [composeSpeed])
    · exact h8.trans (by simp [composeSpeed])
    · exact h1.trans (by rw [hidle hi]; rfl)
    · exact h3.trans (by rw [hidle hi]; simp [composeSpeed])
    · have hsent := recomputeDrive_sends (n := n) (s := s.modDrive n (fun d => { d with manualSpeed := 0, speedHold := none }))
        rfl (.inl (by rw [hidle hi]; simpa [composeSpeed] using Ne.symm hc)) (by simpa using hk) (by simpa using hp)
      rw [hidle hi] at hsent
      unfold dropManualSpeed
      simpa [composeSpeed, speedPayload] using hsent
  · show Host.Outcome.next _ = _
    rw [whenLive_live hl, if_neg (by simp [hh])]
  case heat =>
    refine ⟨dropManualHeat n s, ?_, by simp [dropManualHeat], ?_, by simp, by simp, by simp [OnlyRuns]⟩
    · show Host.Outcome.next _ = _
      rw [whenLive_live hl, if_pos (Option.isSome_iff_ne_none.mpr hh)]
    · simp only [dropManualHeat, followManualHeat, modDrive_st_run]
      split
      · have hzero : (s.modDrive n (fun d => { d with manualHeat := 0, heatHold := none })).idleDemand n = 0 := by
          simp [State.idleDemand]
        rw [hzero, setDemand_heat, modDrive_st_heat]
      · rw [modDrive_st_heat]
  · show Host.Outcome.next _ = _
    rw [whenLive_live hl, if_neg (by simp [hh])]

/-! ### The interlock and the refresh (R126 to R130) -/

theorem bladeStill_iff (s : State) (n : StationId) : s.bladeStill n = true ↔ BladeStill s n := by
  unfold State.bladeStill BladeStill
  cases (s.st n).drive.report <;> simp

/-- The interlock lets a pending unlock go exactly under its conditions (R129). -/
theorem testUnlock_serves {s : State} {n : StationId} {k : NodeId} (hp : (s.st n).drive.pendingUnlock = true)
    (hb : BladeStill s n) (hk : (s.st n).binding.lid = some k) (ha : s.appliance.health ≠ .isolated) :
    testUnlock n s = originate (.lidSet n) k [1]
      (s.modDrive n (fun d => { d with lidCommand := some .unlock, pendingUnlock := false })) := by
  have hpay : lidPayload .unlock = [1] := rfl
  simp [testUnlock, hp, (bladeStill_iff s n).mpr hb, hk, State.applianceIsolated, ha, sendLidSet, hpay]

theorem testUnlock_waits {s : State} {n : StationId} (h : (s.st n).drive.pendingUnlock = false ∨ ¬ BladeStill s n ∨
    (s.st n).binding.lid = none ∨ s.appliance.health = .isolated) : testUnlock n s = s := by
  unfold testUnlock
  refine if_neg fun hc => ?_
  simp only [Bool.and_eq_true, bladeStill_iff, Option.isSome_iff_ne_none, State.applianceIsolated, Bool.not_eq_true',
    beq_eq_false_iff_ne] at hc
  obtain ⟨⟨⟨h1, h2⟩, h3⟩, h4⟩ := hc
  obtain h | h | h | h := h
  · rw [h1] at h; cases h
  · exact h h2
  · exact h3 h
  · exact h4 h

theorem bladeStill_of {s t : State} {n : StationId} (h : (t.st n).drive = (s.st n).drive) : BladeStill t n ↔ BladeStill s n := by
  unfold BladeStill; rw [h]

theorem refreshLid_lock {s : State} {n : StationId} {k : NodeId} (hc : (s.st n).drive.lidCommand = some .lock)
    (hk : (s.st n).binding.lid = some k) : refreshLid n s = originate (.lidSet n) k [0] s := by
  have hpay : lidPayload .lock = [0] := rfl
  simp [refreshLid, hc, sendLidSet, hk, hpay]

theorem refreshLid_unlock {s : State} {n : StationId} {k : NodeId} (hc : (s.st n).drive.lidCommand = some .unlock)
    (hb : BladeStill s n) (hk : (s.st n).binding.lid = some k) : refreshLid n s = originate (.lidSet n) k [1] s := by
  have hpay : lidPayload .unlock = [1] := rfl
  simp [refreshLid, hc, (bladeStill_iff s n).mpr hb, sendLidSet, hk, hpay]

theorem refreshLid_moving {s : State} {n : StationId} (hc : (s.st n).drive.lidCommand = some .unlock)
    (hb : ¬ BladeStill s n) : refreshLid n s = s := by
  simp [refreshLid, hc, mt (bladeStill_iff s n).mp hb]

theorem unsent_refreshLid {s : State} {n : StationId} {k : OwnKind} {dest : NodeId} {payload : List Byte}
    (hk : k ≠ .lidSet n) (h : Unsent s k dest payload) : Unsent (refreshLid n s) k dest payload := by
  unfold refreshLid sendLidSet
  (repeat' split) <;> first | exact h | exact unsent_originate_other hk h

/-- The setpoints a refresh sends to the DRIVE and HEATER nodes (R111, R118, R130). -/
def refreshed (n : StationId) (s : State) : State :=
  sendHeatSet n (sendSpeedSet n (s.modDrive n (fun d => { d with refreshTimer := (s.st n).limits.refresh })))

@[simp] theorem refreshed_outline (n : StationId) (s : State) : (refreshed n s).outline = s.outline := by simp [refreshed]

@[simp] theorem refreshed_drive (n : StationId) (s : State) : ((refreshed n s).st n).drive =
    { (s.st n).drive with refreshTimer := (s.st n).limits.refresh } := by
  simp [refreshed]

theorem unsent_refreshed {n : StationId} {s : State} (hp : s.appliance.health ≠ .isolated) :
    (∀ k, (s.st n).binding.drive = some k → Unsent (refreshed n s) (.speedSet n) k
      (speedPayload (s.st n).drive.commanded (s.st n).drive.commandedDir)) ∧
    (∀ k, (s.st n).binding.heater = some k → Unsent (refreshed n s) (.heatSet n) k (heatPayload (s.side n).grant)) := by
  refine ⟨fun k hk => ?_, fun k hk => ?_⟩
  · have hs : Unsent (sendSpeedSet n (s.modDrive n (fun d => { d with refreshTimer := (s.st n).limits.refresh })))
        (.speedSet n) k (speedPayload (s.st n).drive.commanded (s.st n).drive.commandedDir) := by
      unfold sendSpeedSet
      simp only [modDrive_st_binding, hk, modDrive_st_drive]
      refine unsent_originate ?_
      rw [health_of (s := s) (by simp)]
      exact hp
    unfold refreshed sendHeatSet
    split
    · exact hs
    · exact unsent_originate_other (by simp) (unsent_of (by simp) (by simp) hs)
  · unfold refreshed sendHeatSet
    simp only [st_sendSpeedSet, modDrive_st_binding, hk]
    have hside : ((sendSpeedSet n (s.modDrive n (fun d => { d with refreshTimer := (s.st n).limits.refresh }))).side n).grant =
        (s.side n).grant := by
      rw [side_of_arbiter (s := s) (by simp)]
    rw [hside]
    refine unsent_originate ?_
    rw [health_of (s := s) (by simp)]
    exact hp

@[simp] theorem refreshLid_drive' (n : StationId) (s : State) (m : StationId) :
    ((refreshLid n s).st m).drive = (s.st m).drive := by
  rw [st_refreshLid]

theorem refreshed_lastSent {n : StationId} {s : State} (h : (s.st n).binding.heater ≠ none) :
    ((refreshed n s).side n).lastSent = some (s.side n).grant := by
  obtain ⟨k, hk⟩ := Option.ne_none_iff_exists'.mp h
  unfold refreshed sendHeatSet
  simp only [st_sendSpeedSet, modDrive_st_binding, hk]
  rw [side_of_arbiter (originate_arbiter ..), side_modSide, side_of_arbiter (s := s) (by simp)]

/-- Settles O27: the interlock's conditions are those of `testUnlock_serves` and `testUnlock_waits`; a refresh sends the three
setpoints one after another, each of its own kind. -/
theorem unlockInterlockAndRefresh : Obligations.UnlockInterlockAndRefresh := by
  refine ⟨fun s n => ⟨fun k hp hb hk ha => ?_, testUnlock_waits, refreshLid_moving, fun k hc hb hk => refreshLid_unlock hc hb hk,
    fun k hc hk => refreshLid_lock hc hk⟩, fun s n hl => ⟨fun hs => ?_, fun hs => ⟨fun hw => ?_, fun k hp hc hk ha => ?_⟩,
    testUnlock n (refreshLid n (refreshed n s)), ?_, ?_, fun hp => ?_, fun ha => ?sent, fun hh => ?_, ?_, ?_, ?_, ?_⟩⟩
  · have h := testUnlock_serves hp hb hk ha
    refine ⟨h, ?_⟩
    rw [h]
    exact unsent_originate (by rw [health_of (s := s) (by simp)]; exact ha)
  · show Host.Outcome.next _ = _
    rw [whenLive_live hl, if_neg (by simp [hs])]
  · show Host.Outcome.next _ = _
    rw [whenLive_live hl, if_pos (Option.isSome_iff_ne_none.mpr hs), testUnlock_waits]
    simp only [modDrive_st_drive, modDrive_st_binding, modDrive_appliance, BladeStill]
    tauto
  · show Host.Outcome.next _ = _
    rw [whenLive_live hl, if_pos (Option.isSome_iff_ne_none.mpr hs), testUnlock_serves (k := k)]
    · rw [modDrive_modDrive]
    · simpa using hp
    · simp [BladeStill, hc]
    · simpa using hk
    · simpa using ha
  · show Host.Outcome.next _ = _
    rw [whenLive_live hl]
    rfl
  · obtain ⟨-, -, -, -, -, -, -, -, -, -, -, -, -, -, -, -, h⟩ := (testUnlock_sameSpeed n (refreshLid n (refreshed n s))).fields
    rw [h, refreshLid_drive', refreshed_drive]
  · rw [testUnlock_waits (.inl (by rw [refreshLid_drive', refreshed_drive]; exact hp)), refreshLid_drive', refreshed_drive]
  case sent =>
    obtain ⟨hspeed, hheat⟩ := unsent_refreshed (n := n) ha
    have hbind : ((refreshed n s).st n).binding.lid = (s.st n).binding.lid := by rw [binding_of (refreshed_outline ..)]
    have hhealth : ((refreshed n s).port .appliance).health ≠ .isolated := by rw [health_of (refreshed_outline ..)]; exact ha
    refine ⟨fun k hk => unsent_testUnlock (by simp) (unsent_refreshLid (by simp) (hspeed k hk)),
      fun k hk => unsent_testUnlock (by simp) (unsent_refreshLid (by simp) (hheat k hk)), fun k hk hp hc => ?_, fun k hk hc hb => ?_⟩
    · rw [testUnlock_waits (.inl (by rw [refreshLid_drive', refreshed_drive]; exact hp)),
        refreshLid_lock (k := k) (by rw [refreshed_drive]; exact hc) (by rw [hbind, hk])]
      exact unsent_originate hhealth
    · have hstill : BladeStill (refreshed n s) n := by simpa [BladeStill] using hb
      have hsent : Unsent (refreshLid n (refreshed n s)) (.lidSet n) k [1] := by
        rw [refreshLid_unlock (k := k) (by rw [refreshed_drive]; exact hc) hstill (by rw [hbind, hk])]
        exact unsent_originate hhealth
      have hlidHealth : ((refreshLid n (refreshed n s)).port .appliance).health ≠ .isolated := by
        rw [health_of (s := refreshed n s) (by simp)]; exact hhealth
      by_cases hp : (s.st n).drive.pendingUnlock = true
      · rw [testUnlock_serves (k := k) (by rw [refreshLid_drive', refreshed_drive]; exact hp)
          ((bladeStill_of (refreshLid_drive' ..)).mpr hstill) (by rw [st_refreshLid, hbind, hk])
          hlidHealth]
        exact unsent_originate (by rw [health_of (s := s) (by simp)]; exact ha)
      · rw [testUnlock_waits (.inl (by rw [refreshLid_drive', refreshed_drive]; simpa using hp))]
        exact hsent
  · rw [side_of_arbiter (s := refreshed n s) (by simp)]
    exact refreshed_lastSent hh
  · simp [refreshed]
  · simp [refreshed]
  · simp [refreshed]
  · simp [OnlyRuns, refreshed]

end Sys2Proof.Machine

/-! PROOFS. Heater, drive and lid reports (chapters 4 and 6). -/

namespace Sys2Proof.Machine

open Sys2Proof

/-! ### Drive reports (R124) -/

theorem unlockAsked_testUnlock {n : StationId} {s : State} (h : UnlockAsked s n) : UnlockAsked (testUnlock n s) n := by
  unfold UnlockAsked
  obtain hd | ⟨h0, hd⟩ := testUnlock_drive (n := n) (s := s) rfl <;> rw [hd]
  · exact h
  · exact .inr ⟨rfl, h0⟩

theorem testGrant_draw (n : StationId) (s : State) (m : StationId) : ((testGrant n s).side m).draw = (s.side m).draw := by
  obtain ha | ha := testGrant_arbiter n s <;> rw [side_of_arbiter ha]
  cases n <;> cases m <;> rfl

theorem recomputeArbiter_draw (s : State) (m : StationId) : ((recomputeArbiter s).side m).draw = (s.side m).draw := by
  unfold recomputeArbiter
  rw [testGrant_draw, testGrant_draw]
  cases m <;> rfl

theorem setDraw_draw (n : StationId) (w : Nat) (s : State) : ((setDraw n w s).side n).draw = w := by
  unfold setDraw
  split
  · next h => exact h
  · rw [recomputeArbiter_draw, side_modSide]

/-- The rest of a DRIVE_STATE after its fault test. -/
theorem driveRest_keeps (n : StationId) (w : Nat) (v : State) :
    ((testUnlock n (setDraw n w v)).st n).run = (v.st n).run ∧
    ((testUnlock n (setDraw n w v)).st n).heat = (v.st n).heat ∧ (testUnlock n (setDraw n w v)).notices = v.notices ∧
    ((testUnlock n (setDraw n w v)).st n).drive.sameSpeed (v.st n).drive ∧
    (UnlockAsked v n → UnlockAsked (testUnlock n (setDraw n w v)) n) := by
  have hst : (setDraw n w v).st n = v.st n := by simp
  refine ⟨by simp, by simp, by simp, ?_, fun h => unlockAsked_testUnlock (by unfold UnlockAsked; rw [hst]; exact h)⟩
  have h := testUnlock_sameSpeed n (setDraw n w v)
  rwa [hst] at h

/-- What the fault test of a DRIVE_STATE leaves: a fault entry or a further fault, over the stored report. -/
def driveFaults (n : StationId) (r : DriveReport) (carried : Bool) (v : State) : State :=
  if r.fault then raiseCause n .driveFault carried v else v

/-- The last report of the kind carried the fault flag. -/
def carriedFault (p : Option DriveReport) : Bool :=
  match p with
  | some p => p.fault
  | none => false

theorem takeDriveState_eq (n : StationId) (r : DriveReport) (s : State) : takeDriveState n r s = testUnlock n (setDraw n r.draw
    (driveFaults n r (carriedFault (s.st n).drive.report) (s.modDrive n (fun d => { d with report := some r })))) := rfl

theorem enterFault_report (n : StationId) (c : FaultCause) (k : Nat) (b : Bool) (s : State) :
    ((enterFault n c k b s).st n).drive.report = (s.st n).drive.report ∧
    ((enterFault n c k b s).st n).drive.lidReport = (s.st n).drive.lidReport := by
  obtain ⟨-, -, -, -, -, -, -, -, -, -, -, -, h1, h2, -⟩ := (enterFault_drive n c k b s).fields
  exact ⟨h1, h2⟩

theorem raiseCause_report (n : StationId) (c : FaultCause) (carried : Bool) (s : State) :
    ((raiseCause n c carried s).st n).drive.report = (s.st n).drive.report := by
  unfold raiseCause
  (repeat' split)
  · rfl
  · simp
  · exact (enterFault_report ..).1

/-! ### Lid reports (R28, R42, R125) -/

theorem enterActive_lidReport (n : StationId) (rule : Adoption) (b : Bool) (s : State) :
    ((enterActive n rule b s).st n).drive.lidReport = (s.st n).drive.lidReport := by
  simp only [enterActive]
  split
  · rw [setNotice_drive, stateChanged_lidReport, modRun_st_drive]
  · rw [stateChanged_lidReport, modRun_st_drive]

theorem leaveLocking_lidReport (n : StationId) (rule : Adoption) (b : Bool) (s : State) :
    ((leaveLocking n rule b s).st n).drive.lidReport = (s.st n).drive.lidReport := by
  unfold leaveLocking
  split
  · unfold enterBasing; rw [stateChanged_lidReport, modRun_st_drive]
  · exact enterActive_lidReport ..

theorem lockLid_lidReport (n : StationId) (s : State) :
    ((lockLid n s).st n).drive.lidReport = (s.st n).drive.lidReport := by
  obtain ⟨-, -, -, -, -, -, -, -, -, -, -, -, -, h, -⟩ := (lockLid_sameSpeed n s).fields
  exact h

theorem actOnLid_lidReport (n : StationId) (s : State) :
    ((actOnLid n s).st n).drive.lidReport = (s.st n).drive.lidReport := by
  simp only [actOnLid]
  (repeat' split)
  · exact leaveLocking_lidReport ..
  · simp
  · simp
  · rfl
  · rw [modRun_st_drive, lockLid_lidReport]
  · simp

theorem pauseStation_lidReport (n : StationId) (why : PauseReason) (s : State) :
    ((pauseStation n why s).st n).drive.lidReport = (s.st n).drive.lidReport := by
  unfold pauseStation; rw [setNotice_drive, stateChanged_lidReport, modRun_st_drive]

/-- What a lid report makes of LOCKING and of an ACTIVE step, before the envelope follows (R125). -/
def lidEffect (n : StationId) (r : LidReport) (v : State) : State :=
  if (v.st n).run.state = .running ∧ (v.st n).run.phase = some .locking then actOnLid n v
  else if v.losesLid n && !(r.closed && r.locked) then pauseStation n .lid v
  else v

theorem takeLidState_eq (n : StationId) (r : LidReport) (s : State) : takeLidState n r s =
    recomputeEnvelope n (lidEffect n r (s.modDrive n (fun d => { d with lidReport := some r }))) := rfl

theorem lidEffect_lidReport (n : StationId) (r : LidReport) (v : State) :
    ((lidEffect n r v).st n).drive.lidReport = (v.st n).drive.lidReport := by
  unfold lidEffect
  (repeat' split)
  · exact actOnLid_lidReport ..
  · exact pauseStation_lidReport ..
  · rfl

theorem lidEffect_locking {n : StationId} {r : LidReport} {v : State} (hr : (v.st n).run.state = .running)
    (hp : (v.st n).run.phase = some .locking) : lidEffect n r v = actOnLid n v := by
  simp [lidEffect, hr, hp]

/-- A report that neither meets LOCKING nor loses a lid leaves the run. -/
theorem lidEffect_quiet {n : StationId} {r : LidReport} {v : State}
    (hl : (v.st n).run.state ≠ .running ∨ (v.st n).run.phase ≠ some .locking)
    (ha : v.losesLid n = false ∨ r.closed = true ∧ r.locked = true) : lidEffect n r v = v := by
  unfold lidEffect
  rw [if_neg (by tauto), if_neg]
  obtain ha | ⟨h1, h2⟩ := ha
  · simp [ha]
  · simp [h1, h2]

theorem losesLid_iff (s : State) (n : StationId) : s.losesLid n = true ↔
    (s.st n).run.state = .running ∧ (s.st n).run.phase = some .active ∧ (s.curStep n).lock = true := by
  simp [State.losesLid, and_assoc]

theorem lidEffect_lost {n : StationId} {r : LidReport} {v : State} (hl : v.losesLid n = true)
    (h : r.closed = false ∨ r.locked = false) : lidEffect n r v = pauseStation n .lid v := by
  unfold lidEffect
  obtain ⟨hr, hp, -⟩ := (losesLid_iff v n).mp hl
  rw [if_neg (by simp [hp]), if_pos]
  obtain h | h := h <;> simp [hl, h]

/-- A recomputed speed leaves the frames that wait: it rewrites a SPEED_SET, and serves a pending unlock. -/
theorem unsent_recomputeDrive {n : StationId} {s : State} {k : OwnKind} {dest : NodeId} {payload : List Byte}
    (h1 : k ≠ .lidSet n ∨ (s.st n).drive.pendingUnlock = false) (h2 : k ≠ .speedSet n) (h : Unsent s k dest payload) :
    Unsent (recomputeDrive n s) k dest payload := by
  have hc : Unsent (composedState n s) k dest payload := by
    simp only [composedState]
    split <;> exact unsent_of (s := s) (by simp [countStation]) (by simp [countStation]) h
  have hsend : Unsent (sendSpeedSet n (composedState n s)) k dest payload := by
    unfold sendSpeedSet
    split
    · exact hc
    · exact unsent_originate_other h2 hc
  have test {v : State} (hv : (v.st n).drive.pendingUnlock = (s.st n).drive.pendingUnlock) (h : Unsent v k dest payload) :
      Unsent (testUnlock n v) k dest payload := by
    obtain h1 | h1 := h1
    · exact unsent_testUnlock h1 h
    · rw [testUnlock_waits (.inl (hv.trans h1))]; exact h
  rw [recomputeDrive_eq]
  dsimp only
  (repeat' split)
  · exact test (by rw [st_sendSpeedSet, composedState_drive]; rfl) hsend
  · exact test (by rw [composedState_drive]; rfl) hc
  · exact hsend
  · exact hc

/-- Without a pending unlock a recomputed envelope leaves lid command and pending unlock. -/
theorem recomputeEnvelope_lidCommand {n : StationId} {s : State} (h : (s.st n).drive.pendingUnlock = false) :
    ((recomputeEnvelope n s).st n).drive.lidCommand = (s.st n).drive.lidCommand ∧
    ((recomputeEnvelope n s).st n).drive.pendingUnlock = false := by
  have hst : ∀ v : State, (v.st n).drive.pendingUnlock = false →
      ((recomputeDrive n v).st n).drive = composeSpeed (v.requestOf n) (v.st n).drive := by
    intro v hv
    rw [recomputeDrive_eq]
    dsimp only
    (repeat' split)
    · rw [testUnlock_waits (.inl (by rw [st_sendSpeedSet, composedState_drive]; exact hv)), st_sendSpeedSet, composedState_drive]
    · rw [testUnlock_waits (.inl (by rw [composedState_drive]; exact hv)), composedState_drive]
    · rw [st_sendSpeedSet, composedState_drive]
    · exact composedState_drive ..
  unfold recomputeEnvelope
  rw [hst _ (by simpa using h), modDrive_st_drive]
  exact ⟨rfl, h⟩

/-- LOCK goes to a bound LID node, and waits there unless the port is ISOLATED (R127). -/
theorem lockLid_bound {n : StationId} {s : State} {k : NodeId} (hk : (s.st n).binding.lid = some k) :
    lockLid n s = originate (.lidSet n) k [0]
      (s.modDrive n (fun d => { d with lidCommand := some .lock, pendingUnlock := false })) := by
  have hpay : lidPayload .lock = [0] := rfl
  simp [lockLid, sendLidSet, hk, hpay]

/-- Over a closed and unlocked lid with no deadline running, LOCKING sends LOCK and starts the deadline (R28). -/
theorem actOnLid_closed {n : StationId} {s : State} {r : LidReport} (hs : s.silent n .lid = false)
    (hr : (s.st n).drive.lidReport = some r) (hc : r.closed = true) (hl : r.locked = false)
    (hd : (s.st n).run.deadline = none) :
    actOnLid n s = (lockLid n s).modRun n (fun r => { r with deadline := some 3000 }) := by
  have hlocked : s.lidLocked n = false := by simp [State.lidLocked, hr, hl]
  simp [actOnLid, hlocked, hs, hr, hc, hd, Config.lockingMs]

/-- Settles O28: each report is stored first; the fault test, LOCKING and the ACTIVE step then follow by their own rules. -/
theorem reportsActOnTheStation : Obligations.ReportsActOnTheStation := by
  intro s n
  refine ⟨fun r v hv => ?heat, fun r v u hv hu => ?drive, fun r u hu => ?lid⟩
  case heat =>
    have htake : takeHeatState n r s = if r.fault then raiseCause n .heaterFault
        (match (s.st n).heat.report with
          | some p => p.fault
          | none => false) v else v := by rw [hv]; rfl
    have hrun : (v.st n).run = (s.st n).run := by rw [hv]; simp
    rw [htake]
    refine ⟨fun hf => by simp [hf], fun hf hs => ?_, fun hf hs => ⟨fun ⟨p, hp, hc⟩ => ?_, fun hc => ?_⟩⟩
    · rw [if_pos hf, raiseCause_enters (by rwa [hrun])]
      exact faultsFrom_enterFault ..
    · simp only [hf, if_true, hp, hc]
      exact raiseCause_carried (by rwa [hrun])
    · have hcarried : (match (s.st n).heat.report with
          | some p => p.fault
          | none => false) = false := by
        cases hp : (s.st n).heat.report with
        | none => rfl
        | some p => exact hc p hp
      rw [if_pos hf, hcarried]
      exact raiseCause_further (by rwa [hrun])
  case drive =>
    have htake : u = testUnlock n (setDraw n r.draw (driveFaults n r (carriedFault (s.st n).drive.report) v)) := by
      rw [hu, hv]; rfl
    have hrun : (v.st n).run = (s.st n).run := by rw [hv]; simp
    have hheat : (v.st n).heat = (s.st n).heat := by rw [hv]; simp
    have hnotices : v.notices = s.notices := by rw [hv]; simp
    have hreport : (v.st n).drive.report = some r := by rw [hv]; simp
    have honly : OnlyRuns s u n := by rw [hu]; simp [OnlyRuns]
    obtain ⟨h1, h2, h3, h4, h5⟩ := driveRest_keeps n r.draw (driveFaults n r (carriedFault (s.st n).drive.report) v)
    rw [← htake] at h1 h2 h3 h4 h5
    obtain ⟨g1, -, g3, -, g5, -, -, -, -, -, -, -, g13, -⟩ := h4.fields
    refine ⟨?_, ?_, honly, fun hf => ?_, fun hf hs => ?_, fun hf hs => ⟨fun ⟨p, hp, hc⟩ => ?_, fun hc => ?_⟩⟩
    · rw [g13]
      unfold driveFaults
      split
      · rw [raiseCause_report]; exact hreport
      · exact hreport
    · rw [htake, side_of_arbiter (testUnlock_arbiter ..)]
      exact setDraw_draw ..
    · rw [h1, h2, h3]
      simp [driveFaults, hf, hrun, hheat, hnotices]
    · have henter : driveFaults n r (carriedFault (s.st n).drive.report) v = enterFault n .driveFault 0 false v := by
        rw [driveFaults, if_pos hf, raiseCause_enters (by rwa [hrun])]
      rw [henter] at h1 h2 h3 h4 h5 g1 g3 g5
      refine faultsFrom_of (faultsFrom_enterFault n .driveFault 0 v) h1 h4.demands h5 ?_ (by rw [h3]) (by
        rw [hu, hv]; simp [OnlyRuns])
      have hrest := atRest_enterFault n .driveFault 0 v
      unfold AtRest at hrest ⊢
      rwa [g1, g3, g5, h2]
    · have hkeep : driveFaults n r (carriedFault (s.st n).drive.report) v = v := by
        simp only [driveFaults, hf, if_true, carriedFault, hp, hc]
        exact raiseCause_carried (by rwa [hrun])
      rw [h1, h3, hkeep]
      exact ⟨hrun, hnotices⟩
    · have hcarried : carriedFault (s.st n).drive.report = false := by
        unfold carriedFault
        cases hp : (s.st n).drive.report with
        | none => rfl
        | some p => exact hc p hp
      rw [h1, h3, driveFaults, if_pos hf, hcarried, raiseCause_further (by rwa [hrun])]
      simp [hrun, hnotices]
  case lid =>
    generalize hv : s.modDrive n (fun d => { d with lidReport := some r }) = v
    have htake : u = recomputeEnvelope n (lidEffect n r v) := by rw [hu, ← hv]; rfl
    have hout : v.outline = s.outline := by rw [← hv]; simp
    have hrun : (v.st n).run = (s.st n).run := by rw [← hv]; simp
    have hheat : (v.st n).heat = (s.st n).heat := by rw [← hv]; simp
    have hnotices : v.notices = s.notices := by rw [← hv]; simp
    have harb : v.arbiter = s.arbiter := by rw [← hv]; simp
    have hrep : (v.st n).drive.lidReport = some r := by rw [← hv]; simp
    have hcur : v.curStep n = s.curStep n := curStep_of_run hout hrun
    obtain ⟨h1, h2, h3, h4⟩ := recomputeEnvelope_agrees htake
    have hur : (u.st n).run = ((lidEffect n r v).st n).run := by rw [htake]; simp
    have hun : u.notices = (lidEffect n r v).notices := by rw [htake]; simp
    refine ⟨h4.trans ((lidEffect_lidReport ..).trans hrep), h1, h2, h3, by rw [hu]; simp [OnlyRuns], fun hq => ?quiet,
      fun hr hp hb hsil => ?locking, fun hr hp hlk => ⟨fun hlost => ?lost, fun hc hl => ?_⟩⟩
    case quiet =>
      have hkeep : lidEffect n r v = v := by
        refine lidEffect_quiet ?_ (.inl ?_)
        · rw [hrun]
          obtain h | h | ⟨h, -⟩ := hq <;> simp [h]
        · rw [Bool.eq_false_iff, Ne, losesLid_iff, hrun, hcur]
          obtain h | h | ⟨-, h⟩ := hq <;> simp [h]
      rw [hkeep] at htake hur hun
      refine ⟨hur.trans hrun, ?_, ?_, hun.trans hnotices⟩ <;> rw [htake]
      · rw [recomputeEnvelope_heat, hheat]
      · rw [recomputeEnvelope_arbiter, harb]
    case locking =>
      have hact : lidEffect n r v = actOnLid n v := lidEffect_locking (by rw [hrun, hr]) (by rw [hrun, hp])
      rw [hact] at htake hur hun
      have hsilv : v.silent n .lid = false := by rw [silent_of hout, hsil]
      have hlock : v.lidLocked n = (r.closed && r.locked) := by
        have hsome : (v.st n).binding.lid.isSome = true := by
          rw [binding_of hout]; exact Option.isSome_iff_ne_none.mpr hb
        simp [State.lidLocked, hsilv, hrep, hsome]
      refine ⟨fun hc hl ha => ?_, fun hc hl ha => ?_, fun hc hl hd => ?send, fun hc hl hd => ?_, fun hc => ?_⟩
      · rw [hur, actOnLid_of_locked (by rw [hlock, hc, hl]; rfl), leaveLocking_active (by rw [hrun, ha]; simp), enterActive_run]
        exact ⟨rfl, rfl⟩
      · rw [hur, actOnLid_of_locked (by rw [hlock, hc, hl]; rfl), leaveLocking_basing (by rw [hrun, ha]), enterBasing_run]
        exact ⟨rfl, rfl⟩
      case send =>
        obtain ⟨k, hk⟩ := Option.ne_none_iff_exists'.mp hb
        have hkv : (v.st n).binding.lid = some k := by rw [binding_of hout, hk]
        rw [actOnLid_closed hsilv hrep hc hl (by rw [hrun, hd]), lockLid_bound hkv] at htake hur
        have hdrive : ∀ w : State, w = (originate (.lidSet n) k [0] (v.modDrive n (fun d =>
            { d with lidCommand := some .lock, pendingUnlock := false }))).modRun n (fun r => { r with deadline := some 3000 }) →
            (w.st n).drive.pendingUnlock = false ∧ (w.st n).drive.lidCommand = some .lock := by
          rintro w rfl
          simp
        obtain ⟨hpend, hcmd⟩ := hdrive _ rfl
        obtain ⟨hcmd', hpend'⟩ := recomputeEnvelope_lidCommand hpend
        rw [← htake] at hcmd' hpend'
        refine ⟨by rw [hur]; simp [hrun], hcmd'.trans hcmd, hpend', fun k' hk' hp' => ?_⟩
        rw [hk] at hk'
        cases hk'
        rw [htake]
        refine unsent_recomputeDrive (.inr (by rw [modDrive_st_drive]; exact hpend)) (by simp) (unsent_modDrive ?_)
        refine unsent_of (by simp) (by simp) (unsent_originate (s := v.modDrive n (fun d =>
          { d with lidCommand := some .lock, pendingUnlock := false })) ?_)
        rw [health_of (s := s) (by simp [hout])]
        exact hp'
      · obtain ⟨d, hd⟩ := Option.ne_none_iff_exists'.mp hd
        have hkeep : v.lidDeadline n (s.st n).run.deadline = (s.st n).run.deadline := by
          simp [State.lidDeadline, hsilv, hrep, hc, hd]
        rw [hur, actOnLid_run_of_unlocked (by rw [hlock, hl]; simp), hrun, hkeep]
      · rw [hur, actOnLid_run_of_unlocked (by rw [hlock, hc]; simp), hrun]
        simp [State.lidDeadline, hsilv, hrep, hc]
    case lost =>
      have hlose : v.losesLid n = true := (losesLid_iff v n).mpr ⟨by rw [hrun, hr], by rw [hrun, hp], by rw [hcur, hlk]⟩
      rw [lidEffect_lost hlose hlost] at htake hur hun
      refine ⟨by rw [hur, pauseStation_run, hrun, hp], by rw [hun, pauseStation_bits, hnotices], ?_⟩
      obtain ⟨⟨e1, e2, e3⟩, -, -⟩ := recomputeEnvelope_rest (s := pauseStation n .lid v) (n := n) (by simp) (by simp)
      have hrest := atRest_pauseStation n .lid v
      unfold AtRest at hrest ⊢
      rw [htake, e1, e2, e3, recomputeEnvelope_heat]
      obtain ⟨-, -, -, hheat⟩ := hrest
      exact ⟨rfl, rfl, rfl, hheat⟩
    · have hkeep : lidEffect n r v = v := lidEffect_quiet (by rw [hrun, hp]; simp) (.inr ⟨hc, hl⟩)
      rw [hkeep] at hur hun
      exact ⟨hur.trans hrun, hun.trans hnotices⟩

end Sys2Proof.Machine

/-! PROOFS. The speed follows its inputs (R115 to R117): what the step engine and the samples leave of it. -/

namespace Sys2Proof.Machine

open Sys2Proof

/-! ### A station whose speed agrees with its inputs -/

/-- The drive fields of station `n` agree with their inputs (R115 to R117). -/
def State.driven (s : State) (n : StationId) : Prop :=
  (s.st n).drive.envelope = s.envelopeOf n ∧
    (s.st n).drive.requested = (s.requestOf n).1 ∧ (s.st n).drive.requestedDir = (s.requestOf n).2 ∧
    (s.st n).drive.commanded = min (s.st n).drive.requested (s.st n).drive.envelope ∧
    (s.st n).drive.commandedDir = (s.st n).drive.requestedDir ∧
    ((s.st n).drive.clamped = true ↔ (s.st n).drive.commanded < (s.st n).drive.requested)

theorem driveSound_iff (s : State) : DriveSound s ↔ ∀ n, s.driven n := Iff.rfl

/-- The envelope of station `n` agrees with its inputs (R115). -/
def State.enveloped (s : State) (n : StationId) : Prop := (s.st n).drive.envelope = s.envelopeOf n

theorem State.driven.enveloped {s : State} {n : StationId} (h : s.driven n) : s.enveloped n := h.1

/-- The drive fields that speed and request are made of. -/
def DriveContext.speeds (d : DriveContext) :
    (Nat × Nat × Direction × Nat × Direction) × Bool × Nat × Direction × Option LidReport :=
  ((d.envelope, d.requested, d.requestedDir, d.commanded, d.commandedDir), d.clamped, d.manualSpeed, d.manualDir, d.lidReport)

theorem speeds_eq_iff {d e : DriveContext} : d.speeds = e.speeds ↔ (d.envelope = e.envelope ∧ d.requested = e.requested ∧
    d.requestedDir = e.requestedDir ∧ d.commanded = e.commanded ∧ d.commandedDir = e.commandedDir) ∧ d.clamped = e.clamped ∧
    d.manualSpeed = e.manualSpeed ∧ d.manualDir = e.manualDir ∧ d.lidReport = e.lidReport := by
  simp [DriveContext.speeds]

theorem DriveContext.sameSpeed.speeds {d e : DriveContext} (h : d.sameSpeed e) : d.speeds = e.speeds := by
  obtain ⟨h1, h2, h3, h4, h5, h6, h7, h8, -, -, -, -, -, h9, -⟩ := h.fields
  exact speeds_eq_iff.mpr ⟨⟨h6, h1, h2, h3, h4⟩, h5, h7, h8, h9⟩

/-- The run fields that the request is made of (R25). -/
def RunContext.asks (r : RunContext) : RunState × Option Phase × Option Nat × Option Direction × Option Nat :=
  (r.state, r.phase, r.step, r.reversal, r.speedOverride)

section
variable {s t : State} {n : StationId}

/-- What the request of a station reads. -/
theorem requestOf_of (hrun : (t.st n).run.asks = (s.st n).run.asks) (hsteps : (t.st n).steps = (s.st n).steps)
    (hd : (t.st n).drive.speeds = (s.st n).drive.speeds) : t.requestOf n = s.requestOf n := by
  obtain ⟨⟨-, -, hdir, -, -⟩, -, hspeed, hmdir, -⟩ := speeds_eq_iff.mp hd
  simp only [RunContext.asks, Prod.mk.injEq] at hrun
  obtain ⟨hstate, hphase, hstep, hrev, hover⟩ := hrun
  have hcur : t.curStep n = s.curStep n := by simp only [State.curStep, hstep, hsteps]
  unfold State.requestOf
  simp only [hstate, hphase, hrev, hover, hcur, hdir, hspeed, hmdir]

theorem driven_of (he : t.envelopeOf n = s.envelopeOf n) (hr : t.requestOf n = s.requestOf n)
    (hd : (t.st n).drive.speeds = (s.st n).drive.speeds) (h : s.driven n) : t.driven n := by
  obtain ⟨⟨h1, h2, h3, h4, h5⟩, h6, -⟩ := speeds_eq_iff.mp hd
  unfold State.driven
  rw [h1, h2, h3, h4, h5, h6, he, hr]
  exact h

/-- The speed stays in agreement where outline, request, bowl temperature and speed stay. -/
theorem driven_keep (h : s.driven n) (hout : t.outline = s.outline) (hrun : (t.st n).run.asks = (s.st n).run.asks)
    (hbowl : (t.st n).heat.bowl = (s.st n).heat.bowl) (hd : (t.st n).drive.speeds = (s.st n).drive.speeds) : t.driven n := by
  obtain ⟨-, -, -, -, hlid⟩ := speeds_eq_iff.mp hd
  exact driven_of (envelopeOf_bowl hout hbowl hlid) (requestOf_of hrun (steps_of hout n) hd) hd h

theorem enveloped_keep (h : s.enveloped n) (hout : t.outline = s.outline)
    (hbowl : (t.st n).heat.bowl = (s.st n).heat.bowl) (henv : (t.st n).drive.envelope = (s.st n).drive.envelope)
    (hlid : (t.st n).drive.lidReport = (s.st n).drive.lidReport) : t.enveloped n := by
  unfold State.enveloped
  rw [henv, envelopeOf_bowl hout hbowl hlid]
  exact h

end

section
variable {s : State} {n : StationId}

/-- A request made again of the station that follows it is the same. -/
theorem requestOf_recomputeDrive : (recomputeDrive n s).requestOf n = s.requestOf n := by
  obtain ⟨-, hdir, -, -, -, -, hspeed, hmdir, -⟩ := (recomputeDrive_sameSpeed n s).fields
  have hcur : (recomputeDrive n s).curStep n = s.curStep n := curStep_of_run (by simp) (by simp)
  have hdir' : (composeSpeed (s.requestOf n) (s.st n).drive).requestedDir = (s.requestOf n).2 := rfl
  have hspeed' : (composeSpeed (s.requestOf n) (s.st n).drive).manualSpeed = (s.st n).drive.manualSpeed := rfl
  have hmdir' : (composeSpeed (s.requestOf n) (s.st n).drive).manualDir = (s.st n).drive.manualDir := rfl
  by_cases hi : (s.st n).run.state = .idle
  · have hreq : s.requestOf n = ((s.st n).drive.manualSpeed,
        if 0 < (s.st n).drive.manualSpeed then (s.st n).drive.manualDir else (s.st n).drive.requestedDir) := by
      simp [State.requestOf, hi]
    have hreq' : (recomputeDrive n s).requestOf n = ((s.st n).drive.manualSpeed,
        if 0 < (s.st n).drive.manualSpeed then (s.st n).drive.manualDir else (s.requestOf n).2) := by
      simp [State.requestOf, hi, hspeed.trans hspeed', hmdir.trans hmdir', hdir.trans hdir']
    rw [hreq', hreq]
    by_cases h0 : 0 < (s.st n).drive.manualSpeed <;> simp [h0]
  · by_cases ha : (s.st n).run.state = .running ∧ (s.st n).run.phase = some .active
    · rw [requestOf_active ha.1 ha.2, requestOf_active (by simpa using ha.1) (by simpa using ha.2), hcur]
      simp
    · have hreq := requestOf_rest (s := s) (n := n) hi fun hr hp => ha ⟨hr, hp⟩
      rw [requestOf_rest (s := recomputeDrive n s) (by simpa using hi) (fun hr hp => ha ⟨by simpa using hr, by simpa using hp⟩),
        hdir.trans hdir', hreq]

/-- A recomputed speed agrees with its inputs under an envelope that does (R116, R117). -/
theorem driven_recomputeDrive (h : s.enveloped n) : (recomputeDrive n s).driven n := by
  obtain ⟨h1, h2, h3, h4, h5, h6, -, -, -, -, -, -, -, h9, -⟩ := (recomputeDrive_sameSpeed n s).fields
  unfold State.driven
  rw [requestOf_recomputeDrive, envelopeOf_bowl (s := s) (by simp) (by simp) h9, h1, h2, h3, h4, h5, h6]
  exact ⟨h, rfl, rfl, rfl, rfl, by simp [composeSpeed]⟩

/-- A recomputed envelope and speed agree with their inputs (R115). -/
theorem driven_recomputeEnvelope : (recomputeEnvelope n s).driven n := by
  unfold recomputeEnvelope
  refine driven_recomputeDrive ?_
  have henv := envelopeOf_bowl (s := s) (t := s.modDrive n (fun d => { d with envelope := s.envelopeOf n })) (n := n)
    (by simp) (by simp) (by simp)
  unfold State.enveloped
  rw [henv]
  simp

theorem adoptTarget_bowl (rule : Adoption) (b : Bool) : ((adoptTarget n rule b s).st n).heat.bowl = (s.st n).heat.bowl := by
  by_cases hr : rule = .skip
  · subst hr; rfl
  · rw [adoptTarget_eq hr]
    split
    · rw [adoptedState_heat]
    · rw [setDemand_heat, adoptedState_heat]

theorem stateChanged_bowl (rule : Adoption) (b : Bool) : ((stateChanged n rule b s).st n).heat.bowl = (s.st n).heat.bowl := by
  unfold stateChanged
  rw [recomputeArbiter_heat, adoptTarget_bowl, recomputeDrive_heat]

theorem driven_stateChanged (rule : Adoption) (b : Bool) (h : s.enveloped n) : (stateChanged n rule b s).driven n := by
  have hbowl : ((stateChanged n rule b s).st n).heat.bowl = ((recomputeDrive n s).st n).heat.bowl := by
    rw [stateChanged_bowl, recomputeDrive_heat]
  exact driven_keep (driven_recomputeDrive h) (by simp) (by simp) hbowl (by rw [stateChanged_drive])

end

end Sys2Proof.Machine

/-! PROOFS. The speed follows its inputs (R115 to R117): what the step engine leaves of it. -/

namespace Sys2Proof.Machine

open Sys2Proof

theorem faultEnded_outline (n : StationId) (s : State) : (faultEnded n s).outline = s.outline := by
  unfold faultEnded
  split <;> simp

section
variable {s : State} {n : StationId}

/-! ### Operations that leave the speed alone -/

theorem driven_setNotice (b : NoticeBit) (h : s.driven n) : (setNotice b s).driven n :=
  driven_keep h (by simp) (by simp) (by simp) (by simp)

theorem driven_testUnlock (h : s.driven n) : (testUnlock n s).driven n :=
  driven_keep h (by simp) (by simp) (by simp) (testUnlock_sameSpeed n s).speeds

theorem driven_askUnlock (h : s.driven n) : (askUnlock n s).driven n :=
  driven_keep h (by simp) (by simp) (by simp) (askUnlock_sameSpeed n s).speeds

theorem driven_lockLid (h : s.driven n) : (lockLid n s).driven n :=
  driven_keep h (by simp) (by simp) (by simp) (lockLid_sameSpeed n s).speeds

theorem enveloped_modRun (f : RunContext → RunContext) (h : s.enveloped n) : (s.modRun n f).enveloped n :=
  enveloped_keep h (by simp) (by simp) (by simp) (by simp)

/-! ### Changes of state and phase (chapter 2) -/

theorem driven_enterFault (c : FaultCause) (k : Nat) (b : Bool) (h : s.enveloped n) : (enterFault n c k b s).driven n := by
  rw [enterFault_eq]
  exact driven_setNotice _ (driven_askUnlock (driven_stateChanged _ _
    (enveloped_keep h (by simp [faultEnded_outline]) (by simp) (by simp [clearedManual]) (by simp [clearedManual]))))

theorem driven_enterActive (rule : Adoption) (b : Bool) (h : s.enveloped n) : (enterActive n rule b s).driven n := by
  have hd := driven_stateChanged rule b (enveloped_modRun (fun r => { r with
      state := .running, phase := some .active, phaseAfterLock := none, savedPhase := none, pauseReason := none
      deadline := none }) h)
  unfold enterActive
  dsimp only
  split
  · exact driven_setNotice _ hd
  · exact hd

theorem driven_enterBasing (rule : Adoption) (b : Bool) (h : s.enveloped n) : (enterBasing n rule b s).driven n :=
  driven_stateChanged rule b (enveloped_modRun _ h)

theorem driven_leaveLocking (rule : Adoption) (b : Bool) (h : s.enveloped n) : (leaveLocking n rule b s).driven n := by
  unfold leaveLocking
  split
  · exact driven_enterBasing _ _ h
  · exact driven_enterActive _ _ h

/-- A change of the deadline moves no speed. -/
theorem driven_deadline (d : Option Nat) (h : s.driven n) : (s.modRun n (fun r => { r with deadline := d })).driven n :=
  driven_keep h (by simp) (by simp [RunContext.asks]) (by simp) (by simp)

theorem driven_actOnLid (h : s.driven n) : (actOnLid n s).driven n := by
  unfold actOnLid
  dsimp only
  split
  · exact driven_leaveLocking _ _ h.enveloped
  · split
    · exact driven_deadline _ h
    · split
      · exact driven_deadline _ h
      · split
        · split
          · exact h
          · exact driven_deadline _ (driven_lockLid h)
        · exact driven_deadline _ h

theorem driven_enterLocking (after : Phase) (rule : Adoption) (b : Bool) (h : s.enveloped n) :
    (enterLocking n after rule b s).driven n :=
  driven_actOnLid (driven_stateChanged rule b (enveloped_modRun _ h))

theorem driven_leaveBasing (h : s.enveloped n) : (leaveBasing n s).driven n := by
  unfold leaveBasing
  split
  · exact driven_enterLocking _ _ _ h
  · exact driven_enterActive _ _ h

theorem driven_enterStep (i : Nat) (old : Option Int) (b : Bool) (h : s.enveloped n) : (enterStep n i old b s).driven n := by
  have hr := enveloped_modRun (enteredRun i ((s.st n).slot i)) h
  unfold enterStep
  dsimp only
  split
  · exact driven_enterFault _ _ _ hr
  · split
    · exact driven_enterLocking _ _ _ hr
    · split
      · exact driven_enterBasing _ _ hr
      · exact driven_enterActive _ _ hr

theorem driven_enterIdle (unlock b : Bool) (h : s.enveloped n) : (enterIdle n unlock b s).driven n := by
  have hd := driven_stateChanged .keep b (enveloped_modRun (clearedRun .idle) h)
  unfold enterIdle
  dsimp only
  split
  · exact driven_askUnlock hd
  · exact hd

theorem driven_enterWarming (old : Option Int) (b : Bool) (h : s.enveloped n) : (enterWarming n old b s).driven n := by
  unfold enterWarming
  dsimp only
  split
  · exact driven_enterFault _ _ _ (enveloped_modRun _ h)
  · exact driven_askUnlock (driven_stateChanged _ _ (enveloped_modRun _ h))

theorem driven_endRecipe (r : StepRecord) (old : Option Int) (b : Bool) (h : s.enveloped n) :
    (endRecipe n r old b s).driven n := by
  have hn : (setNotice (.recipeEnd n) s).enveloped n := enveloped_keep h (by simp) (by simp) (by simp) (by simp)
  unfold endRecipe
  dsimp only
  split
  · exact driven_enterWarming _ _ hn
  · exact driven_enterIdle _ _ hn

theorem enveloped_endStep (o : StepOutcome) (h : s.enveloped n) : (endStep n o s).enveloped n :=
  enveloped_keep h (by simp) (by simp) (by simp) (by simp)

theorem driven_finishStep (o : StepOutcome) (b : Bool) (h : s.enveloped n) : (finishStep n o b s).driven n := by
  have he := enveloped_modRun (fun r => { r with
    loopCounter := (nextStep (s.curStep n) ((s.st n).run.step.getD 0) (s.st n).run.loopCounter).2 }) (enveloped_endStep o h)
  rw [finishStep_eq]
  split
  · exact driven_enterStep _ _ _ he
  · exact driven_endRecipe _ _ _ he

theorem driven_pauseStation (why : PauseReason) (h : s.enveloped n) : (pauseStation n why s).driven n :=
  driven_setNotice _ (driven_stateChanged _ _ (enveloped_modRun _ h))

/-- A further fault leaves what the request reads. -/
theorem driven_furtherFault (h : s.driven n) : (furtherFault n s).driven n :=
  driven_setNotice _ (driven_keep h (by simp) (by simp [RunContext.asks]) (by simp) (by simp))

theorem driven_raiseCause (c : FaultCause) (b : Bool) (h : s.driven n) : (raiseCause n c b s).driven n := by
  unfold raiseCause
  split
  · split
    · exact h
    · exact driven_furtherFault h
  · exact driven_enterFault _ _ _ h.enveloped

theorem driven_raiseSilence (c : FaultCause) (b : Bool) (h : s.driven n) : (raiseSilence n c b s).driven n := by
  unfold raiseSilence
  split
  · exact driven_furtherFault h
  · split
    · exact driven_enterFault _ _ _ h.enveloped
    · exact h

end

end Sys2Proof.Machine

/-! PROOFS. The speed follows its inputs (R115 to R117): what samples, reports, silences and requests leave of it. -/

namespace Sys2Proof.Machine

open Sys2Proof

/-- The speed stays in agreement where everything stays that it is made of. -/
theorem driven_of_inputs {s t : State} {n : StationId} (h : s.driven n) (htab : (t.st n).sameTables (s.st n))
    (hsil : t.silent n .lid = s.silent n .lid) (hrun : (t.st n).run.asks = (s.st n).run.asks)
    (hbowl : (t.st n).heat.bowl = (s.st n).heat.bowl) (hd : (t.st n).drive.speeds = (s.st n).drive.speeds) : t.driven n := by
  obtain ⟨hsteps, -, hbind, hlim, -⟩ := htab
  obtain ⟨-, -, -, -, hlid⟩ := speeds_eq_iff.mp hd
  have hlock : t.lidLocked n = s.lidLocked n := by simp only [State.lidLocked, hbind, hsil, hlid]
  have hhot : (t.st n).hot = (s.st n).hot := by simp only [Station.hot, hbowl, hlim]
  exact driven_of (by simp only [State.envelopeOf, hlock, hhot, hlim]) (requestOf_of hrun hsteps hd) hd h

theorem silent_of_nodes {s t : State} (hn : t.nodes = s.nodes) {n : StationId} (hb : (t.st n).binding = (s.st n).binding)
    (r : Role) : t.silent n r = s.silent n r := by
  have hentry : t.nodeEntry = s.nodeEntry := by
    funext k
    have hat : t.entryAt = s.entryAt := funext (entryAt_of_nodes hn)
    simp only [State.nodeEntry, State.nodeIndex, hn, hat]
  simp only [State.silent, hentry, hb]

section
variable {s : State} {n : StationId}

theorem driven_modSt {f : Station → Station} (h : s.driven n) (htab : (f (s.st n)).sameTables (s.st n))
    (hrun : (f (s.st n)).run.asks = (s.st n).run.asks) (hbowl : (f (s.st n)).heat.bowl = (s.st n).heat.bowl)
    (hd : (f (s.st n)).drive.speeds = (s.st n).drive.speeds) : (s.modSt n f).driven n :=
  driven_of_inputs h (sameTables_modSt htab n) (silent_of_nodes (by simp) (by simpa using htab.2.2.1) _) (by simpa using hrun)
    (by simpa using hbowl) (by simpa using hd)

/-! ### The weigh unit (chapter 3) -/

theorem driven_modWeigh (f : WeighContext → WeighContext) (h : s.driven n) : (s.modWeigh n f).driven n :=
  driven_keep h (by simp) (by simp) (by simp) (by simp)

theorem driven_endOp (o : OpOutcome) (h : s.driven n) : (endOp n o s).driven n :=
  driven_keep h (by simp) (by simp [endOp]) (by simp [endOp]) (by simp [endOp])

theorem driven_weighStep (h : s.driven n) : (weighStep n s).driven n := by
  unfold weighStep
  dsimp only
  split
  · split
    · split
      · exact driven_finishStep _ _ h.enveloped
      · exact h
    · exact h
  · split
    · exact driven_leaveBasing (enveloped_modRun _ h.enveloped)
    · exact h
  · exact h

theorem driven_changeTare (t : Int) (h : s.driven n) : (changeTare n t s).driven n :=
  driven_keep h (by simp) (by simp [changeTare, RunContext.asks]) (by simp [changeTare]) (by simp [changeTare])

theorem driven_advanceOp (x : WeighSample) (h : s.driven n) : (advanceOp n x s).driven n := by
  unfold advanceOp
  dsimp only
  split
  · exact h
  · split
    · exact driven_endOp _ (driven_changeTare _ h)
    · exact h
  · split
    · exact driven_keep h (by simp) (by simp [completeZero, endOp]) (by simp [completeZero, endOp])
        (by simp [completeZero, endOp])
    · exact driven_modWeigh _ h
  · split
    · unfold completeCalibrate
      dsimp only
      split
      · exact driven_endOp _ (driven_modWeigh _ h)
      · exact driven_endOp _ (driven_modSt (driven_modWeigh _ h) ⟨rfl, rfl, rfl, rfl, rfl⟩ rfl rfl rfl)
    · exact driven_modWeigh _ h

theorem driven_takeWeighSample (x : WeighSample) (h : s.driven n) : (takeWeighSample n x s).driven n := by
  have accept : ∀ v : State, v.driven n → (acceptSample n x v).driven n := fun v hv =>
    driven_advanceOp x (driven_weighStep (driven_modWeigh _ hv))
  have count : ∀ c, (countStation n c s).driven n := fun c => driven_keep h (by simp) (by simp) (by simp) (by simp)
  unfold takeWeighSample
  split
  · exact accept _ h
  · split
    · exact count _
    · split
      · exact accept _ h
      · exact accept _ (count _)

/-! ### Temperature, heater, drive and lid (chapters 4 and 6) -/

theorem driven_tempStep (t : Int) (h : s.driven n) : (tempStep n t s).driven n := by
  unfold tempStep
  dsimp only
  split
  · exact driven_finishStep _ _ h.enveloped
  · exact h

theorem driven_setDemand (d : Nat) (h : s.driven n) : (setDemand n d s).driven n :=
  driven_keep h (by simp) (by simp) (by simp) (by simp)

theorem driven_thermoDemand (t : Int) (grant demand : Nat) (h : s.driven n) :
    (thermoDemand n t grant demand s).driven n := by
  have integral : ∀ i, (s.modHeat n (fun h => { h with integral := i })).driven n := fun i =>
    driven_keep h (by simp) (by simp) (by simp) (by simp)
  unfold thermoDemand
  dsimp only
  split
  · exact driven_setDemand _ h
  · split
    · exact driven_setDemand _ (integral 0)
    · split
      · exact driven_setDemand _ h
      · exact driven_setDemand _ (integral _)

theorem driven_retestReached (h : s.driven n) : (retestReached n s).driven n :=
  driven_keep h (by simp) (by simp) (by simp) (by simp)

/-- A good sample recomputes the envelope; a sensor fault leaves the bowl temperature (R90, R91). -/
theorem driven_takeThermoSample (t : Int) (fault : Bool) (h : s.driven n) : (takeThermoSample n t fault s).driven n := by
  unfold takeThermoSample
  dsimp only
  split
  · next hf =>
    subst hf
    simp only [thermoFaults, if_true]
    exact driven_raiseCause _ _ (driven_keep h (by simp) (by simp) (by simp [storeThermo]) (by simp))
  · exact driven_thermoDemand _ _ _ (driven_retestReached (driven_tempStep _ driven_recomputeEnvelope))

theorem driven_takeHeatState (r : HeatReport) (h : s.driven n) : (takeHeatState n r s).driven n := by
  have stored : (s.modHeat n (fun h => { h with report := some r })).driven n :=
    driven_keep h (by simp) (by simp) (by simp) (by simp)
  unfold takeHeatState
  dsimp only
  split
  · exact driven_raiseCause _ _ stored
  · exact stored

theorem driven_takeDriveState (r : DriveReport) (h : s.driven n) : (takeDriveState n r s).driven n := by
  have stored : (s.modDrive n (fun d => { d with report := some r })).driven n :=
    driven_keep h (by simp) (by simp) (by simp) (by simp [DriveContext.speeds])
  have draw : ∀ v : State, v.driven n → (testUnlock n (setDraw n r.draw v)).driven n := fun v hv =>
    driven_testUnlock (driven_keep hv (by simp) (by simp) (by simp) (by simp))
  unfold takeDriveState
  dsimp only
  split
  · exact draw _ (driven_raiseCause _ _ stored)
  · exact draw _ stored

/-! ### Manual demands (R99, R121 to R123) -/

theorem driven_dropManualSpeed (h : s.enveloped n) : (dropManualSpeed n s).driven n :=
  driven_recomputeDrive (enveloped_keep h (by simp) (by simp) (by simp) (by simp))

theorem driven_followManualHeat (h : s.driven n) : (followManualHeat n s).driven n := by
  unfold followManualHeat
  split
  · exact driven_setDemand _ h
  · exact h

theorem driven_dropManualHeat (h : s.driven n) : (dropManualHeat n s).driven n :=
  driven_followManualHeat (driven_keep h (by simp) (by simp) (by simp) (by simp [DriveContext.speeds]))

theorem driven_manualSpeed (v : Nat) (dir : Direction) (h : s.enveloped n) : (manualSpeed n v dir s).driven n :=
  driven_recomputeDrive (enveloped_keep h (by simp) (by simp) (by simp) (by simp))

theorem driven_manualHeat (w : Nat) (h : s.driven n) : (manualHeat n w s).driven n :=
  driven_followManualHeat (driven_keep h (by simp) (by simp) (by simp) (by simp [DriveContext.speeds]))

theorem driven_manualLid (c : LidCmd) (h : s.driven n) : (manualLid n c s).driven n := by
  have told : (s.modDrive n (fun d => { d with manualLid := some c })).driven n :=
    driven_keep h (by simp) (by simp) (by simp) (by simp [DriveContext.speeds])
  cases c with
  | lock => exact driven_lockLid (driven_keep told (by simp) (by simp) (by simp) (by simp [DriveContext.speeds]))
  | unlock => exact driven_askUnlock told

/-! ### Silences and isolation (R51, R126, R178) -/

theorem driven_weighSilence (h : s.driven n) : (weighSilence n s).driven n := by
  have flushed : (s.modWeigh n (fun w => { flushRing w with stale := true })).driven n := driven_modWeigh _ h
  unfold weighSilence
  dsimp only
  split
  · exact driven_raiseSilence _ _ flushed
  · exact driven_raiseSilence _ _ (driven_endOp _ flushed)

theorem driven_thermoSilence (h : s.driven n) : (thermoSilence n s).driven n := by
  have idle : (s.modHeat n (fun h => { h with integral := 0, reached := false })).driven n :=
    driven_keep h (by simp) (by simp) (by simp) (by simp)
  unfold thermoSilence
  dsimp only
  split
  · exact driven_raiseSilence _ _ (driven_setDemand _ (driven_keep idle (by simp) (by simp) (by simp)
      (by simp [DriveContext.speeds])))
  · exact driven_raiseSilence _ _ (driven_setDemand _ idle)

theorem driven_heaterSilence (h : s.driven n) : (heaterSilence n s).driven n :=
  driven_raiseSilence _ _ (driven_keep h (by simp) (by simp) (by simp) (by simp))

theorem driven_driveSilence (h : s.driven n) : (driveSilence n s).driven n := by
  have waits : (s.modDrive n (fun d => { d with spinDown := some Config.spinDownMs })).driven n :=
    driven_keep h (by simp) (by simp) (by simp) (by simp [DriveContext.speeds])
  unfold driveSilence
  dsimp only
  split
  · exact driven_raiseSilence _ _ (driven_dropManualSpeed waits.enveloped)
  · exact driven_raiseSilence _ _ waits

/-- A station told of a silence: the LID role recomputes the envelope, and another role leaves its inputs. -/
theorem driven_roleSilent (r : Role) (h : r = .lid ∨ s.driven n) : (roleSilent n r s).driven n := by
  cases r with
  | lid => exact driven_recomputeEnvelope
  | drive => exact driven_driveSilence (h.resolve_left (by simp))
  | heater => exact driven_heaterSilence (h.resolve_left (by simp))
  | weigh => exact driven_weighSilence (h.resolve_left (by simp))
  | thermo => exact driven_thermoSilence (h.resolve_left (by simp))

theorem driven_roleHeard (r : Role) (h : r = .lid ∨ s.driven n) : (roleHeard n r s).driven n := by
  cases r with
  | lid => exact driven_recomputeEnvelope
  | drive =>
    have h := h.resolve_left (by simp)
    show (s.modDrive n _).driven n
    exact driven_keep h (by simp) (by simp) (by simp) (by simp [DriveContext.speeds])
  | heater =>
    have h := h.resolve_left (by simp)
    show (recomputeArbiter (followDemand n s)).driven n
    exact driven_keep h (by simp) (by simp) (by simp) (by simp)
  | weigh => exact h.resolve_left (by simp)
  | thermo => exact h.resolve_left (by simp)

theorem driven_isolateStation (h : s.driven n) : (isolateStation n s).driven n := by
  unfold isolateStation
  split
  · exact driven_dropManualHeat (driven_dropManualSpeed h.enveloped)
  · exact driven_raiseSilence _ _ h

/-! ### Requests (sections 1.4, 1.5 and 2.6) -/

theorem driven_startStation (first : Nat) (h : s.enveloped n) : (startStation n first s).driven n := by
  have dropped : (dropManualSpeed n (s.modDrive n (fun d => { d with pendingUnlock := false }))).enveloped n :=
    (driven_dropManualSpeed (enveloped_keep h (by simp) (by simp) (by simp) (by simp))).enveloped
  exact driven_enterStep _ _ _ (enveloped_modRun _ (enveloped_keep dropped (by simp) (by simp) (by simp [clearedManual])
    (by simp [clearedManual])))

theorem driven_resumeStation (h : s.enveloped n) : (resumeStation n s).driven n := by
  unfold resumeStation
  split
  · exact driven_enterFault _ _ _ h
  · unfold resumePhase
    dsimp only
    split
    · split
      · exact driven_actOnLid (driven_stateChanged _ _ (enveloped_modRun _ h))
      · exact driven_leaveLocking _ _ h
    · split
      · exact driven_enterLocking _ _ _ h
      · exact driven_enterBasing _ _ h
    · split
      · exact driven_enterLocking _ _ _ h
      · exact driven_enterActive _ _ h

/-- An ADJUST without a speed override leaves the request. -/
theorem driven_adjustStation (a : Adjustment) (h : s.driven n) : (adjustStation n a s).driven n := by
  have heat : ∀ (before : Option Int) (v : State), v.driven n → (adjustHeat n before a v).driven n := by
    intro before v hv
    unfold adjustHeat
    split
    · split
      · exact driven_enterFault _ _ _ hv.enveloped
      · exact driven_keep hv (by simp) (by simp) (adoptTarget_bowl ..) (by simp)
    · exact hv
  unfold adjustStation
  refine heat _ _ ?_
  split
  · exact driven_recomputeDrive (enveloped_modRun _ h.enveloped)
  · next hs =>
    have hs : a.speed = none := by simpa using hs
    exact driven_keep h (by simp) (by simp [RunContext.asks, adjustRun, hs]) (by simp) (by simp)

end

end Sys2Proof.Machine

/-! PROOFS. The speed follows its inputs (R115 to R117): the node table's part of it, and every step. -/

namespace Sys2Proof.Machine

open Sys2Proof

/-! ### The silence of the LID role in the node table (R139) -/

/-- The LID role of a station is silent where the entry of its node is. -/
theorem lidSilent_iff {s : State} (hs : NodesSound s) (n : StationId) :
    s.silent n .lid = true ↔ ∃ k, (s.st n).binding.get .lid = some k ∧ s.knows k (fun e => e.silent = true) := by
  unfold State.silent
  cases hb : (s.st n).binding.get .lid with
  | none => simp
  | some k =>
    have hk := nodeEntry_iff hs.1 (k := k) (p := fun e => e.silent = true)
    cases he : s.nodeEntry k <;> simp [he, ← hk]

theorem lidSilent_of_knows {s t : State} (hs : NodesSound s) (ht : NodesSound t) {n : StationId}
    (hb : (t.st n).binding = (s.st n).binding)
    (h : ∀ k, (s.st n).binding.get .lid = some k →
      (t.knows k (fun e => e.silent = true) ↔ s.knows k (fun e => e.silent = true))) :
    t.silent n .lid = s.silent n .lid := by
  rw [Bool.eq_iff_iff, lidSilent_iff hs, lidSilent_iff ht, hb]
  exact exists_congr fun k => and_congr_right fun hk => h k hk

/-- An entry written in place tells the same of a number when the new contents tell what the old ones did. -/
theorem knows_setEntry {s : State} {i : Nat} {f : NodeEntry} (hi : i < 16) {k : NodeId} {p : NodeEntry → Prop}
    (h : (f.number = k ∧ p f) ↔ ∃ e, s.entryAt i = some e ∧ e.number = k ∧ p e) :
    (s.setEntry i (some f)).knows k p ↔ s.knows k p := by
  constructor
  · rintro ⟨j, g, hg, hk, hp⟩
    by_cases hj : i = j
    · subst hj
      rw [entryAt_setEntry_same hi] at hg
      cases hg
      obtain ⟨e, he, hek, hep⟩ := h.mp ⟨hk, hp⟩
      exact ⟨i, e, he, hek, hep⟩
    · rw [entryAt_setEntry_ne hj] at hg
      exact ⟨j, g, hg, hk, hp⟩
  · rintro ⟨j, g, hg, hk, hp⟩
    by_cases hj : i = j
    · subst hj
      obtain ⟨hfk, hfp⟩ := h.mpr ⟨g, hg, hk, hp⟩
      exact ⟨i, f, entryAt_setEntry_same hi, hfk, hfp⟩
    · exact ⟨j, g, by rw [entryAt_setEntry_ne hj]; exact hg, hk, hp⟩

section
variable {s : State} {n : StationId}

/-- The speed stays in agreement where the table is written for a number that is not the LID role's, or tells the same. -/
theorem driven_setEntry {i : Nat} {f : NodeEntry} (hs : NodesSound s) (ht : NodesSound (s.setEntry i (some f))) (hi : i < 16)
    (h : ∀ k, (s.st n).binding.get .lid = some k →
      ((f.number = k ∧ f.silent = true) ↔ ∃ e, s.entryAt i = some e ∧ e.number = k ∧ e.silent = true))
    (hd : s.driven n) : (s.setEntry i (some f)).driven n :=
  driven_of_inputs hd (sameTables_of_eq (by simp))
    (lidSilent_of_knows hs ht (by simp) fun k hk => knows_setEntry hi (h k hk)) (by simp) (by simp) (by simp)

/-- An entry that is rewritten tells nothing new of a LID role that does not hold its number. -/
theorem driven_setEntry_other {i : Nat} {e f : NodeEntry} (hs : NodesSound s) (ht : NodesSound (s.setEntry i (some f)))
    (he : s.entryAt i = some e) (hn : f.number = e.number) (hb : (s.st n).binding.get .lid ≠ some e.number)
    (hd : s.driven n) : (s.setEntry i (some f)).driven n :=
  driven_setEntry hs ht (entryAt_lt he) (fun k hk => by
    have hne : e.number ≠ k := fun h => hb (h ▸ hk)
    simp [he, hn, hne]) hd

/-- A role that holds a node is the one the table names. -/
theorem bound_of_boundAs {k : NodeId} {r : Role} (h : s.boundAs k = some (n, r)) : (s.st n).binding.get r = some k := by
  have held : ∀ {b : Binding}, roleOf b k = some r → b.get r = some k := fun hb => by
    simpa using List.find?_some hb
  unfold State.boundAs at h
  split at h
  · next q hq => cases h; exact held hq
  · obtain ⟨q, hq, hr⟩ := Option.map_eq_some_iff.mp h
    cases hr
    exact held hq

/-- A step that leaves a station and the node table. -/
theorem driven_still {s t : State} {n : StationId} (h : s.driven n) (hn : t.nodes = s.nodes) (hst : t.st n = s.st n) :
    t.driven n :=
  driven_of_inputs h (sameTables_of_eq hst) (silent_of_nodes hn (by rw [hst]) _) (by rw [hst]) (by rw [hst]) (by rw [hst])

/-- An operation on one station keeps the other's speed in agreement. -/
theorem driven_at {s t : State} {n : StationId} (hn : t.nodes = s.nodes)
    (ho : t.st (otherStation n) = s.st (otherStation n)) (h : s.driven n → t.driven n) (m : StationId) (hm : s.driven m) :
    t.driven m := by
  by_cases hmn : m = n
  · subst hmn; exact h hm
  · obtain rfl := eq_otherStation_of_ne hmn
    exact driven_still hm hn ho

/-- A station that an entry's node is told to hears of it, where every other keeps its speed. -/
theorem driven_told {act : StationId → Role → State → State} {t : State} {k : NodeId}
    (hact : ∀ {n r} {v : State}, (r = .lid ∨ v.driven n) → (act n r v).driven n)
    (hout : ∀ n r v, (act n r v).outline = v.outline)
    (hother : ∀ n r v, (act n r v).st (otherStation n) = v.st (otherStation n))
    {m r : _} (hb : (t.st m).binding.get r = some k)
    (honce : ∀ n m r q k, (t.st n).binding.get r = some k → (t.st m).binding.get q = some k → n = m ∧ r = q)
    (h : (t.st n).binding.get .lid ≠ some k → t.driven n) : (act m r t).driven n := by
  have lidHolds : (t.st n).binding.get .lid = some k → n = m ∧ Role.lid = r := fun hl => honce _ _ _ _ _ hl hb
  by_cases hn : n = m
  · subst hn
    refine hact ?_
    by_cases hr : r = .lid
    · exact .inl hr
    · exact .inr (h fun hl => hr (lidHolds hl).2.symm)
  · exact driven_at (nodes_of (hout ..)) (hother ..) (fun hm => hact (.inr hm)) n (h fun hl => hn (lidHolds hl).1)

theorem driven_becomeSilent {i : Nat} {e : NodeEntry} (hs : NodesSound s) (he : s.entryAt i = some e)
    (ho : e.origin = .static) (hd : s.driven n) : (becomeSilent i e s).driven n := by
  have ht : NodesSound (s.setEntry i (some { e with silent := true })) :=
    nodesSound_setEntry_same hs he rfl (fun hl => by simp [ho] at hl) fun _ _ _ hm => hm
  have marked : (s.st n).binding.get .lid ≠ some e.number →
      (setNotice .nodeSilent (s.setEntry i (some { e with silent := true }))).driven n := fun hb =>
    driven_setNotice _ (driven_setEntry_other hs ht he rfl hb hd)
  have bindings : ∀ m, ((setNotice .nodeSilent (s.setEntry i (some { e with silent := true }))).st m).binding =
      (s.st m).binding := by simp
  unfold becomeSilent
  dsimp only
  split
  · next m r hm =>
    refine driven_told (act := roleSilent) (driven_roleSilent _) (by simp) (by simp) (bound_of_boundAs hm) ?_ ?_
    · simpa only [bindings] using hs.2.2.2.1
    · simpa only [bindings] using marked
  · next hm =>
    refine marked ?_
    rw [← bindings]
    exact not_bound_of_boundAs hm _ _

theorem driven_hearNode {i : Nat} {e : NodeEntry} (hs : NodesSound s) (he : s.entryAt i = some e) (hd : s.driven n) :
    (hearNode i e s).driven n := by
  have ht : NodesSound (s.setEntry i (some { e with age := 0, silent := false })) :=
    nodesSound_setEntry_same hs he rfl (fun hl => ⟨((hs.2.1 i e he).2.2 hl).1, rfl⟩) fun _ _ _ hm => hm
  have heard : (s.st n).binding.get .lid ≠ some e.number →
      (s.setEntry i (some { e with age := 0, silent := false })).driven n := fun hb =>
    driven_setEntry_other hs ht he rfl hb hd
  unfold hearNode
  dsimp only
  split
  · split
    · next m r hm =>
      refine driven_told (act := roleHeard) (driven_roleHeard _) (by simp) (by simp) (bound_of_boundAs hm) ?_ ?_
      · simpa only [setEntry_st] using hs.2.2.2.1
      · simpa only [setEntry_st] using heard
    · next hm =>
      refine heard ?_
      have := not_bound_of_boundAs hm n .lid
      simpa using this
  · next hq => exact driven_setEntry hs ht (entryAt_lt he) (fun k _ => by simp [he, hq]) hd

end

end Sys2Proof.Machine

/-! PROOFS. The speed follows its inputs (R115 to R117): every step keeps it so. -/

namespace Sys2Proof.Machine

open Sys2Proof

/-! ### The rest of the node table -/

/-- A removal of entries that no role holds. -/
theorem driven_removed {s t : State} {n : StationId} {gone : NodeEntry → Bool} (hs : NodesSound s) (ht : NodesSound t)
    (htab : (t.st n).sameTables (s.st n)) (hat : ∀ i, t.entryAt i = (s.entryAt i).filter (fun e => !gone e))
    (hfree : ∀ i e, s.entryAt i = some e → gone e = true → (s.st n).binding.get .lid ≠ some e.number)
    (hrun : (t.st n).run = (s.st n).run) (hheat : (t.st n).heat = (s.st n).heat) (hdrive : (t.st n).drive = (s.st n).drive)
    (hd : s.driven n) : t.driven n := by
  have hb : (t.st n).binding = (s.st n).binding := htab.2.2.1
  refine driven_of_inputs hd htab (lidSilent_of_knows hs ht hb fun k hk => ?_) (by rw [hrun]) (by rw [hheat]) (by rw [hdrive])
  constructor
  · rintro ⟨i, e, he, hek, hes⟩
    rw [hat, Option.filter_eq_some_iff] at he
    exact ⟨i, e, he.1, hek, hes⟩
  · rintro ⟨i, e, he, hek, hes⟩
    refine ⟨i, e, ?_, hek, hes⟩
    rw [hat, he, Option.filter_eq_some_iff]
    refine ⟨rfl, ?_⟩
    simp only [Bool.not_eq_true']
    by_contra hg
    exact hfree i e he (by simpa using hg) (hek ▸ hk)

theorem removeEntry_contexts (i : Nat) (s : State) (n : StationId) : ((removeEntry i s).st n).run = (s.st n).run ∧
    ((removeEntry i s).st n).heat = (s.st n).heat ∧ ((removeEntry i s).st n).drive = (s.st n).drive := by
  obtain ⟨gone, hg⟩ := removeEntry_st i s n
  rw [hg]
  unfold freeLocks
  split <;> exact ⟨rfl, rfl, rfl⟩

theorem driven_removeEntry {s : State} {n : StationId} {i : Nat} {e : NodeEntry} (hs : NodesSound s)
    (he : s.entryAt i = some e) (hb : ∀ n r, (s.st n).binding.get r ≠ some e.number) (hd : s.driven n) :
    (removeEntry i s).driven n := by
  obtain ⟨hrun, hheat, hdrive⟩ := removeEntry_contexts i s n
  refine driven_removed (gone := fun f => f.number == e.number) hs (nodesSound_removeEntry hs he hb)
    (sameTables_removeEntry i s n) (fun j => ?_) (fun j f hf hg => ?_) hrun hheat hdrive hd
  · rw [removeEntry_entryAt he]
    cases hf : s.entryAt j with
    | none => simp
    | some f =>
      by_cases hj : j = i
      · subst hj
        cases hf.symm.trans he
        simp [Option.filter]
      · have hne : f.number ≠ e.number := fun h => hj (hs.1 j i f e hf he h)
        simp [hj, hne, Option.filter]
  · rw [beq_iff_eq] at hg
    rw [hg]
    exact hb n .lid

theorem driven_removeLearned {s : State} {n : StationId} {p : NodeEntry → Bool} (hs : NodesSound s)
    (hp : ∀ e, p e = true → e.origin = .learned) (hd : s.driven n) : (removeWhere p s).driven n := by
  have hst := removeWhere_st p s n
  refine driven_removed (gone := p) hs (nodesSound_removeLearned hs hp) (sameTables_removeWhere p s n)
    (removeWhere_entryAt p s) (fun i e he hg => not_bound_of_learned hs he (hp e hg) n .lid) ?_ ?_ ?_ hd
  all_goals rw [hst]; unfold freeLocks; split <;> rfl

/-- Ages tell nothing of silences (R138). -/
theorem driven_passMs {s : State} {n : StationId} (hs : NodesSound s) (hd : s.driven n) : (passMs s).driven n := by
  have silences : ∀ k, (passMs s).knows k (fun e => e.silent = true) ↔ s.knows k (fun e => e.silent = true) := by
    intro k
    refine exists_congr fun i => ?_
    obtain h | h := passMs_entryAt s i
    · rw [h]
    · rw [h]
      cases s.entryAt i <;> simp [olderEntry]
  have hst : (passMs s).st n = stationMs (s.st n) := by cases n <;> rfl
  have run : (stationMs (s.st n)).run.asks = (s.st n).run.asks := by
    simp only [stationMs, deadlineMs, warmOneMs, elapseMs, RunContext.asks]
    (repeat' split) <;> rfl
  exact driven_of_inputs hd (by rw [hst]; exact ⟨rfl, rfl, rfl, rfl, rfl⟩)
    (lidSilent_of_knows hs (nodesSound_passMs hs) (by rw [hst]; rfl) fun k _ => silences k) (by rw [hst]; exact run)
    (by rw [hst]; rfl) (by rw [hst]; rfl)

/-! ### Port events -/

@[simp] theorem setHealth_nodes (p : Port) (h : Health) (s : State) : (setHealth p h s).nodes = s.nodes := by
  unfold setHealth; split <;> simp

@[simp] theorem followCounts_nodes (p : Port) (s : State) : (followCounts p s).nodes = s.nodes := by
  unfold followCounts; split <;> simp

@[simp] theorem countDrops_nodes (p : Port) (k : Nat) (s : State) : (countDrops p k s).nodes = s.nodes := by
  induction k generalizing s with
  | zero => rfl
  | succ k ih => simp [countDrops, ih]

@[simp] theorem leftIsolation_nodes (p : Port) (s : State) : (leftIsolation p s).nodes = s.nodes :=
  nodes_of (leftIsolation_outline p s)

@[simp] theorem returnUnsent_nodes (p : Port) (e : Queued) (s : State) : (returnUnsent p e s).nodes = s.nodes :=
  nodes_of (returnUnsent_outline p e s)

@[simp] theorem enqueueTransit_nodes (p : Port) (c : QClass) (f : Frame) (s : State) :
    (enqueueTransit p c f s).nodes = s.nodes :=
  nodes_of (enqueueTransit_outline p c f s)

@[simp] theorem updateDropModes_st (s : State) (n : StationId) : (updateDropModes s).st n = s.st n := by
  simp [updateDropModes]

@[simp] theorem recoverIfMet_nodes (p : Port) (s : State) : (recoverIfMet p s).nodes = s.nodes := by
  unfold recoverIfMet; split <;> simp [recoverPort]

@[simp] theorem testUnlock_speeds (n : StationId) (s : State) (m : StationId) :
    ((testUnlock n s).st m).drive.speeds = (s.st m).drive.speeds := by
  by_cases hm : m = n
  · subst hm; exact (testUnlock_sameSpeed m s).speeds
  · unfold testUnlock
    split
    · obtain rfl := eq_otherStation_of_ne hm
      simp
    · rfl

@[simp] theorem leftIsolation_speeds (p : Port) (s : State) (m : StationId) :
    ((leftIsolation p s).st m).drive.speeds = (s.st m).drive.speeds := by
  unfold leftIsolation
  cases p
  · dsimp only; split <;> simp
  · simp

theorem recoverIfMet_speeds (p : Port) (s : State) (m : StationId) :
    ((recoverIfMet p s).st m).drive.speeds = (s.st m).drive.speeds := by
  unfold recoverIfMet
  split
  · simp [recoverPort]
  · rfl

/-- An event of a port that serves at most an unlock. -/
theorem driven_port {s t : State} {n : StationId} (hk : Sketch s t) (hn : t.nodes = s.nodes)
    (hst : (t.st n).sameButDrive (s.st n)) (hd : (t.st n).drive.speeds = (s.st n).drive.speeds) (h : s.driven n) :
    t.driven n := by
  obtain ⟨hrun, -, -, hheat⟩ := hst
  have htab := sameTables_sketch hk n
  exact driven_of_inputs h htab (silent_of_nodes hn htab.2.2.1 _) (by rw [hrun]) (by rw [hheat]) hd

theorem driven_transmitErrorAt (p : Port) (error : TxError) (s : State) (n : StationId) (h : s.driven n) :
    (transmitErrorAt p error s).driven n := by
  have isolated : ∀ v : State, v.driven n → (enterIsolated p v).driven n := by
    intro v hv
    unfold enterIsolated
    dsimp only
    split
    · refine driven_at (n := .one) (by simp) (by simp) driven_isolateStation n ?_
      refine driven_at (n := .zero) (by simp) (by simp) driven_isolateStation n ?_
      exact driven_still hv (by simp) (by simp)
    · exact driven_still hv (by simp) (by simp)
  have counted : (countPort p .transmitErrors (s.modPort p (fun q =>
      { q with tx := txAfter error (s.port p), wasTransmitter := true, voided := true }))).driven n :=
    driven_still h (by simp) (by simp)
  unfold transmitErrorAt
  dsimp only
  split
  · exact driven_still (isolated _ counted) (by simp) (by simp)
  · exact driven_still counted (by simp) (by simp)

/-! ### Every event and every request -/

theorem move_driven {s t : State} (hs : NodesSound s) (h : Move s t) (m : StationId) (hd : s.driven m) : t.driven m := by
  have hk := move_sketch h
  cases h with
  | goodFrame p =>
    exact driven_port hk (by simp [goodFrameAt]) (goodFrameAt_sameButDrive p s m)
      (by rw [goodFrameAt, recoverIfMet_speeds]; simp) hd
  | recover p => exact driven_port hk (by simp [recoverPort]) (recoverPort_sameButDrive p s m) (by simp [recoverPort]) hd
  | transmitError p e => exact driven_transmitErrorAt p e s m hd
  | passMs => exact driven_passMs hs hd
  | stepTimer n => exact driven_at (n := n) (by simp) (by simp) (fun h => driven_finishStep _ _ (enveloped_modRun _ h.enveloped)) m hd
  | reversal n => exact driven_at (n := n) (by simp) (by simp) (fun h => driven_recomputeDrive (enveloped_modRun _ h.enveloped)) m hd
  | lockingDeadline n => exact driven_at (n := n) (by simp) (by simp) (fun h => driven_enterFault _ _ _ h.enveloped) m hd
  | basingDeadline n => exact driven_at (n := n) (by simp) (by simp) (fun h => driven_leaveBasing (enveloped_modRun _ h.enveloped)) m hd
  | warmingLimit n => exact driven_at (n := n) (by simp) (by simp) (fun h => driven_enterIdle _ _ h.enveloped) m hd
  | endOp n => exact driven_at (n := n) (by simp) (by simp) (driven_endOp _) m hd
  | dropManualSpeed n => exact driven_at (n := n) (by simp) (by simp) (fun h => driven_dropManualSpeed h.enveloped) m hd
  | dropManualHeat n => exact driven_at (n := n) (by simp) (by simp) driven_dropManualHeat m hd
  | spinDown n =>
    exact driven_at (n := n) (by simp) (by simp) (fun h => driven_testUnlock (driven_keep h (by simp) (by simp) (by simp)
      (by simp [DriveContext.speeds]))) m hd
  | refresh n =>
    exact driven_at (n := n) (by simp) (by simp) (fun h => driven_testUnlock (driven_keep h (by simp) (by simp) (by simp)
      (by simp [DriveContext.speeds]))) m hd
  | weighSample n x => exact driven_at (n := n) (by simp) (by simp) (driven_takeWeighSample x) m hd
  | thermoSample n x fault => exact driven_at (n := n) (by simp) (by simp) (driven_takeThermoSample x fault) m hd
  | driveState n r => exact driven_at (n := n) (by simp) (by simp) (driven_takeDriveState r) m hd
  | heatState n r => exact driven_at (n := n) (by simp) (by simp) (driven_takeHeatState r) m hd
  | lidState n r => exact driven_at (n := n) (by simp) (by simp) (fun _ => by exact driven_recomputeEnvelope) m hd
  | manualSpeed n v dir => exact driven_at (n := n) (by simp) (by simp) (fun h => driven_manualSpeed v dir h.enveloped) m hd
  | manualHeat n w => exact driven_at (n := n) (by simp) (by simp) (driven_manualHeat w) m hd
  | manualLid n c => exact driven_at (n := n) (by simp) (by simp) (driven_manualLid c) m hd
  | removeLearned i e he hl => exact driven_removeEntry hs he (not_bound_of_learned hs he hl) hd
  | becomeSilent i e he hdue => exact driven_becomeSilent hs he (by simp_all [NodeEntry.silenceDue]) hd
  | hearNode i e he => exact driven_hearNode hs he hd
  | learn p i k hi hr hk' ho h31 =>
    obtain ⟨hlt, hfree⟩ := freeNode_spec hi
    refine driven_setEntry hs (nodesSound_sketch hs hk) hlt (fun j _ => ?_) hd
    simp [hfree, learnedEntry]
  | moveLearned p i k e hi he hl =>
    have hnum := (nodeIndex_number hi he).2
    exact driven_setEntry_other hs (nodesSound_sketch hs hk) he hnum.symm (not_bound_of_learned hs he hl m .lid) hd
  | pending | requests | emptyAccumulator => exact driven_still hd rfl (by cases m <;> rfl)
  | countStation n => exact driven_keep hd (by simp) (by simp) (by simp) (by simp)
  | reportTimer n => exact driven_at (n := n) (by simp) (by simp) (fun h => driven_modSt h ⟨rfl, rfl, rfl, rfl, rfl⟩ rfl rfl rfl) m hd
  | receiveError p error => exact driven_still hd (by simp [receiveErrorAt]) (by simp)
  | _ => exact driven_still hd (by simp) (by simp)

end Sys2Proof.Machine

/-! PROOFS. The speed follows its inputs (R115 to R117): every request and every reset keeps it so. -/

namespace Sys2Proof.Machine

open Sys2Proof

section
variable {s : State} {n : StationId}

/-- The request of an IDLE station reads its manual demand alone (R116). -/
theorem requestOf_idle (h : (s.st n).run.state = .idle) : s.requestOf n = ((s.st n).drive.manualSpeed,
    if 0 < (s.st n).drive.manualSpeed then (s.st n).drive.manualDir else (s.st n).drive.requestedDir) := by
  simp [State.requestOf, h]

/-- An edit of an IDLE station's recipe leaves its speed: its request does not read the recipe. -/
theorem driven_editRecipe {f : Station → Station} (h : s.driven n) (hi : (s.st n).run.state = .idle)
    (hrun : (f (s.st n)).run = (s.st n).run) (hdrive : (f (s.st n)).drive = (s.st n).drive)
    (hheat : (f (s.st n)).heat = (s.st n).heat) (hlim : (f (s.st n)).limits = (s.st n).limits)
    (hb : (f (s.st n)).binding = (s.st n).binding) : (s.modSt n f).driven n := by
  have hst : (s.modSt n f).st n = f (s.st n) := by simp
  have hsil := silent_of_nodes (s := s) (t := s.modSt n f) (by simp) (n := n) (by rw [hst, hb]) .lid
  have hlock : (s.modSt n f).lidLocked n = s.lidLocked n := by simp only [State.lidLocked, hst, hb, hsil, hdrive]
  have hhot : (f (s.st n)).hot = (s.st n).hot := by simp only [Station.hot, hheat, hlim]
  refine driven_of ?_ ?_ (by rw [hst, hdrive]) h
  · simp only [State.envelopeOf, hlock, hst, hlim, hhot]
  · rw [requestOf_idle hi, requestOf_idle (by rw [hst, hrun]; exact hi), hst, hdrive]

/-! ### Limits (R19, R20) -/

/-- The limits from 4 on bound no speed. -/
theorem speedLimits_setLimit {id : Nat} (h : 4 ≤ id) (l : Limits) (v : Nat) :
    (setLimit l id v).maxSpeed = l.maxSpeed ∧ (setLimit l id v).hotTemp = l.hotTemp ∧
      (setLimit l id v).hotSpeed = l.hotSpeed ∧ (setLimit l id v).openSpeed = l.openSpeed := by
  unfold setLimit
  split <;> first | omega | exact ⟨rfl, rfl, rfl, rfl⟩

theorem driven_setLimit {id : Nat} (hid : 4 ≤ id) (v : Nat) (h : s.driven n) :
    (s.modSt n (fun st => { st with limits := setLimit st.limits id v })).driven n := by
  obtain ⟨hmax, htemp, hhot, hopen⟩ := speedLimits_setLimit hid (s.st n).limits v
  have hsil := silent_of_nodes (s := s) (t := s.modSt n (fun st => { st with limits := setLimit st.limits id v }))
    (by simp) (n := n) (by simp) .lid
  refine driven_of ?_ (requestOf_of (by simp) (by simp) (by simp)) (by simp) h
  have hlock : (s.modSt n (fun st => { st with limits := setLimit st.limits id v })).lidLocked n = s.lidLocked n := by
    simp only [State.lidLocked, hsil, st_modSt]
  have hhot' : ({ s.st n with limits := setLimit (s.st n).limits id v } : Station).hot = (s.st n).hot := by
    simp only [Station.hot, htemp]
  simp only [State.envelopeOf, hlock, st_modSt, hhot', hmax, hhot, hopen]

theorem driven_applyLimit (id v : Nat) (h : s.driven n) : (applyLimit n id v s).driven n := by
  unfold applyLimit
  dsimp only
  split
  · exact driven_recomputeEnvelope
  · next hid =>
    have hl := driven_setLimit (by omega) v h (id := id)
    split
    · have clamped : ((s.modSt n (fun st => { st with limits := setLimit st.limits id v })).modDrive n
          (fun d => { d with manualHeat := min d.manualHeat v })).driven n :=
        driven_keep hl (by simp) (by simp) (by simp) (by simp [DriveContext.speeds])
      exact driven_keep (driven_followManualHeat clamped) (by simp) (by simp) (by simp) (by simp)
    · exact hl

theorem driven_applyWeighItem (id : Nat) (v : Int) (h : s.driven n) : (applyWeighItem n id v s).driven n := by
  have stored : (s.modSt n (fun st => { st with weighCfg := setWeighItem st.weighCfg id v })).driven n :=
    driven_modSt h ⟨rfl, rfl, rfl, rfl, rfl⟩ rfl rfl rfl
  unfold applyWeighItem
  dsimp only
  (repeat' split)
  · exact driven_modWeigh _ stored
  · exact driven_modWeigh _ stored
  · exact stored

/-! ### A new binding (R17, R18) -/

/-- A role that changes forgets nothing the speed is made of but the bowl temperature, the lid report and the manual speed. -/
theorem forgetRoles_keeps (old new : Binding) :
    ((forgetRoles n old new s).st n).run = (s.st n).run ∧
    ((forgetRoles n old new s).st n).sameTables (s.st n) ∧
    (forgetRoles n old new s).nodes = s.nodes ∧
    (old.thermo = new.thermo → ((forgetRoles n old new s).st n).heat.bowl = (s.st n).heat.bowl) ∧
    (old.lid = new.lid → ((forgetRoles n old new s).st n).drive.lidReport = (s.st n).drive.lidReport) ∧
    ((forgetRoles n old new s).st n).drive.envelope = (s.st n).drive.envelope ∧
    (old.drive = new.drive → old.lid = new.lid →
      ((forgetRoles n old new s).st n).drive.speeds = (s.st n).drive.speeds) := by
  refine ⟨by simp, sameTables_of_outline (by simp) n, by simp, ?_, ?_, ?_, ?_⟩ <;> unfold forgetRoles <;> dsimp only
  · intro ht
    rw [if_pos ht]
    (repeat' split) <;> simp
  · intro hl
    rw [if_pos hl]
    (repeat' split) <;> simp [forgetDrive]
  · (repeat' split) <;> simp [forgetDrive]
  · intro hd hl
    rw [if_pos hd, if_pos hl]
    (repeat' split) <;> simp [DriveContext.speeds]

/-- What a new binding leaves before the recomputations it calls for (R18). -/
def boundTo (n : StationId) (new : Binding) (s : State) : State :=
  (forgetRoles n (s.st n).binding new s).modSt n (fun st => { st with binding := new })

theorem boundTo_enveloped (new : Binding) (ht : (s.st n).binding.thermo = new.thermo) (hl : (s.st n).binding.lid = new.lid)
    (h : s.enveloped n) : (boundTo n new s).envelopeOf n = s.envelopeOf n ∧ (boundTo n new s).enveloped n := by
  obtain ⟨-, ⟨-, -, -, hlim, -⟩, hnodes, hbowl, hlid, henv, -⟩ := forgetRoles_keeps (s := s) (n := n) (s.st n).binding new
  have hst : (boundTo n new s).st n = { (forgetRoles n (s.st n).binding new s).st n with binding := new } := by simp [boundTo]
  have hentry : (boundTo n new s).nodeEntry = s.nodeEntry := by
    have hat : (boundTo n new s).nodes = s.nodes := by simp [boundTo]
    funext k
    simp only [State.nodeEntry, State.nodeIndex, hat, show (boundTo n new s).entryAt = s.entryAt from
      funext (entryAt_of_nodes hat)]
  have hsil : (boundTo n new s).silent n .lid = s.silent n .lid := by
    simp only [State.silent, hst, Binding.get, hentry, hl]
  have hlock : (boundTo n new s).lidLocked n = s.lidLocked n := by
    simp only [State.lidLocked, hsil, hst, hlid hl, hl]
  have hhot : ((boundTo n new s).st n).hot = (s.st n).hot := by
    simp only [Station.hot, hst, hbowl ht, hlim]
  have heq : (boundTo n new s).envelopeOf n = s.envelopeOf n := by
    simp only [State.envelopeOf, hlock, hhot]
    simp only [hst, hlim]
  refine ⟨heq, ?_⟩
  unfold State.enveloped
  rw [heq, hst]
  exact henv.trans h

/-- A binding that changes the THERMO or LID role recomputes the envelope, and one that changes the DRIVE role the speed
(R18). -/
theorem driven_bindStation (new : Binding) (h : s.driven n) :
    (bindStation n new s).driven n := by
  have settle : ∀ v : State, v.driven n → (followDemand n (followManualHeat n v)).driven n := fun v hv =>
    driven_keep (driven_followManualHeat hv) (by simp) (by simp) (by simp) (by simp)
  have told : ∀ v : State, v.enveloped n → (recomputeArbiter (sendSpeedSet n (recomputeDrive n v))).driven n := fun v hv =>
    driven_keep (driven_recomputeDrive hv) (by simp) (by simp) (by simp) (by simp)
  have follows : ∀ v : State, ((s.st n).binding.drive = new.drive → v.driven n) → v.enveloped n →
      (followDemand n (followManualHeat n (if (s.st n).binding.drive = new.drive then v
        else recomputeArbiter (sendSpeedSet n (recomputeDrive n v))))).driven n := by
    intro v hv he
    split
    · next hd => exact settle _ (hv hd)
    · exact settle _ (told v he)
  have keep : (s.st n).binding.thermo = new.thermo ∧ (s.st n).binding.lid = new.lid →
      (s.st n).binding.drive = new.drive → (boundTo n new s).driven n := by
    intro ⟨ht, hl⟩ hd
    obtain ⟨hrun, ⟨hsteps, -⟩, -, -, -, -, hspeeds⟩ := forgetRoles_keeps (s := s) (n := n) (s.st n).binding new
    exact driven_of (boundTo_enveloped new ht hl h.enveloped).1
      (requestOf_of (by simp [boundTo]) (by simp [boundTo]) (by simp [boundTo, hspeeds hd hl])) (by simp [boundTo, hspeeds hd hl]) h
  have main : ∀ v : State, (v = if (s.st n).binding.thermo = new.thermo ∧ (s.st n).binding.lid = new.lid then boundTo n new s
        else recomputeEnvelope n (boundTo n new s)) →
      (followDemand n (followManualHeat n (if (s.st n).binding.drive = new.drive then v
        else recomputeArbiter (sendSpeedSet n (recomputeDrive n v))))).driven n := by
    intro v hv
    split at hv
    · next hc => exact follows v (hv ▸ keep hc) (hv ▸ (boundTo_enveloped new hc.1 hc.2 h.enveloped).2)
    · exact follows v (fun _ => hv ▸ driven_recomputeEnvelope) (hv ▸ driven_recomputeEnvelope.enveloped)
  unfold bindStation followBinding
  dsimp only
  split
  · exact driven_testUnlock (main _ rfl)
  · exact main _ rfl

end

/-! ### Every request -/

theorem driven_setEntry_new {s : State} {n : StationId} {i : Nat} {f : NodeEntry} (hs : NodesSound s)
    (ht : NodesSound (s.setEntry i (some f))) (hi : s.freeNode = some i) (hf : f.silent = false) (hd : s.driven n) :
    (s.setEntry i (some f)).driven n := by
  obtain ⟨hlt, hfree⟩ := freeNode_spec hi
  exact driven_setEntry hs ht hlt (fun k _ => by simp [hfree, hf]) hd

theorem driven_writeEntry {s : State} {n : StationId} {i : Nat} {f : NodeEntry} (hi : i < 16)
    (ht : NodesSound (s.setEntry i (some f))) (hf : f.origin = .static) (hd : (s.setEntry i (some f)).driven n) :
    (writeEntry i f s).driven n := by
  unfold writeEntry
  dsimp only
  split
  · exact driven_becomeSilent ht (entryAt_setEntry_same hi) hf hd
  · exact hd

/-- NODE_WRITE moves a silence of no bound node: a bound one is STATIC and keeps its port (R17, R142). -/
theorem driven_nodeWrite {s : State} {n : StationId} {k : NodeId} {p : Port} {limit : Nat} (hs : NodesSound s) (h31 : k ≠ 31)
    (ho : k ≠ s.ownNode) (hd : s.driven n) : (nodeWrite k p limit s).1.driven n := by
  obtain h | ⟨i, e, hi, he, hb, h⟩ | ⟨i, hi, hf, h⟩ := nodeWrite_cases k p limit s
  · rwa [h]
  · rw [h]
    have hnum := (nodeIndex_number hi he).2
    have samePort : ∀ m r, (s.st m).binding.get r = some e.number → e.port = p := by
      intro m r hm
      obtain hn | hp := hb
      · exact absurd (hnum ▸ hm) (not_bound_of_boundAs hn m r)
      · exact hp
    have ht : NodesSound (s.setEntry i (some (rewrittenEntry e p limit))) :=
      nodesSound_setEntry_same hs he rfl (fun hl => by cases hl) fun m r hbd hm => ⟨rfl, samePort m r hbd ▸ hm.2⟩
    refine driven_writeEntry (entryAt_lt he) ht rfl ?_
    by_cases hl : (s.st n).binding.get .lid = some e.number
    · obtain ⟨f, hf, hstatic, -⟩ := hs.2.2.1 n .lid e.number hl
      rw [nodeEntry_eq_some (hnum ▸ hi) he] at hf
      cases hf
      refine driven_setEntry hs ht (entryAt_lt he) (fun j _ => ?_) hd
      simp [he, rewrittenEntry, samePort n .lid hl, hstatic]
    · exact driven_setEntry_other hs ht he rfl hl hd
  · rw [h]
    have ht : NodesSound (s.setEntry i (some (staticEntry k p limit))) :=
      nodesSound_setEntry_new hs hf hi ⟨ho, h31, fun hl => by cases hl⟩
    exact driven_writeEntry (freeNode_spec hf).1 ht rfl (driven_setEntry_new hs ht hf rfl hd)

theorem driven_applyPortItem {s : State} {n : StationId} (p : Port) (id v : Nat) (hs : NodesSound s) (hd : s.driven n) :
    (applyPortItem p id v s).driven n := by
  have stored : (s.modPort p (fun q => { q with cfg := setPortItem q.cfg id v })).driven n :=
    driven_still hd (by simp) (by simp)
  unfold applyPortItem
  dsimp only
  split
  · have hs' : NodesSound { s with ageLimit := v } :=
      nodesSound_of_fields rfl rfl (fun m => by cases m <;> rfl) (fun m => by cases m <;> rfl) hs
    exact driven_removeLearned hs' (fun e h => by simp_all [NodeEntry.tooOld]) (driven_still hd rfl (by cases n <;> rfl))
  · split
    · exact driven_still stored (by simp) (by simp)
    · split
      · unfold recoverIfMet
        split
        · exact driven_port (recover_sketch _ p) (by simp [recoverPort]) (recoverPort_sameButDrive p _ n)
            (by simp [recoverPort]) stored
        · exact stored
      · exact stored

theorem applyLimit_other (n : StationId) (id v : Nat) (s : State) :
    (applyLimit n id v s).st (otherStation n) = s.st (otherStation n) := by
  unfold applyLimit
  dsimp only
  (repeat' split) <;> simp

theorem applyWeighItem_other (n : StationId) (id : Nat) (v : Int) (s : State) :
    (applyWeighItem n id v s).st (otherStation n) = s.st (otherStation n) := by
  unfold applyWeighItem
  dsimp only
  (repeat' split) <;> simp

theorem restartPort_nodes (p : Port) (s : State) : (restartPort p s).nodes = s.nodes := by
  have stopped : ∀ v : State, (stopSending p v).nodes = v.nodes := by
    intro v
    unfold stopSending
    split <;> simp
  unfold restartPort
  dsimp only
  split <;> simp [stopped]

theorem restartPort_speeds (p : Port) (s : State) (m : StationId) :
    ((restartPort p s).st m).drive.speeds = (s.st m).drive.speeds := by
  unfold restartPort
  dsimp only
  split <;> simp

theorem effect_driven {s u : State} (hs : NodesSound s) (h : Effect s u) (m : StationId) (hd : s.driven m) : u.driven m := by
  cases h with
  | start n q first => exact driven_at (n := n) (by simp) (by simp) (fun h => driven_startStation first h.enveloped) m hd
  | pause n => exact driven_at (n := n) (by simp) (by simp) (fun h => driven_pauseStation _ h.enveloped) m hd
  | resume n => exact driven_at (n := n) (by simp) (by simp) (fun h => driven_resumeStation h.enveloped) m hd
  | stopStep n =>
    exact driven_at (n := n) (by simp) (by simp) (fun h => driven_enterIdle _ _ (enveloped_endStep _ h.enveloped)) m hd
  | stopWarming n => exact driven_at (n := n) (by simp) (by simp) (fun h => driven_enterIdle _ _ h.enveloped) m hd
  | stopIdle n =>
    exact driven_at (n := n) (by simp) (by simp)
      (fun h => driven_askUnlock (driven_dropManualHeat (driven_dropManualSpeed h.enveloped))) m hd
  | finish n => exact driven_at (n := n) (by simp) (by simp) (fun h => driven_finishStep _ _ h.enveloped) m hd
  | adjust n a => exact driven_at (n := n) (by simp) (by simp) (driven_adjustStation a) m hd
  | clearFault n => exact driven_at (n := n) (by simp) (by simp) (fun h => driven_enterIdle _ _ h.enveloped) m hd
  | bind n d h w t l =>
    exact driven_at (n := n) (by simp [nodes_of (bindStation_outline ..)])
      (by simp [bindStation, followBinding_other]) (driven_bindStation _) m hd
  | limit n id v => exact driven_at (n := n) ((nodes_of (applyLimit_outline ..)).trans (by simp)) (applyLimit_other ..) (driven_applyLimit id v) m hd
  | weighItem n id v =>
    exact driven_at (n := n) (nodes_of (applyWeighItem_outline ..)) (applyWeighItem_other ..) (driven_applyWeighItem id v) m hd
  | retare n =>
    exact driven_at (n := n) (by simp) (by simp) (fun h => driven_modWeigh _ (driven_endOp _ h)) m hd
  | storeStep n i r hi => exact driven_at (n := n) (by simp) (by simp) (fun h => driven_editRecipe h hi rfl rfl rfl rfl rfl) m hd
  | recipeLength n len hi =>
    exact driven_at (n := n) (by simp) (by simp) (fun h => driven_editRecipe h hi rfl rfl rfl rfl rfl) m hd
  | recipeClear n hi => exact driven_at (n := n) (by simp) (by simp) (fun h => driven_editRecipe h hi rfl rfl rfl rfl rfl) m hd
  | heatItem n id v hi => exact driven_at (n := n) (by simp) (by simp) (fun h => driven_editRecipe h hi rfl rfl rfl rfl rfl) m hd
  | lock n | unlock n | zeroStation n | reportInterval n =>
    exact driven_at (n := n) (by simp) (by simp) (fun h => driven_modSt h ⟨rfl, rfl, rfl, rfl, rfl⟩ rfl rfl rfl) m hd
  | tare n => exact driven_at (n := n) (by simp) (by simp) (driven_modWeigh _) m hd
  | capture n op mass =>
    exact driven_keep hd (by simp) (by simp) (by simp) (by simp)
  | portItem p id v => exact driven_applyPortItem p id v hs hd
  | restartPort p =>
    exact driven_port (restartPort_sketch s p) (restartPort_nodes p s) (restartPort_sameButDrive p s m)
      (restartPort_speeds p s m) hd
  | nodeWrite k p limit h31 ho => exact driven_nodeWrite hs h31 ho hd
  | removeNode k i hi hb =>
    obtain ⟨e, he⟩ := Option.ne_none_iff_exists'.mp (entryAt_ne_none_of_nodeIndex hi)
    obtain rfl := (nodeIndex_number hi he).2
    exact driven_removeEntry hs he (not_bound_of_boundAs hb) hd
  | flushNodes => exact driven_removeLearned hs (fun e h => (isLearned_iff e).mp h) hd
  | unchanged => exact hd
  | snapshot | clearNotices | route | routeDefault => exact driven_still hd rfl (by cases m <;> rfl)
  | budget w => exact driven_keep hd (by simp) (by simp) (by simp) (by simp)
  | enableNotices en => exact driven_still hd (by simp) (by unfold enableNotices; dsimp only; split <;> simp)
  | _ => exact driven_still hd (by simp) (by simp)

/-- A station that is IDLE with nothing demanded and nothing reported is bounded by its open speed (R114). -/
theorem driven_fresh {t : State} {m : StationId} (hrun : (t.st m).run = {}) (hbowl : (t.st m).heat.bowl = none)
    (hd : ∃ r, (t.st m).drive = { envelope := min (t.st m).limits.maxSpeed (t.st m).limits.openSpeed, refreshTimer := r }) :
    t.driven m := by
  obtain ⟨r, hd⟩ := hd
  have hlock : t.lidLocked m = false := by simp [State.lidLocked, hd]
  have hcold : (t.st m).hot = false := by simp [Station.hot, hbowl]
  have hreq := requestOf_idle (s := t) (n := m) (by rw [hrun])
  unfold State.driven
  rw [hreq]
  simp [State.envelopeOf, hlock, hcold, hd]

/-- A station after reset (R193, R194). -/
theorem driven_reset {s t : State} (h : Reset s t) (m : StationId) : t.driven m := by
  cases h with
  | powerOn own l => cases m <;> exact driven_fresh rfl rfl ⟨_, rfl⟩
  | asserted => cases m <;> exact driven_fresh rfl rfl ⟨_, rfl⟩
  | kept =>
    refine driven_setNotice _ ?_
    cases m <;> exact driven_fresh rfl rfl ⟨_, rfl⟩

/-- Settles O55: every change of an input of the speed is followed by its recomputation (R115 to R117). -/
theorem stepKeepsDrive : Obligations.StepKeepsDrive := by
  intro s t hn hd h
  exact (step_keeps (I := fun s => NodesSound s ∧ DriveSound s)
    (fun _ _ hs h => ⟨nodesSound_sketch hs.1 (move_sketch h), fun m => move_driven hs.1 h m (hs.2 m)⟩)
    (fun _ _ hs h => ⟨nodesSound_effect hs.1 h, fun m => effect_driven hs.1 h m (hs.2 m)⟩)
    (fun _ u r a _ _ _ hu => ⟨nodesSound_of_fields (s := sendReply r a u) rfl rfl (by simp) (by simp)
      (nodesSound_of_outline (sendReply_outline ..) hu.1),
      fun m => driven_still (hu.2 m) (show (sendReply r a u).nodes = u.nodes from nodes_of (sendReply_outline r a u)) (by simp)⟩)
    (fun _ _ hs h => ⟨nodesSound_reset hs.1 h, fun m => driven_reset h m⟩) s t ⟨hn, hd⟩ h).2

end Sys2Proof.Machine

/-! PROOFS. Frames and records as bytes and bits: O50 and O3 (sections 11.1 and 11.3). -/

namespace Sys2Proof.Machine

open Sys2Proof

/-! ### The line code (R168) -/

/-- What is inserted is taken out again, from any run that a sender can stand in. -/
theorem unstuffFrom_stuffFrom (bits : List Bool) : ∀ (last : Bool) (run : Nat), run < 4 →
    unstuffFrom last run (stuffFrom last run bits) = some bits := by
  induction bits with
  | nil =>
    intro last run hrun
    simp [stuffFrom, unstuffFrom, Nat.ne_of_lt hrun]
  | cons b rest ih =>
    intro last run hrun
    have hne : run ≠ 4 := Nat.ne_of_lt hrun
    unfold stuffFrom
    by_cases hb : b = last
    · subst hb
      rw [if_pos rfl]
      by_cases h4 : run + 1 = 4
      · simp [h4, unstuffFrom, hne, ih (!b) 1 (by decide)]
      · simp [h4, unstuffFrom, hne, ih b (run + 1) (by omega)]
    · simp [hb, unstuffFrom, hne, ih b 1 (by decide)]

/-- No five equal bits stand together, where `run` bits equal to `last` stand before. -/
def noFive (last : Bool) (run : Nat) : List Bool → Prop
  | [] => True
  | b :: rest => if b = last then run + 1 ≤ 4 ∧ noFive last (run + 1) rest else noFive b 1 rest

theorem noFive_stuffFrom (bits : List Bool) : ∀ (last : Bool) (run : Nat), run < 4 → noFive last run (stuffFrom last run bits) := by
  induction bits with
  | nil => intro last run _; trivial
  | cons b rest ih =>
    intro last run hrun
    unfold stuffFrom
    by_cases hb : b = last
    · subst hb
      rw [if_pos rfl]
      by_cases h4 : run + 1 = 4
      · simp [h4, noFive, ih (!b) 1 (by decide)]
      · simp [h4, noFive, ih b (run + 1) (by omega), hrun]
    · simp [hb, noFive, ih b 1 (by decide)]

theorem not_noFive (b : Bool) (r : List Bool) : ∀ (l : List Bool) (last : Bool) (run : Nat),
    ¬ noFive last run (l ++ [b, b, b, b, b] ++ r) := by
  intro l
  induction l with
  | nil =>
    intro last run h
    by_cases hb : b = last
    · simp only [List.nil_append, List.cons_append, noFive, hb, if_true] at h
      omega
    · simp [noFive, hb] at h
  | cons a l ih =>
    intro last run h
    simp only [List.cons_append, noFive] at h
    split at h
    · exact ih _ _ h.2
    · exact ih _ _ h

/-! ### A frame's bytes (R195, R196) -/

theorem extract_append_high {v : Nat} (x : BitVec v) (y : BitVec 5) : (x ++ y).extractLsb' 5 v = x := by
  ext i hi
  simp [BitVec.getLsbD_append, hi]

theorem extract_append_low {v : Nat} (x : BitVec v) (y : BitVec 5) : (x ++ y).extractLsb' 0 5 = y := by
  ext i hi
  simp [BitVec.getLsbD_append, hi]

theorem byteOf_toNat {x : Nat} (h : x < 256) : (byteOf x).toNat = x := by
  simp [byteOf, Nat.mod_eq_of_lt h]

theorem ofBytes_bytes (f : Frame) (h : f.wellFormed = true) : Frame.ofBytes (Frame.bytes f) = .ok f := by
  have hlen : f.payload.length ≤ 16 := of_decide_eq_true h
  have hb : (byteOf f.payload.length).toNat = f.payload.length := byteOf_toNat (by omega)
  obtain ⟨p, k, sh, s, dh, d, pl⟩ := f
  dsimp only at hlen hb
  have hmax : ¬ 16 < pl.length := by omega
  have hp : (p ++ k).extractLsb' 5 3 = p := extract_append_high p k
  simp [Frame.bytes, Frame.header, Frame.ofBytes, hb, Config.maxPayload, hmax, extract_append_low, hp,
    extract_append_high]

/-- Settles O50: the bytes by their layout, the line code by induction along the run of equal bits. -/
theorem frameCrossesTheLink : Obligations.FrameCrossesTheLink := by
  refine ⟨ofBytes_bytes, fun bits => unstuffFrom_stuffFrom bits false 1 (by decide), fun f b l r h => ?_⟩
  have hno : noFive true 0 (Frame.coded f) := by
    simpa [Frame.coded, noFive] using noFive_stuffFrom _ false 1 (by decide)
  rw [h] at hno
  exact not_noFive b r l true 0 hno

/-! ### The step record's bytes (section 11.3) -/

theorem getLsbD_eq_div (b : Byte) (i : Nat) : b.getLsbD i = decide (b.toNat / 2 ^ i % 2 = 1) := by
  rw [BitVec.getLsbD, Nat.testBit_eq_decide_div_mod_eq]

theorem u16_byteOf {x : Nat} (h : x ≤ 65535) : u16 (byteOf x) (byteOf (x / 256)) = x := by
  simp only [u16, byteOf, BitVec.toNat_ofNat]
  omega

theorem byteOf_u16 (lo hi : Byte) : byteOf (u16 lo hi) = lo ∧ byteOf (u16 lo hi / 256) = hi := by
  have hlo := lo.isLt
  have hhi := hi.isLt
  constructor <;> refine BitVec.eq_of_toNat_eq ?_ <;> simp only [u16, byteOf, BitVec.toNat_ofNat] <;> omega

theorem modeOf_modeCode (m : DirMode) : modeOf (modeCode m) = some m := by cases m <;> rfl

theorem modeOf_eq_some {c : Nat} {m : DirMode} (h : modeOf c = some m) : c = modeCode m := by
  unfold modeOf at h
  split at h <;> cases h <;> rfl

/-- The mode byte of a record: the mode in two bits, then LOCK and KEEP_WARM. -/
theorem modeByte_fields (m : DirMode) (lock warm : Bool) (b : Byte)
    (hb : b = byteOf (modeCode m + (if lock then 4 else 0) + (if warm then 8 else 0))) :
    b.toNat % 4 = modeCode m ∧ b.toNat < 16 ∧ b.getLsbD 2 = lock ∧ b.getLsbD 3 = warm := by
  subst hb
  cases m <;> cases lock <;> cases warm <;> decide

theorem ite_bit {x k w : Nat} : (if decide (x / k % 2 = 1) = true then w else 0) = w * (x / k % 2) := by
  have : x / k % 2 = 0 ∨ x / k % 2 = 1 := by omega
  obtain h | h := this <;> simp [h]

theorem byteOf_modeByte {m : DirMode} {b : Byte} (hm : b.toNat % 4 = modeCode m) (h : b.toNat < 16) :
    byteOf (modeCode m + (if b.getLsbD 2 then 4 else 0) + (if b.getLsbD 3 then 8 else 0)) = b := by
  refine BitVec.eq_of_toNat_eq ?_
  simp only [getLsbD_eq_div, ite_bit, byteOf, BitVec.toNat_ofNat, ← hm]
  omega

/-- The end byte of a record: the four end flags, then the loop count. -/
theorem endByte_fields (e1 e2 e3 e4 : Bool) {k : Nat} (hk : k ≤ 15) (b : Byte)
    (hb : b = byteOf ((if e1 then 1 else 0) + (if e2 then 2 else 0) + (if e3 then 4 else 0) + (if e4 then 8 else 0) + 16 * k)) :
    b.getLsbD 0 = e1 ∧ b.getLsbD 1 = e2 ∧ b.getLsbD 2 = e3 ∧ b.getLsbD 3 = e4 ∧ b.toNat / 16 = k := by
  have hv : b.toNat = (if e1 then 1 else 0) + (if e2 then 2 else 0) + (if e3 then 4 else 0) + (if e4 then 8 else 0) + 16 * k := by
    rw [hb]
    refine byteOf_toNat ?_
    split <;> split <;> split <;> split <;> omega
  simp only [getLsbD_eq_div, hv]
  cases e1 <;> cases e2 <;> cases e3 <;> cases e4 <;> simp <;> omega

theorem byteOf_endByte (b : Byte) :
    byteOf ((if b.getLsbD 0 then 1 else 0) + (if b.getLsbD 1 then 2 else 0) + (if b.getLsbD 2 then 4 else 0) +
      (if b.getLsbD 3 then 8 else 0) + 16 * (b.toNat / 16)) = b := by
  refine BitVec.eq_of_toNat_eq ?_
  have := b.isLt
  simp only [getLsbD_eq_div, ite_bit, byteOf, BitVec.toNat_ofNat]
  omega

theorem decodeStep_encode (r : StepRecord) (h : r.inRange) : decodeStep (StepRecord.encode r) = .ok r := by
  obtain ⟨hspeed, hrev, hheat, hdose, hdur, hcount, htarget⟩ := h
  obtain ⟨hmode, h16, hlock, hwarm⟩ := modeByte_fields r.mode r.lock r.keepWarm _ rfl
  obtain ⟨he1, he2, he3, he4, hloop⟩ := endByte_fields r.endTime r.endWeight r.endTemp r.endConfirm hcount _ rfl
  have hspeed16 := u16_byteOf (x := r.speed) (by omega)
  have hheat16 := u16_byteOf (x := r.heat) (by omega)
  have hrev8 := byteOf_toNat (x := r.reversal) (by omega)
  have htarget8 := byteOf_toNat (x := r.loopTarget) (by omega)
  have hs : ¬ 12000 < r.speed := by omega
  have hr : ¬ 60 < r.reversal := by omega
  have hh : ¬ (r.heat ≠ 0 ∧ (r.heat < 300 ∨ 2000 < r.heat)) := by omega
  have ht : ¬ 47 < r.loopTarget := by omega
  simp only [StepRecord.encode, putU16, List.cons_append, List.nil_append, decodeStep, hspeed16, hheat16, u16_byteOf hdose,
    u16_byteOf hdur, hrev8, htarget8, hmode, modeOf_modeCode, hlock, hwarm, he1, he2, he3, he4, hloop, if_neg hs, if_neg hr,
    if_neg hh, if_neg ht, if_neg (Nat.not_le.mpr h16)]

theorem encode_of_decodeStep {bytes : List Byte} {r : StepRecord} (h : decodeStep bytes = .ok r) :
    r.inRange ∧ StepRecord.encode r = bytes := by
  unfold decodeStep at h
  split at h
  · next b0 b1 b2 b3 b4 b5 b6 b7 b8 b9 b10 b11 =>
    split at h
    · cases h
    · next hs =>
      split at h
      · cases h
      · next m hm =>
        split_ifs at h with h16 hr hh ht
        cases h
        have hb : ∀ lo hi : Byte, u16 lo hi ≤ 65535 := fun lo hi => by
          have := lo.isLt
          have := hi.isLt
          simp only [u16]
          omega
        refine ⟨⟨by dsimp only; omega, by dsimp only; omega, by dsimp only; omega, hb .., hb .., ?_, by dsimp only; omega⟩, ?_⟩
        · have := b10.isLt
          dsimp only
          omega
        · simp only [StepRecord.encode, putU16, byteOf_u16, byteOf_modeByte (modeOf_eq_some hm) (Nat.not_le.mp h16), byteOf_endByte,
            List.cons_append, List.nil_append]
          simp [byteOf]
  · cases h

/-- Settles O3: each byte holds its fields, and the checks stand in the order of Table 1-1. -/
theorem stepRecordRoundTrip : Obligations.StepRecordRoundTrip := by
  refine ⟨decodeStep_encode, fun _ _ => encode_of_decodeStep, ?_⟩
  intro b0 b1 b2 b3 b4 b5 b6 b7 b8 b9 b10 b11 refused hr
  simp only [hr, decodeStep]
  refine ⟨fun h => by rw [if_pos h], fun hs => ?_⟩
  rw [if_neg (Nat.not_lt.mpr hs)]
  refine ⟨fun h3 => by rw [h3]; rfl, fun h3 => ?_⟩
  obtain ⟨m, hm⟩ : ∃ m, modeOf (b2.toNat % 4) = some m := by
    have : b2.toNat % 4 = 0 ∨ b2.toNat % 4 = 1 ∨ b2.toNat % 4 = 2 := by omega
    obtain h | h | h := this <;> rw [h] <;> exact ⟨_, rfl⟩
  simp only [hm]
  refine ⟨fun h => by rw [if_pos (by omega)], fun h16 => ?_⟩
  rw [if_neg (by omega)]
  refine ⟨fun h => by rw [if_pos h], fun hrev => ?_⟩
  rw [if_neg (by omega)]
  refine ⟨fun h0 h => by rw [if_pos (by omega)], fun hheat => ?_⟩
  rw [if_neg (by omega)]
  refine ⟨fun h => by rw [if_pos h], fun ht f hf => ?_⟩
  rw [if_neg (by omega)] at hf
  cases hf

end Sys2Proof.Machine

/-! PROOFS. The step's own choices and the state after reset: O49 and O60 (notes/assumptions/1.md and 4.md). -/

namespace Sys2Proof.Machine

open Sys2Proof

/-! ### The state after reset -/

/-- Settles O60: the base case of each invariant, at the state a power-on reset leaves. -/
theorem resetIsSound : Obligations.ResetIsSound := by
  have h : Reset State.reset State.reset := .powerOn 27 []
  have nodes : NodesSound State.reset :=
    nodesSound_of_fields rfl rfl (fun n => by cases n <;> rfl) (fun n => by cases n <;> rfl) (nodesSound_blank 27)
  have weights : WeightsSound State.reset := by
    rw [weightsSound_iff]
    intro n
    cases n <;> exact measured_blank (c := {}) (by decide) (by decide)
  have settings : SettingsSound State.reset := by
    rw [settingsSound_iff]
    refine ⟨by decide, fun n => by cases n <;> exact capturing_blank weighValue_blank, ?_⟩
    exact outlineSettings_of_nodes (outlineSettings_blank 27) rfl (fun n => by cases n <;> exact ⟨rfl, rfl, rfl⟩)
      (fun p => by cases p <;> rfl) rfl
  exact ⟨fun n hn => (by cases n <;> cases hn), portsSound_reset h, (queuesSound_iff _).mpr (queuesFit_reset h), nodes,
    arbiterSound_reset h, driven_reset h, runs_reset h, weights, settings⟩

/-! ### The head request (R183) -/

/-- The command that stands for a request carries it. -/
theorem commandRequest_ofRequest (r : Request) : commandRequest (ofRequest r) = r := by
  have code : (commandRequest (ofRequest r)).code.toNat = r.code.toNat := by
    unfold ofRequest
    dsimp only
    split <;> (try split) <;> first | exact (‹r.code.toNat = _› : _).symm | rfl
  have rest : (commandRequest (ofRequest r)).tag = r.tag ∧ (commandRequest (ofRequest r)).requester = r.requester ∧
      (commandRequest (ofRequest r)).args = r.args := by
    unfold ofRequest
    dsimp only
    split <;> (try split) <;> exact ⟨rfl, rfl, rfl⟩
  obtain ⟨htag, hreq, hargs⟩ := rest
  have hcode := BitVec.eq_of_toNat_eq code
  generalize commandRequest (ofRequest r) = x at *
  cases x
  cases r
  simp_all

theorem step_command {s : State} {c : Instr} {rest : List Instr} (h : s.pending = c :: rest) :
    step s = exec c { s with pending := rest } := by
  unfold step
  rw [h]

theorem step_tick {s : State} (h : s.pending = []) : step s = .next (tick s) := by
  unfold step
  rw [h]

/-! ### One millisecond -/

theorem passMs_st (s : State) (n : StationId) : (passMs s).st n = stationMs (s.st n) := by cases n <;> rfl

theorem passMs_port (s : State) (p : Port) : (passMs s).port p = portMs (s.port p) := by cases p <;> rfl

theorem countMs_eq (t : Option Nat) : countMs t = t.map (fun d => d - 1) := rfl

/-- Outside RUNNING no deadline counts and outside WARMING no warming time (R39, R43). -/
theorem runMs_still {r : RunContext} (h : r.state = .idle ∨ r.state = .paused ∨ r.state = .fault) :
    deadlineMs (warmOneMs (elapseMs r)) = r := by
  have h1 : r.state ≠ .running := by rintro hr; simp [hr] at h
  have h2 : r.state ≠ .warming := by rintro hr; simp [hr] at h
  simp [elapseMs, warmOneMs, deadlineMs, h1, h2]

theorem passMs_entryAt_eq (s : State) (i : Nat) : (passMs s).entryAt i = if s.ageMs < 9 then s.entryAt i
    else (s.entryAt i).map (fun e => { e with age := if e.age < 65535 then e.age + 1 else e.age }) := by
  have hage : s.ageMs + 1 < 10 ↔ s.ageMs < 9 := by omega
  have hnodes : (passMs s).nodes = if s.ageMs + 1 < 10 then s.nodes else s.nodes.map olderEntry := rfl
  by_cases h : s.ageMs < 9
  · rw [if_pos h]
    exact entryAt_of_nodes (by rw [hnodes, if_pos (hage.mpr h)]) i
  · rw [if_neg h]
    rw [if_neg (mt hage.mp h)] at hnodes
    rcases Nat.lt_or_ge i 16 with hi | hi
    · rw [entryAt_of_lt hi, entryAt_of_lt hi]
      simp only [hnodes, Vector.getElem_map]
      rfl
    · rw [entryAt_of_le hi, entryAt_of_le hi]
      rfl

/-- The run context of an ACTIVE step (R31). -/
theorem runMs_active {x r : RunContext} (hs : x.state = .running) (hp : x.phase = some .active)
    (hlow : x.tenthMs < 99 → r = { x with tenthMs := x.tenthMs + 1 })
    (htop : 99 ≤ x.tenthMs → r = { x with
      tenthMs := 0, elapsed := if x.elapsed < x.effLimit.getD 0 then x.elapsed + 1 else x.elapsed }) :
    deadlineMs (warmOneMs (elapseMs x)) = { r with deadline := r.deadline.map (fun d => d - 1) } := by
  by_cases h : x.tenthMs < 99
  · have h100 : x.tenthMs + 1 < 100 := by omega
    rw [hlow h]
    simp [elapseMs, warmOneMs, deadlineMs, hs, hp, countMs_eq, h100]
  · have h100 : ¬ x.tenthMs + 1 < 100 := by omega
    rw [htop (by omega)]
    simp [elapseMs, warmOneMs, deadlineMs, hs, hp, countMs_eq, h100, satInc]

theorem runMs_phase {x : RunContext} (hs : x.state = .running) (hp : x.phase ≠ some .active) :
    deadlineMs (warmOneMs (elapseMs x)) = { x with deadline := x.deadline.map (fun d => d - 1) } := by
  simp [elapseMs, warmOneMs, deadlineMs, hs, hp, countMs_eq]

theorem runMs_warming {x : RunContext} (hs : x.state = .warming) (h : x.warmMs < 999) :
    deadlineMs (warmOneMs (elapseMs x)) = { x with warmMs := x.warmMs + 1 } := by
  have h : x.warmMs + 1 < 1000 := by omega
  simp [elapseMs, warmOneMs, deadlineMs, hs, h]

/-- A whole second of WARMING (R39). -/
theorem runMs_second {x : RunContext} {top : Nat} (hs : x.state = .warming) (h : 999 ≤ x.warmMs)
    (ht : top = if x.warmingLimit.getD 0 = 0 then 14400 else x.warmingLimit.getD 0) :
    deadlineMs (warmOneMs (elapseMs x)) = { x with
      warmMs := 0
      warmingElapsed := if x.warmingElapsed < top then x.warmingElapsed + 1 else x.warmingElapsed } := by
  subst ht
  have hn : ¬ x.warmMs + 1 < 1000 := by omega
  simp [elapseMs, warmOneMs, deadlineMs, hs, hn, satInc, Config.warmingMax]

/-! ### What falls due -/

theorem mem_dueIf {b : Bool} {c x : Instr} : x ∈ dueIf b c ↔ b = true ∧ x = c := by
  cases b <;> simp [dueIf]

theorem mem_dueCommands {s : State} {c : Instr} : c ∈ dueCommands s ↔
    (∃ n, c ∈ dueStation n ((passMs s).curStep n) ((passMs s).st n)) ∨ c ∈ dueNodes (passMs s) ∨
      ∃ p, c ∈ duePort p ((passMs s).port p) := by
  have stations : (∃ n, c ∈ dueStation n ((passMs s).curStep n) ((passMs s).st n)) ↔
      c ∈ dueStation .zero ((passMs s).curStep .zero) (passMs s).station0 ∨
        c ∈ dueStation .one ((passMs s).curStep .one) (passMs s).station1 :=
    ⟨fun ⟨n, h⟩ => by cases n <;> simp_all [State.st], fun h => h.elim (fun h => ⟨.zero, h⟩) fun h => ⟨.one, h⟩⟩
  have ports : (∃ p, c ∈ duePort p ((passMs s).port p)) ↔
      c ∈ duePort .control (passMs s).control ∨ c ∈ duePort .appliance (passMs s).appliance :=
    ⟨fun ⟨p, h⟩ => by cases p <;> simp_all [State.port], fun h => h.elim (fun h => ⟨.control, h⟩) fun h => ⟨.appliance, h⟩⟩
  rw [stations, ports]
  simp only [dueCommands, List.mem_append, or_assoc]

theorem mem_dueNodes {t : State} {c : Instr} : c ∈ dueNodes t ↔ t.ageMs = 0 ∧ ∃ i e, t.entryAt i = some e ∧
    (e.tooOld t.ageLimit = true ∧ c = .agingRemoval i ∨ e.silenceDue = true ∧ c = .nodeBecomesSilent i) := by
  unfold dueNodes
  by_cases h0 : t.ageMs = 0
  · simp only [h0, ne_eq, not_true_eq_false, if_false, List.mem_flatMap, List.mem_range, true_and]
    constructor
    · rintro ⟨i, -, h⟩
      cases he : t.entryAt i with
      | none => simp [he, dueEntry] at h
      | some e => exact ⟨i, e, he, by simpa [he, dueEntry, mem_dueIf] using h⟩
    · rintro ⟨i, e, he, h⟩
      exact ⟨i, entryAt_lt he, by simpa [he, dueEntry, mem_dueIf] using h⟩
  · simp [h0]

/-- The measure of each recovery mode with its threshold (R179). -/
theorem measureMet_iff (q : PortState) : q.measureMet = true ↔
    q.cfg.recovery = .quiet ∧ 10000 ≤ q.idleBits ∨ q.cfg.recovery = .count ∧ 64 ≤ q.goodFrames := by
  unfold PortState.measureMet
  split
  · next h => rw [decide_eq_true_eq, h]; simp [Config.quietBits]
  · next h => rw [decide_eq_true_eq, h]; simp [Config.countFrames]

/-- The next reversal stands at the present time where one is due (R31). -/
theorem reversalTime_eq_iff {unit elapsed : Nat} {d : Direction} (h : 0 < unit) :
    reversalTime unit elapsed d = elapsed ↔ d ≠ parityDirection (elapsed / unit) := by
  unfold reversalTime
  have : elapsed < (elapsed / unit + 1) * unit := (Nat.div_lt_iff_lt_mul h).mp (Nat.lt_succ_self _)
  split
  · next hd => simp [hd]; omega
  · next hd => simp [hd]

/-- Settles O49: the queue, the head request, the millisecond by its parts, and what falls due in it. -/
theorem stepTakesFrontCommand : Obligations.StepTakesFrontCommand := by
  refine ⟨fun s c rest h => step_command h, fun s h => ?_, fun s n r => ?_, ?_⟩
  · refine ⟨fun hr => ?_, fun r hr hf hq => ?_, fun hr hq => ?_⟩
    · rw [step_tick h, tick, if_pos hr]
    · refine ⟨?_, commandRequest_ofRequest r⟩
      rw [step_tick h]
      simp [tick, hr, State.dueRequest, hf, hq, h]
    · rw [step_tick h]
      have hnone : s.dueRequest = none := by
        unfold State.dueRequest
        obtain hf | hq := hq
        · simp [hf]
        · simp [hq]
      simp [tick, hr, hnone, h]
  · rw [passMs_st]
    refine ⟨fun hs hp hlow htop => runMs_active hs hp hlow htop, runMs_phase, runMs_warming,
      fun top hs h ht => runMs_second hs h ht, runMs_still, rfl, passMs_entryAt_eq s, fun p => ?_, ?_⟩
    · rw [passMs_port]
      unfold portMs
      split <;> rfl
    · have hage : s.ageMs + 1 < 10 ↔ s.ageMs < 9 := by omega
      simp only [passMs, hage]
  · intro s t n p i st due ht hst hdue
    have hcur : t.curStep n = s.curStep n := by
      have hstep : (stationMs (s.st n)).run.step = (s.st n).run.step := by
        simp only [stationMs, deadlineMs, warmOneMs, elapseMs]
        (repeat' split) <;> rfl
      simp only [State.curStep, ht, passMs_st, hstep]
      rfl
    subst hst
    have hlimit : t.ageLimit = s.ageLimit := by rw [ht]; rfl
    have hunit : 0 < (s.curStep n).reversal → 0 < (s.curStep n).reversal * 10 := by omega
    have hrev := fun h => reversalTime_eq_iff (unit := (s.curStep n).reversal * 10) (elapsed := (t.st n).run.elapsed)
      (d := (t.st n).run.reversal.getD .fwd) (hunit h)
    simp only [hdue, mem_dueCommands, ← ht, mem_dueNodes, dueStation, duePort, mem_dueIf, List.mem_append,
      reduceCtorEq, and_false, or_false, false_or, exists_false, exists_eq_right', hcur, Instr.reversal.injEq,
      Instr.stepTimerExpiry.injEq, Instr.lockingDeadlineExpiry.injEq, Instr.basingDeadlineExpiry.injEq,
      Instr.warmingLimitExpiry.injEq, Instr.tareDeadlineExpiry.injEq, Instr.zeroCalibrateDeadlineExpiry.injEq,
      Instr.speedHoldExpiry.injEq, Instr.heatHoldExpiry.injEq, Instr.spinDownExpiry.injEq, Instr.refreshExpiry.injEq,
      Instr.reportTimerExpiry.injEq, Instr.agingRemoval.injEq, Instr.nodeBecomesSilent.injEq, Instr.joinWaitEnd.injEq,
      Instr.portRecovery.injEq]
    refine ⟨?_, ?_, ?_, ?_, ?_, ?_, ?_, ?_, ?_, ?_, ?_, ?_, ?_, ?_, ?_, ?_⟩
    · simp only [Station.reversalDue, Station.inPhase, Bool.and_eq_true, beq_iff_eq, decide_eq_true_eq, and_assoc]
      exact and_congr_right fun _ => and_congr_right fun _ => and_congr_right fun _ => and_congr_right hrev
    · simp [Station.stepDue, Station.inPhase, and_assoc]
    · simp [Station.inPhase, and_assoc]
    · simp [Station.inPhase, and_assoc]
    · simp [Station.warmingDue, and_assoc]
    · simp [and_comm]
    · simp [and_comm]
    · simp
    · simp
    · simp
    · simp
    · simp
    · simp [NodeEntry.tooOld, hlimit]
    · simp [NodeEntry.silenceDue, and_assoc]
    · simp
    · simp only [Bool.and_eq_true, beq_iff_eq, measureMet_iff]

end Sys2Proof.Machine

/-! PROOFS. The tables a request writes at an IDLE station (chapters 1, 4 and 5): O7 and O9. -/

namespace Sys2Proof.Machine

open Sys2Proof

/-! ### Requests that need an IDLE station -/

/-- The answers of a request that needs an IDLE station, in the order of its checks (R8). -/
theorem answers_whenIdle {c : Instr} {s : State} {b : Byte} {rule : State → State × Answer}
    {body : StationId → State → State × Answer} (h : AtHead c s)
    (hc : exec c s = .next (serve (commandRequest c) rule s))
    (hr : rule s = withStation b (fun n => whenIdle n (body n)) s) :
    (stationOf b = none → Answers c s (refuse .badValue 255) s) ∧
    ∀ n, stationOf b = some n →
      ((s.st n).run.state ≠ .idle → Answers c s (refuse .wrongState (stateCode (s.st n).run.state)) s) ∧
      ((s.st n).run.state = .idle → ∀ t a, body n s = (t, a) → Answers c s a t) :=
  ⟨answers_badStation h hc hr, fun _ hn => ⟨fun hi => answers_of_station h hc hr hn (whenIdle_of_not_idle hi),
    fun hi _ _ hbody => answers_of_station h hc hr hn ((whenIdle_of_idle hi).trans hbody)⟩⟩

/-! ### HEAT_CONFIG and BUDGET_SET (R88, R105) -/

theorem heatValue_eq_getElem? (g : HeatConfig) (j : Nat) : heatValue g j = [g.kp, g.ki, g.reachBand][j]? :=
  match j with
  | 0 | 1 | 2 => rfl
  | _ + 3 => rfl

theorem heatInRange_iff (j v : Nat) : heatInRange j v = true ↔ ∃ y, [255, 255, 100][j]? = some y ∧ v ≤ y :=
  match j with
  | 0 | 1 | 2 => by simp [heatInRange]
  | _ + 3 => by simp [heatInRange]

theorem heatValue_setHeatItem_of_le {g : HeatConfig} {i v : Nat} (h : i ≤ 2) (j : Nat) :
    heatValue (setHeatItem g i v) j = if j = i then some v else heatValue g j := by
  match i, j with
  | 0, 0 | 0, 1 | 0, 2 | 1, 0 | 1, 1 | 1, 2 | 2, 0 | 2, 1 | 2, 2 => rfl
  | 0, _ + 3 | 1, _ + 3 | 2, _ + 3 => rfl
  | _ + 3, _ => omega

@[simp] theorem recomputeArbiter_budget (s : State) : (recomputeArbiter s).arbiter.budget = s.arbiter.budget := by
  have sent : ∀ n v, (testGrant n v).arbiter.budget = v.arbiter.budget := by
    intro n v
    obtain h | h := testGrant_arbiter n v <;> rw [h]
    cases n <;> rfl
  simp only [recomputeArbiter, sent]
  rfl

/-- A recomputation divides what the budget leaves of the draws between the counted demands (R108, R109). -/
theorem recomputeArbiter_divides (s : State) :
    (recomputeArbiter s).arbiter.available = s.arbiter.budget - ((s.side .zero).draw + (s.side .one).draw) ∧
    (((recomputeArbiter s).side .zero).grant, ((recomputeArbiter s).side .one).grant) =
      divideGrants (recomputeArbiter s).arbiter.available (s.side .zero).counted (s.side .one).counted := by
  obtain ⟨havail, hgrants⟩ := (arbiterFollows_recomputeArbiter s).1
  have h0 := recomputeArbiter_draw s .zero
  have h1 := recomputeArbiter_draw s .one
  have c0 := recomputeArbiter_counted s .zero
  have c1 := recomputeArbiter_counted s .one
  rw [recomputeArbiter_budget] at havail
  simp only [State.side] at h0 h1 c0 c1 ⊢
  rw [← h0, ← h1, ← c0, ← c1]
  exact ⟨havail, hgrants⟩

@[simp] theorem sendHeatSet_st (n : StationId) (s : State) (m : StationId) : (sendHeatSet n s).st m = s.st m := by
  unfold sendHeatSet
  split <;> simp

@[simp] theorem recomputeArbiter_st (s : State) (m : StationId) : (recomputeArbiter s).st m = s.st m := by
  have sent : ∀ n (v : State), (testGrant n v).st m = v.st m := by
    intro n v
    unfold testGrant
    split <;> simp
  simp only [recomputeArbiter, sent]
  cases m <;> rfl

/-- Settles O9: the items and ranges are two tables, and an accepted budget is followed by one recomputation. -/
theorem heatConfigAndBudget : Obligations.HeatConfigAndBudget := by
  refine ⟨heatValue_eq_getElem?, fun g i j v h => heatValue_setHeatItem_of_le h j, heatInRange_iff,
    fun s q tag b i v lo hi c => ⟨?_, ?_, ?_, ?_⟩⟩
  · rintro rfl h
    obtain ⟨hnone, hsome⟩ := answers_whenIdle (body := fun n s =>
      if 2 < i.toNat then (s, refuse .badValue 0)
      else if heatInRange i.toNat v.toNat then
        (s.modSt n (fun st => { st with heatCfg := setHeatItem st.heatCfg i.toNat v.toNat }), done [v])
      else (s, refuse .badValue 1)) h rfl rfl
    refine ⟨hnone, fun n hn => ⟨(hsome n hn).1, fun hidle => ?_⟩⟩
    have answer := (hsome n hn).2 hidle
    refine ⟨fun h2 => answer _ _ (if_pos h2), fun h2 hv => answer _ _ (by simp [Nat.not_lt.mpr h2, hv]), fun hv => ?_⟩
    obtain ⟨y, hy, -⟩ := (heatInRange_iff _ _).mp hv
    have h2 : i.toNat < 3 := (List.getElem?_eq_some_iff.mp hy).1
    exact answer _ _ (by simp [show ¬ 2 < i.toNat by omega, hv])
  · rintro rfl h
    have answer {t a} : heatConfigReadRule [b, i] s = (t, a) → Answers (.heatConfigRead q tag [b, i]) s a t :=
      answers_of_rule _ h rfl
    exact ⟨fun hn => answer (by simp [heatConfigReadRule, withStation_of_none hn, badStation]), fun n hn =>
      ⟨fun hv => answer (by simp [heatConfigReadRule, withStation_of_some hn, hv]),
        fun x hv => answer (by simp [heatConfigReadRule, withStation_of_some hn, hv])⟩⟩
  · rintro rfl h
    have answer {t a} : budgetSetWriteRule [lo, hi] s = (t, a) → Answers (.budgetSetWrite q tag [lo, hi]) s a t :=
      answers_of_rule _ h rfl
    refine ⟨fun hw => answer (if_pos hw), fun h1 h2 => ⟨setBudget (u16 lo hi) s, answer ?_, ?_⟩⟩
    · have hb : (setBudget (u16 lo hi) s).arbiter.budget = u16 lo hi := recomputeArbiter_budget _
      simp [budgetSetWriteRule, show ¬ (u16 lo hi < 500 ∨ 3600 < u16 lo hi) by omega, State.budgetData, hb, State.side]
    · obtain ⟨havail, hgrants⟩ := recomputeArbiter_divides { s with arbiter := { s.arbiter with budget := u16 lo hi } }
      refine ⟨recomputeArbiter_budget _, havail, hgrants, fun n => ⟨?_, ?_⟩, fun n => ?_, by simp, by simp⟩
      · exact (recomputeArbiter_draw _ n).trans (by cases n <;> rfl)
      · exact (recomputeArbiter_counted _ n).trans (by cases n <;> rfl)
      · exact (recomputeArbiter_st _ n).trans (by cases n <;> rfl)
  · rintro rfl h
    exact answers_of_rule (budgetSetReadRule []) h rfl rfl

/-! ### STATION_LIMITS (R19, R20) -/

theorem limitValue_eq_getElem? (l : Limits) (j : Nat) : limitValue l j = [l.maxSpeed, l.hotTemp, l.hotSpeed, l.openSpeed,
    l.pmax, l.overtemp, l.keepWarmTemp, l.keepWarmLimit, l.refresh, l.manualHold][j]? :=
  match j with
  | 0 | 1 | 2 | 3 | 4 | 5 | 6 | 7 | 8 | 9 => rfl
  | _ + 10 => rfl

theorem limitInRange_iff (j v : Nat) : limitInRange j v = true ↔
    (∃ x y, [(0, 12000), (300, 1500), (0, 12000), (0, 300), (0, 2000), (1000, 2400), (300, 900), (60, 14400),
      (50, 500), (500, 10000)][j]? = some (x, y) ∧ x ≤ v ∧ v ≤ y) ∨ j = 7 ∧ v = 0 :=
  match j with
  | 0 | 1 | 2 | 3 | 4 | 5 | 6 | 8 | 9 => by simp [limitInRange]
  | 7 => by simp [limitInRange, or_comm]
  | _ + 10 => by simp [limitInRange]

theorem le_of_limitInRange {i v : Nat} (h : limitInRange i v = true) : i ≤ 9 := by
  match i with
  | 0 | 1 | 2 | 3 | 4 | 5 | 6 | 7 | 8 | 9 => decide
  | _ + 10 => simp [limitInRange] at h

/-- The state with one limit replaced, before what it acts on at once. -/
def limitStored (n : StationId) (id v : Nat) (s : State) : State :=
  s.modSt n (fun st => { st with limits := setLimit st.limits id v })

section
variable {s : State} {n : StationId} {id v : Nat}

theorem applyLimit_speed (h : id ≤ 3) : applyLimit n id v s = recomputeEnvelope n (limitStored n id v s) := if_pos (by omega)

theorem applyLimit_power : applyLimit n 4 v s = recomputeArbiter (followManualHeat n
    ((limitStored n 4 v s).modDrive n (fun d => { d with manualHeat := min d.manualHeat v }))) := rfl

theorem applyLimit_rest (h : 5 ≤ id) : applyLimit n id v s = limitStored n id v s := by
  have h4 : ¬ id < 4 := by omega
  have hne : id ≠ 4 := by omega
  simp [applyLimit, limitStored, h4, hne]

theorem applyLimit_limits : ((applyLimit n id v s).st n).limits = setLimit (s.st n).limits id v := by
  rw [limits_of (applyLimit_outline n id v s)]
  simp

theorem applyLimit_run : ((applyLimit n id v s).st n).run = (s.st n).run := by
  simp only [applyLimit]
  (repeat' split) <;> simp

theorem applyLimit_weigh : ((applyLimit n id v s).st n).weigh = (s.st n).weigh := by
  simp only [applyLimit]
  (repeat' split) <;> simp

/-- A speed limit of an IDLE station recomputes the envelope and the manual speed, counts a clamp and sends a change
(R20, R115 to R118). -/
theorem applyLimit_recomputes (hi : (s.st n).run.state = .idle) (h : id ≤ 3) {u : State} (hu : u = applyLimit n id v s) :
    (u.st n).drive.envelope = u.envelopeOf n ∧
    (u.st n).drive.manualSpeed = (s.st n).drive.manualSpeed ∧
    (u.st n).drive.requested = (s.st n).drive.manualSpeed ∧
    (u.st n).drive.commanded = min (s.st n).drive.manualSpeed (u.st n).drive.envelope ∧
    (u.st n).counters[0] =
      (if (u.st n).drive.commanded < (s.st n).drive.manualSpeed ∧
          ((u.st n).drive.commanded < (s.st n).drive.commanded ∨
            (s.st n).drive.requested ≠ (s.st n).drive.manualSpeed) then
        satInc Config.counterMax (s.st n).counters[0] else (s.st n).counters[0]) ∧
    (∀ k, (s.st n).binding.drive = some k → s.appliance.health ≠ .isolated →
      (u.st n).drive.commanded ≠ (s.st n).drive.commanded →
      Unsent u (.speedSet n) k
        (putU16 (u.st n).drive.commanded ++ [byteOf (dirCode (u.st n).drive.commandedDir)])) := by
  have hv : ∃ w : State, u = recomputeDrive n w ∧ (w.st n).drive.requested = (s.st n).drive.requested ∧
      (w.st n).drive.commanded = (s.st n).drive.commanded ∧ (w.st n).drive.manualSpeed = (s.st n).drive.manualSpeed ∧
      (w.st n).run = (s.st n).run ∧ (w.st n).counters = (s.st n).counters ∧ (w.st n).binding = (s.st n).binding ∧
      w.appliance = s.appliance := by
    refine ⟨_, hu.trans (applyLimit_speed h), ?_⟩
    simp [limitStored]
  obtain ⟨w, hw, hold, hrunning, hmanual, hrun, hcount, hbind, hport⟩ := hv
  have henv : (u.st n).drive.envelope = u.envelopeOf n := by
    rw [hu, applyLimit_speed h]
    exact driven_recomputeEnvelope.enveloped
  obtain ⟨h1, -, h3, h4, -, h6, h7, -⟩ := (recomputeDrive_sameSpeed n w).fields
  rw [← hw] at h1 h3 h4 h6 h7
  have hreq : (w.requestOf n).1 = (s.st n).drive.manualSpeed := by
    rw [requestOf_idle (by rw [hrun]; exact hi), hmanual]
  have hreq' : (u.st n).drive.requested = (s.st n).drive.manualSpeed := h1.trans hreq
  have hcom : (u.st n).drive.commanded = min (s.st n).drive.manualSpeed (u.st n).drive.envelope := by
    rw [h3, h6]
    simp [composeSpeed, hreq]
  refine ⟨henv, h7.trans hmanual, hreq', hcom, ?_, fun k hk hp hne => ?_⟩
  · have hc : (u.st n).counters[0] = ((composedState n w).st n).counters[0] := by rw [hw, recomputeDrive_counters]
    rw [hc, composedState_counters, hcount]
    refine if_congr ?_ rfl rfl
    have hreq2 : (composeSpeed (w.requestOf n) (w.st n).drive).requested = (s.st n).drive.manualSpeed := hreq
    rw [clampCounts_iff, ← h3, hold, hrunning, hreq2]
    have hclamp : (composeSpeed (w.requestOf n) (w.st n).drive).clamped = true ↔
        (u.st n).drive.commanded < (s.st n).drive.manualSpeed := by
      rw [h3, ← hreq]
      simp [composeSpeed]
    rw [hclamp, or_comm, ne_comm]
  · have hsent := recomputeDrive_sends (n := n) (s := w) (k := k) rfl (.inl (by rw [← h3, hrunning]; exact hne))
      (by rw [hbind]; exact hk) (by rw [hport]; exact hp)
    rw [← hw, ← h3, ← h4] at hsent
    exact hsent

/-- PMAX of an IDLE station bounds the manual heat, and the demand and the grants follow (R20, R99, R108). -/
theorem applyLimit_bounds (hi : (s.st n).run.state = .idle) {u : State} (hu : u = applyLimit n 4 v s) :
    (u.st n).drive.manualHeat = min (s.st n).drive.manualHeat v ∧ (u.st n).heat.demand = u.idleDemand n ∧
      ArbiterFollows u := by
  subst hu
  rw [applyLimit_power]
  refine ⟨by simp [limitStored], ?_, arbiterFollows_recomputeArbiter _⟩
  have hidle : (((limitStored n 4 v s).modDrive n (fun d => { d with manualHeat := min d.manualHeat v })).st n).run.state = .idle := by
    simpa [limitStored] using hi
  have hbowl : ∀ (d : Nat) (t : State), (setDemand n d t).idleDemand n = t.idleDemand n := by
    intro d t
    simp [State.idleDemand]
  have hsame : ∀ t : State, (recomputeArbiter t).idleDemand n = t.idleDemand n := by
    intro t
    simp [State.idleDemand]
  rw [hsame, recomputeArbiter_st]
  unfold followManualHeat
  rw [if_pos hidle, setDemand_heat, hbowl]

end

/-- Settles O7: the ten limits are two tables; a speed limit recomputes the envelope, PMAX the demand, and another limit
stands alone. -/
theorem stationLimitsWriteAndRead : Obligations.StationLimitsWriteAndRead := by
  refine ⟨limitValue_eq_getElem?, limitInRange_iff, fun s q tag b i lo hi => ⟨fun h => ?_, fun h => ?_⟩⟩
  · obtain ⟨hnone, hsome⟩ := answers_whenIdle (body := fun n s =>
      if 9 < i.toNat then (s, refuse .badValue 0)
      else if limitInRange i.toNat (u16 lo hi) then
        (applyLimit n i.toNat (u16 lo hi) s, done (putU16 (u16 lo hi)))
      else (s, refuse .badValue 1)) h rfl rfl
    refine ⟨hnone, fun n hn => ⟨(hsome n hn).1, fun hidle => ?_⟩⟩
    have answer := (hsome n hn).2 hidle
    refine ⟨fun h9 => answer _ _ (if_pos h9), fun h9 hv => answer _ _ (by simp [Nat.not_lt.mpr h9, hv]), fun hv => ?_⟩
    have h9 : ¬ 9 < i.toNat := Nat.not_lt.mpr (le_of_limitInRange hv)
    refine ⟨applyLimit n i.toNat (u16 lo hi) s, answer _ _ (by simp [h9, hv]), ?_, fun j hj => ?_,
      fun h3 => applyLimit_recomputes hidle h3 rfl, fun h4 => applyLimit_bounds hidle (h4 ▸ rfl), applyLimit_rest,
      applyLimit_run, applyLimit_weigh, applyLimit_other .., applyLimit_outline ..⟩
    · rw [applyLimit_limits, limitValue_setLimit hv, if_pos rfl]
    · rw [applyLimit_limits, limitValue_setLimit hv, if_neg hj]
  · have answer {t a} : stationLimitsReadRule [b, i] s = (t, a) → Answers (.stationLimitsRead q tag [b, i]) s a t :=
      answers_of_rule _ h rfl
    exact ⟨fun hn => answer (by simp [stationLimitsReadRule, withStation_of_none hn, badStation]), fun n hn =>
      ⟨fun hv => answer (by simp [stationLimitsReadRule, withStation_of_some hn, hv]),
        fun x hv => answer (by simp [stationLimitsReadRule, withStation_of_some hn, hv])⟩⟩

end Sys2Proof.Machine

/-! PROOFS. An accepted START (R23): the drive context that a step entry leaves at ease, and the phase it enters. -/

namespace Sys2Proof.Machine

open Sys2Proof

/-! ### A drive without manual demand and without a pending unlock -/

/-- No manual demand stands, and no unlock is pending (R23). -/
def DriveContext.atEase (d : DriveContext) : Prop :=
  d.manualSpeed = 0 ∧ d.speedHold = none ∧ d.manualHeat = 0 ∧ d.heatHold = none ∧ d.manualLid = none ∧
  d.pendingUnlock = false

theorem DriveContext.atEase.of_sameSpeed {d e : DriveContext} (h : e.atEase) (hs : d.sameSpeed e)
    (hp : e.pendingUnlock = false → d.pendingUnlock = false) : d.atEase := by
  obtain ⟨-, -, -, -, -, -, hm, -, hh, hheat, hhh, hlid, -⟩ := hs.fields
  obtain ⟨h1, h2, h3, h4, h5, h6⟩ := h
  exact ⟨hm.trans h1, hh.trans h2, hheat.trans h3, hhh.trans h4, hlid.trans h5, hp h6⟩

section
variable {n : StationId} {s : State}

/-- Where no unlock is pending, the interlock has nothing to serve (R129). -/
theorem recomputeDrive_pending (h : (s.st n).drive.pendingUnlock = false) :
    ((recomputeDrive n s).st n).drive.pendingUnlock = false := by
  have hsent : ∀ t : State, (t.st n).drive = composeSpeed (s.requestOf n) (s.st n).drive →
      ((if (composeSpeed (s.requestOf n) (s.st n).drive).commanded = 0 then testUnlock n t else t).st n).drive.pendingUnlock =
        false := by
    intro t ht
    have hp : (t.st n).drive.pendingUnlock = false := by rw [ht]; exact h
    split
    · rw [testUnlock_waits (.inl hp)]; exact hp
    · exact hp
  rw [recomputeDrive_eq]
  refine hsent _ ?_
  split <;> simp [composedState_drive]

theorem atEase_recomputeDrive (h : (s.st n).drive.atEase) : ((recomputeDrive n s).st n).drive.atEase :=
  DriveContext.atEase.of_sameSpeed (e := composeSpeed (s.requestOf n) (s.st n).drive) h (recomputeDrive_sameSpeed n s)
    (fun hp => recomputeDrive_pending hp)

theorem atEase_stateChanged {rule : Adoption} {b : Bool} (h : (s.st n).drive.atEase) :
    ((stateChanged n rule b s).st n).drive.atEase := by
  rw [stateChanged_drive]; exact atEase_recomputeDrive h

theorem atEase_enterActive {rule : Adoption} {b : Bool} (h : (s.st n).drive.atEase) :
    ((enterActive n rule b s).st n).drive.atEase := by
  simp only [enterActive]
  split
  · rw [setNotice_drive]; exact atEase_stateChanged (by simpa using h)
  · exact atEase_stateChanged (by simpa using h)

theorem atEase_enterBasing {rule : Adoption} {b : Bool} (h : (s.st n).drive.atEase) :
    ((enterBasing n rule b s).st n).drive.atEase := atEase_stateChanged (by simpa using h)

theorem atEase_leaveLocking {rule : Adoption} {b : Bool} (h : (s.st n).drive.atEase) :
    ((leaveLocking n rule b s).st n).drive.atEase := by
  unfold leaveLocking
  split
  · exact atEase_enterBasing h
  · exact atEase_enterActive h

theorem atEase_lockLid (h : (s.st n).drive.atEase) : ((lockLid n s).st n).drive.atEase := by
  refine h.of_sameSpeed (lockLid_sameSpeed n s) (fun hp => ?_)
  cases hk : (s.st n).binding.lid with
  | none => simp [lockLid, hk, hp]
  | some k => simp [lockLid_bound hk]

theorem atEase_actOnLid (h : (s.st n).drive.atEase) : ((actOnLid n s).st n).drive.atEase := by
  have hwaits : ((s.modRun n (fun r => { r with deadline := none })).st n).drive.atEase := by simpa using h
  simp only [actOnLid]
  split
  · exact atEase_leaveLocking h
  · split
    · exact hwaits
    · split
      · exact hwaits
      · split
        · split
          · exact h
          · simpa using atEase_lockLid h
        · exact hwaits

theorem atEase_enterLocking {after : Phase} {rule : Adoption} {b : Bool} (h : (s.st n).drive.atEase) :
    ((enterLocking n after rule b s).st n).drive.atEase := atEase_actOnLid (atEase_stateChanged (by simpa using h))

theorem atEase_enterStep {i : Nat} {old : Option Int} {b : Bool} {r : StepRecord} (hr : (s.st n).slot i = r)
    (hs : s.standing n (some r) (some (r.heat : Int)) = []) (h : (s.st n).drive.atEase) :
    ((enterStep n i old b s).st n).drive.atEase := by
  have hentered : ((s.modRun n (enteredRun i r)).st n).drive.atEase := by simpa using h
  rw [enterStep_free hr rfl hs]
  split
  · exact atEase_enterLocking hentered
  · split
    · exact atEase_enterBasing hentered
    · exact atEase_enterActive hentered

end

/-! ### The lid at entry into LOCKING (R28) -/

/-- Entry into LOCKING over a lid that is not locked acts on the last report (R28). -/
theorem actsOnLid_enterLocking {n : StationId} {after : Phase} {rule : Adoption} {b : Bool} {s : State}
    (h : s.lidLocked n = false) : ActsOnLid s (enterLocking n after rule b s) n := by
  have hrun := enterLocking_run (after := after) (rule := rule) (b := b) h
  refine ⟨fun k r hs hk hr hc hl => ?_, fun hopen => ?_⟩
  · have hreport := (stateChanged_lidReport n rule b (s.modRun n (fun r => { r with
      state := .running, phase := some .locking, phaseAfterLock := some after, savedPhase := none
      pauseReason := none, deadline := none }))).trans (by simp : _ = (s.st n).drive.lidReport)
    unfold enterLocking
    rw [actOnLid_closed (r := r) (by rw [silent_of (s := s) (by simp)]; exact hs) (hreport.trans hr) hc hl (by simp),
      lockLid_bound (k := k) (by simpa using hk)]
    refine ⟨by simp, by simp, by simp, fun ha => ?_⟩
    refine unsent_of (modRun_port ..) (modRun_ownNode ..) (unsent_originate ?_)
    rw [health_of (s := s) (by simp)]
    exact ha
  · rw [hrun]
    simp only [RunContext.runsIn, State.lidDeadline]
    obtain hs | hr := hopen
    · rw [if_pos hs]
    · split
      · rfl
      · cases hl : (s.st n).drive.lidReport with
        | none => rfl
        | some r => simp [hr r hl]

theorem actsOnLid_of {s s0 u : State} {n : StationId} (ho : s.outline = s0.outline)
    (hl : (s.st n).drive.lidReport = (s0.st n).drive.lidReport) (h : ActsOnLid s u n) : ActsOnLid s0 u n := by
  have hh : s.appliance.health = s0.appliance.health := health_of ho .appliance
  unfold ActsOnLid at h ⊢
  rwa [silent_of ho, hl, hh, binding_of ho] at h

/-! ### START (R23) -/

/-- The station at the entry of an accepted START: no pending unlock, no manual demand, loop counter 0 (R23). -/
def clearedForStart (n : StationId) (s : State) : State :=
  ((dropManualSpeed n (s.modDrive n (fun d => { d with pendingUnlock := false }))).modDrive n clearedManual).modRun n
    (fun r => { r with loopCounter := 0 })

theorem startStation_eq (n : StationId) (first : Nat) (s : State) :
    startStation n first s = enterStep n first none false (clearedForStart n s) := rfl

@[simp] theorem clearedForStart_outline (n : StationId) (s : State) : (clearedForStart n s).outline = s.outline := by
  simp [clearedForStart]

theorem clearedForStart_run (n : StationId) (s : State) :
    ((clearedForStart n s).st n).run = { (s.st n).run with loopCounter := 0 } := by simp [clearedForStart]

theorem clearedForStart_lidReport (n : StationId) (s : State) :
    ((clearedForStart n s).st n).drive.lidReport = (s.st n).drive.lidReport := by
  obtain ⟨-, -, -, -, -, -, -, -, -, -, -, -, -, hr, -⟩ := (recomputeDrive_sameSpeed n ((s.modDrive n (fun d =>
    { d with pendingUnlock := false })).modDrive n (fun d => { d with manualSpeed := 0, speedHold := none }))).fields
  simpa [clearedForStart, dropManualSpeed, clearedManual, composeSpeed] using hr

theorem atEase_clearedForStart (n : StationId) (s : State) : ((clearedForStart n s).st n).drive.atEase := by
  have hp : ((dropManualSpeed n (s.modDrive n (fun d => { d with pendingUnlock := false }))).st n).drive.pendingUnlock =
      false := recomputeDrive_pending (by simp)
  simp [clearedForStart, DriveContext.atEase, clearedManual, hp]

/-- A station that passes the first four checks of START has no standing cause (R21, R52). -/
theorem standing_of_startReady {s : State} {q : NodeId} {n : StationId} {r : Option StepRecord} {ht : Option Int}
    (h : s.startReady q n) : s.standing n r ht = [] := by
  obtain ⟨-, -, -, -, hroles, ha⟩ := h
  have hs : ∀ role, s.silent n role = false := fun role => (hroles role).2
  cases r <;> simp [State.standing, State.applianceIsolated, ha, hs]

/-- Without an offending slot in its length a recipe passes (R22). -/
theorem recipeFault_eq_none {st : Station} (h : ∀ i, i < st.recipeLength → ∀ d, ¬ st.offends i d) :
    st.recipeFault = none := by
  unfold Station.recipeFault
  rw [List.findSome?_eq_none_iff]
  intro i hi
  rw [slotFault_eq_none (h i (List.mem_range.mp hi))]
  rfl

/-- Settles O5: past the checks START is the entry of its first step from a drive at ease, and no cause stands. -/
theorem startEntersFirstStep : Obligations.StartEntersFirstStep := by
  intro s q tag b f n rec1 h hn hready hf hrecipe hslot
  have hrule : startRule q [b, f] s = (startStation n f.toNat s, done []) := by
    have hpass : s.startRefusal q n f.toNat = none := by
      rw [startRefusal_of_ready hready, if_neg (Nat.not_le.mpr hf), recipeFault_eq_none hrecipe]; rfl
    simp [startRule, withStation_of_some hn, hpass]
  refine ⟨startStation n f.toNat s, answers_of_rule _ h rfl hrule, ?_⟩
  have hout : (clearedForStart n s).outline = s.outline := by simp
  have hlid : (clearedForStart n s).lidLocked n = s.lidLocked n := lidLocked_of hout (clearedForStart_lidReport n s)
  have hr : ((clearedForStart n s).st n).slot f.toNat = rec1 := by
    simp [Station.slot, steps_of hout, hslot]
  have hs : (clearedForStart n s).standing n (some rec1) (some (rec1.heat : Int)) = [] :=
    (standing_of hout ..).trans (standing_of_startReady hready)
  have hrun := enterStep_run (old := none) (b := false) hr rfl hs
  have hphase : entryPhase rec1 ((clearedForStart n s).lidLocked n) = entryPhase rec1 (s.lidLocked n) := by rw [hlid]
  rw [hphase, clearedForStart_run] at hrun
  obtain ⟨h1, h2, h3, h4, h5, h6⟩ := atEase_enterStep (old := none) (b := false) hr hs (atEase_clearedForStart n s)
  have hafter (hlock : rec1.lock = true) (hl : s.lidLocked n = false) : ActsOnLid s (startStation n f.toNat s) n := by
    have hstep : startStation n f.toNat s = enterLocking n (if 0 < rec1.dose then .basing else .active) (.entry none) false
        ((clearedForStart n s).modRun n (enteredRun f.toNat rec1)) := by
      rw [startStation_eq, enterStep_free hr rfl hs, if_pos ⟨hlock, hlid.trans hl⟩]
    rw [hstep]
    refine actsOnLid_of (by simp) (by simp [clearedForStart_lidReport]) (actsOnLid_enterLocking ?_)
    rw [← hl, ← hlid]
    exact lidLocked_of (by simp) (by simp)
  rw [← startStation_eq] at hrun h1 h2 h3 h4 h5 h6
  rw [hrun]
  refine ⟨rfl, rfl, rfl, rfl, rfl, rfl, rfl, rfl, rfl, rfl, rfl, rfl,
    fun hlock hl => ?_, fun hfree => ⟨fun hd => ?_, fun hd => ?_⟩, h1, h2, h3, h4, h5, h6, by simp, by simp, by simp⟩
  · have hp : entryPhase rec1 (s.lidLocked n) = .locking := by simp [entryPhase, hlock, hl]
    rw [hp]
    exact ⟨rfl, rfl, hafter hlock hl⟩
  · have hp : entryPhase rec1 (s.lidLocked n) = .basing := by
      obtain hl | hl := hfree <;> simp [entryPhase, hl, hd]
    rw [hp]
    exact ⟨rfl, rfl⟩
  · have hp : entryPhase rec1 (s.lidLocked n) = .active := by
      obtain hl | hl := hfree <;> simp [entryPhase, hl, hd]
    rw [hp]
    exact ⟨rfl, rfl⟩

end Sys2Proof.Machine

/-! PROOFS. STATION_BIND (R17, R18): the check of the five roles, which frames still wait for a role's node, and what a
changed role forgets. -/

namespace Sys2Proof.Machine

open Sys2Proof

/-! ### The check of the roles (R17) -/

section
variable {s : State} {n : StationId}

theorem bindable_eq_false {k : NodeId} :
    s.bindable k = false ↔ ∀ e, s.nodeEntry k = some e → ¬ (e.origin = .static ∧ e.port = .appliance) := by
  unfold State.bindable
  cases h : s.nodeEntry k with
  | none => simp
  | some e => simp

theorem roleOf_isSome_iff {b : Binding} {k : NodeId} : (roleOf b k).isSome = true ↔ ∃ r, b.get r = some k := by
  rw [Option.isSome_iff_ne_none, ne_eq, roleOf_eq_none_iff]
  simp

theorem roleArg_eq_node {b : Byte} (h : b ≠ 255) (hb : b.toNat ≤ 30) : roleArg b = .node (b.setWidth 5) := by
  rw [roleArg, if_neg h, if_neg (Nat.not_lt.mpr hb)]

/-- Two node numbers of a request name the same node only as the same byte. -/
theorem roleArg_inj {a b : Byte} {k : NodeId} (ha : roleArg a = .node k) (hb : roleArg b = .node k) : a = b := by
  have number : ∀ x : Byte, roleArg x = .node k → x.toNat = k.toNat := by
    intro x hx
    unfold roleArg at hx
    split at hx
    · cases hx
    · split at hx
      · cases hx
      · next hlt =>
        cases hx
        rw [BitVec.toNat_setWidth, Nat.mod_eq_of_lt (by omega)]
  exact BitVec.eq_of_toNat_eq ((number a ha).trans (number b hb).symm)

/-- The model's check of a role value is the one of R17. -/
theorem roleFails_iff (earlier : List Byte) (b : Byte) :
    s.roleFails n (earlier.map roleArg) (roleArg b) = true ↔ s.roleRejected n earlier b := by
  unfold State.roleRejected
  by_cases h : b = 255
  · simp [h, roleArg, State.roleFails]
  by_cases hb : 30 < b.toNat
  · rw [roleArg, if_neg h, if_pos hb]
    exact iff_of_true rfl ⟨h, .inl hb⟩
  have hnode := roleArg_eq_node h (Nat.not_lt.mp hb)
  have hearlier : (earlier.map roleArg).contains (.node (b.setWidth 5)) = true ↔ b ∈ earlier := by
    rw [List.contains_iff_mem, List.mem_map]
    exact ⟨fun ⟨a, ha, he⟩ => roleArg_inj he hnode ▸ ha, fun ha => ⟨b, ha, hnode⟩⟩
  rw [hnode]
  simp only [State.roleFails, Bool.or_eq_true, Bool.not_eq_true', hearlier, bindable_eq_false, roleOf_isSome_iff]
  simp only [ne_eq, h, not_false_eq_true, true_and, hb, false_or, or_assoc]

/-- The first rejected role value is the one refused (R17). -/
theorem firstFailing_eq_some {bytes : List Byte} {i : Nat} {v : Byte} (hv : bytes[i]? = some v) (start : Nat)
    (earlier : List Byte) (hr : s.roleRejected n (earlier ++ bytes.take i) v)
    (hlow : ∀ (j : Nat) (u : Byte), j < i → bytes[j]? = some u → ¬ s.roleRejected n (earlier ++ bytes.take j) u) :
    s.firstFailing n start (earlier.map roleArg) (bytes.map roleArg) = some (start + i) := by
  induction bytes generalizing i start earlier with
  | nil => simp at hv
  | cons a rest ih =>
    cases i with
    | zero =>
      simp only [List.getElem?_cons_zero, Option.some.injEq] at hv
      subst hv
      rw [List.take_zero, List.append_nil] at hr
      simp [State.firstFailing, (roleFails_iff earlier a).mpr hr]
    | succ i =>
      have hpass : s.roleFails n (earlier.map roleArg) (roleArg a) = false := by
        rw [← Bool.not_eq_true, roleFails_iff]
        simpa using hlow 0 a (Nat.succ_pos i) rfl
      have hrest := ih (i := i) (by simpa using hv) (start + 1) (earlier ++ [a]) (by simpa using hr)
        (fun j u hj hu => by simpa using hlow (j + 1) u (Nat.succ_lt_succ hj) (by simpa using hu))
      rw [List.map_append] at hrest
      simp only [List.map_cons, List.map_nil] at hrest
      simp only [List.map_cons, State.firstFailing, hpass, Bool.false_eq_true, if_false]
      rw [hrest]
      exact congrArg some (by omega)

/-- Where no role value is rejected none is refused (R17). -/
theorem firstFailing_passes {bytes : List Byte} (start : Nat) (earlier : List Byte)
    (h : ∀ (i : Nat) (v : Byte), bytes[i]? = some v → ¬ s.roleRejected n (earlier ++ bytes.take i) v) :
    s.firstFailing n start (earlier.map roleArg) (bytes.map roleArg) = none := by
  induction bytes generalizing start earlier with
  | nil => rfl
  | cons a rest ih =>
    have hrest := ih (start + 1) (earlier ++ [a]) (fun i v hv => by simpa using h (i + 1) v (by simpa using hv))
    rw [List.map_append] at hrest
    rw [List.map_cons, firstFailing_eq_none]
    refine ⟨?_, by simpa using hrest⟩
    rw [← Bool.not_eq_true, roleFails_iff]
    simpa using h 0 a rfl

/-- A role value that is not rejected names the node of its byte. -/
theorem toNode_of_passes {earlier : List Byte} {b : Byte} (h : ¬ s.roleRejected n earlier b) :
    (roleArg b).toNode = roleValue b := by
  unfold roleValue
  split
  · next hb => subst hb; rfl
  · next hb =>
    have hle : b.toNat ≤ 30 := Nat.not_lt.mp fun hlt => h ⟨hb, .inl hlt⟩
    rw [roleArg_eq_node hb hle]
    rfl

end

/-! ### Unsent setpoints and their node (R18, R118, R112) -/

/-- Every unsent setpoint of kind `k` goes to this node; with `none` there is no such setpoint. -/
def State.onlyTo (s : State) (k : OwnKind) (d : Option NodeId) : Prop :=
  ∀ x ∈ s.appliance.urgent, x.origin = .own k → d = some x.frame.dest

theorem mem_of_joinQueue {k : OwnKind} {f : Frame} {q : List Queued} {e : Queued} (h : e ∈ joinQueue k f q) :
    e ∈ q ∨ e.origin = .own k ∧ e.frame = f := by
  have rewritten : ∀ l : List Queued, e ∈ rewriteFirst (Queued.isKind k) f l → e ∈ l ∨ e.origin = .own k ∧ e.frame = f := by
    intro l
    induction l with
    | nil => simp [rewriteFirst]
    | cons a l ih =>
      unfold rewriteFirst
      split
      · next ha =>
        intro he
        obtain rfl | he := List.mem_cons.mp he
        · exact .inr ⟨(isKind_iff k a).mp ha, rfl⟩
        · exact .inl (List.mem_cons_of_mem _ he)
      · intro he
        obtain rfl | he := List.mem_cons.mp he
        · exact .inl (List.mem_cons_self ..)
        · exact (ih he).imp_left (List.mem_cons_of_mem _)
  unfold joinQueue at h
  split at h
  · exact rewritten q h
  · obtain h | h := List.mem_append.mp h
    · exact .inl h
    · obtain rfl := List.mem_singleton.mp h
      exact .inr ⟨rfl, rfl⟩

section
variable {s t : State} {n : StationId} {k : OwnKind} {d : Option NodeId}

theorem onlyTo_of (h : t.appliance.urgent = s.appliance.urgent) (hs : s.onlyTo k d) : t.onlyTo k d := by
  unfold State.onlyTo; rw [h]; exact hs

theorem onlyTo_of_none (h : s.onlyTo k none) : s.onlyTo k d := fun x hx hk => by cases h x hx hk

theorem onlyTo_modPort {f : PortState → PortState} (hs : s.onlyTo k d)
    (hf : ∀ x ∈ (f s.appliance).urgent, x.origin = .own k → x ∈ s.appliance.urgent ∨ d = some x.frame.dest) :
    (s.modPort .appliance f).onlyTo k d := by
  intro x hx hk
  obtain h | h := hf x hx hk
  · exact hs x h hk
  · exact h

theorem onlyTo_discardUnsent (k' : OwnKind) (hs : s.onlyTo k d) : (discardUnsent k' s).onlyTo k d := by
  refine onlyTo_modPort hs fun x hx _ => .inl ?_
  cases hc : k'.cls <;> simp only [hc, PortState.modQueue] at hx
  · exact (List.mem_filter.mp hx).1
  · exact hx
  · exact hx

/-- A discarded setpoint stands in no queue (R18). -/
theorem onlyTo_discarded (h : k.cls = .urgent) : (discardUnsent k s).onlyTo k none := by
  intro x hx hk
  have hx : x ∈ (s.appliance.modQueue k.cls (List.filter (fun e => !Queued.isKind k e))).urgent := hx
  rw [h] at hx
  obtain ⟨-, hx⟩ := List.mem_filter.mp hx
  simp [(isKind_iff k x).mpr hk] at hx

theorem onlyTo_originate {k' : OwnKind} {d' : NodeId} {p : List Byte} (hs : s.onlyTo k d) (hk : k' = k → d = some d') :
    (originate k' d' p s).onlyTo k d := by
  have counted : ∀ r c, (countPort r c s).onlyTo k d := by
    intro r c
    cases r <;> exact hs
  unfold originate
  split
  · exact counted _ _
  · cases hp : k'.port with
    | control => exact hs
    | appliance =>
      refine onlyTo_modPort hs fun x hx ho => ?_
      cases hc : k'.cls with
      | urgent =>
        rw [hc] at hx
        obtain hx | ⟨ho', hf⟩ := mem_of_joinQueue hx
        · exact .inl hx
        · rw [ho'] at ho
          obtain rfl : k' = k := by simpa using ho
          right
          rw [hf]
          exact hk rfl
      | control => rw [hc] at hx; exact .inl hx
      | bulk => rw [hc] at hx; exact .inl hx

theorem onlyTo_testUnlock (hs : s.onlyTo k d) (hk : k ≠ .lidSet n) : (testUnlock n s).onlyTo k d := by
  unfold testUnlock sendLidSet
  (repeat' split)
  · exact onlyTo_of (by simp) hs
  · exact onlyTo_originate (onlyTo_of (by simp) hs) (fun h => absurd h.symm hk)
  · exact hs

theorem onlyTo_sendSpeedSet (hs : s.onlyTo k d) (hk : k = .speedSet n → d = (s.st n).binding.drive) :
    (sendSpeedSet n s).onlyTo k d := by
  unfold sendSpeedSet
  split
  · exact hs
  · next d' hd => exact onlyTo_originate hs (fun h => (hk h.symm).trans hd)

end

/-! ### What the arbiter's work leaves, and the last value sent (R108 to R112) -/

/-- The arbiter's work touches the arbiter, the demands and HEAT_SETs to the bound HEATER nodes: what none of these
moves, it keeps. -/
structure ArbiterKeeps (P : State → Prop) : Prop where
  arbiter : ∀ v a, P v → P { v with arbiter := a }
  demand : ∀ v n d, P v → P (v.modHeat n (fun h => { h with demand := d }))
  sent : ∀ v n d p, (v.st n).binding.heater = some d → P v → P (originate (.heatSet n) d p v)

section
variable {P : State → Prop} {s : State} {n : StationId}

theorem ArbiterKeeps.side (hP : ArbiterKeeps P) {f : ArbiterSide → ArbiterSide} (h : P s) : P (s.modSide n f) := by
  cases n <;> exact hP.arbiter _ _ h

theorem ArbiterKeeps.testGrant (hP : ArbiterKeeps P) (h : P s) : P (testGrant n s) := by
  unfold Machine.testGrant sendHeatSet
  (repeat' split)
  · exact h
  · next k hk => exact hP.sent _ n k _ (by simpa using hk) (hP.side h)
  · exact h

theorem ArbiterKeeps.recompute (hP : ArbiterKeeps P) (h : P s) : P (recomputeArbiter s) :=
  hP.testGrant (hP.testGrant (hP.arbiter _ _ h))

theorem ArbiterKeeps.followDemand (hP : ArbiterKeeps P) (h : P s) : P (followDemand n s) := by
  unfold Machine.followDemand
  split
  · exact h
  · exact hP.recompute (hP.side h)

theorem ArbiterKeeps.followManualHeat (hP : ArbiterKeeps P) (h : P s) : P (followManualHeat n s) := by
  unfold Machine.followManualHeat setDemand
  (repeat' split)
  · exact h
  · exact hP.followDemand (hP.demand _ _ _ h)
  · exact h

/-- The settling of the demand at the end of a new binding (R18). -/
theorem ArbiterKeeps.settle (hP : ArbiterKeeps P) (h : P s) : P (Machine.followDemand n (Machine.followManualHeat n s)) :=
  hP.followDemand (hP.followManualHeat h)

end

/-- The HEATER nodes stay bound while the arbiter works. -/
theorem arbiterKeeps_onlyTo {k : OwnKind} {d : Option NodeId} {b : StationId → Option NodeId}
    (hk : ∀ n, k = .heatSet n → d = b n) :
    ArbiterKeeps (fun v => v.onlyTo k d ∧ ∀ n, (v.st n).binding.heater = b n) where
  arbiter v a h := ⟨h.1, fun n => (by cases n <;> rfl : _ = (v.st n).binding.heater).trans (h.2 n)⟩
  demand v n x h := ⟨onlyTo_of (by simp) h.1, fun m => by rw [← h.2 m]; simp⟩
  sent v n x p hx h := ⟨onlyTo_originate h.1 (fun he => (hk n he.symm).trans ((h.2 n).symm.trans hx)),
    fun m => by rw [← h.2 m]; simp⟩

theorem arbiterKeeps_unsent {k : OwnKind} {dest : NodeId} {payload : List Byte} (hk : ∀ n, k ≠ .heatSet n) :
    ArbiterKeeps (fun v => Unsent v k dest payload) where
  arbiter v a h := unsent_of (by cases k.port <;> rfl) rfl h
  demand v n x h := unsent_of (by simp) (by simp) h
  sent v n x p _ h := unsent_originate_other (hk n) h

/-- The arbiter's work keeps the stations but for the demands. -/
theorem arbiterKeeps_station {n : StationId} {d : DriveContext} {h0 : HeatContext} :
    ArbiterKeeps (fun v => (v.st n).drive = d ∧ { (v.st n).heat with demand := 0 } = h0) where
  arbiter v a h := ⟨(by cases n <;> rfl : _ = (v.st n).drive).trans h.1,
    (by cases n <;> rfl : _ = { (v.st n).heat with demand := 0 }).trans h.2⟩
  demand v m x h := ⟨by rw [← h.1]; simp, by rw [← h.2]; cases n <;> cases m <;> rfl⟩
  sent v m x p _ h := ⟨by rw [← h.1]; simp, by rw [← h.2]; simp⟩

theorem followDemand_draw (n : StationId) (s : State) (m : StationId) :
    ((followDemand n s).side m).draw = (s.side m).draw := by
  unfold followDemand
  split
  · rfl
  · rw [recomputeArbiter_draw]; cases n <;> cases m <;> rfl

theorem followManualHeat_draw (n : StationId) (s : State) (m : StationId) :
    ((followManualHeat n s).side m).draw = (s.side m).draw := by
  unfold followManualHeat setDemand
  (repeat' split)
  · rfl
  · rw [followDemand_draw]; exact congrArg ArbiterSide.draw (side_of_arbiter (by simp) m)
  · rfl

section
variable {s : State} {n : StationId}

theorem testGrant_side_self (n : StationId) (s : State) : ((testGrant n s).side n).grant = (s.side n).grant ∧
    ((testGrant n s).side n).lastSent =
      if (s.st n).binding.heater ≠ none ∧ grantDue (s.side n).grant (s.side n).lastSent = true then some (s.side n).grant
      else (s.side n).lastSent := by
  by_cases hb : (s.st n).binding.heater = none
  · rw [testGrant_of_unbound hb]; simp [hb]
  by_cases hd : grantDue (s.side n).grant (s.side n).lastSent = true
  · obtain ⟨k, hk⟩ := Option.ne_none_iff_exists'.mp hb
    rw [testGrant_of_due hd, sendHeatSet_of_bound hk, side_of_arbiter (originate_arbiter ..)]
    simp [hb, hd]
  · rw [testGrant_of_not_due hd]; simp [hd]

theorem testGrant_side_other {m : StationId} (h : m ≠ n) (s : State) : (testGrant n s).side m = s.side m := by
  obtain ha | ha := testGrant_arbiter n s <;> rw [side_of_arbiter ha]
  exact side_modSide_ne h

/-- The last value sent after a recomputation (R110, R112). -/
theorem recomputeArbiter_lastSent (n : StationId) (s : State) : ((recomputeArbiter s).side n).lastSent =
    if (s.st n).binding.heater ≠ none ∧ grantDue ((recomputeArbiter s).side n).grant (s.side n).lastSent = true then
      some ((recomputeArbiter s).side n).grant
    else (s.side n).lastSent := by
  have hst : ∀ a, ({ s with arbiter := a } : State).st n = s.st n := fun a => by cases n <;> rfl
  have hlast : (({ s with arbiter := divideArbiter s.arbiter } : State).side n).lastSent = (s.side n).lastSent := by
    cases n <;> rfl
  cases n with
  | zero =>
    obtain ⟨hg, hl⟩ := testGrant_side_self .zero { s with arbiter := divideArbiter s.arbiter }
    simp only [recomputeArbiter, testGrant_side_other (n := .one) (m := .zero) (by decide)]
    rw [hl, hg, hst, hlast]
  | one =>
    obtain ⟨hg, hl⟩ := testGrant_side_self .one (testGrant .zero { s with arbiter := divideArbiter s.arbiter })
    have hother := testGrant_side_other (n := .zero) (m := .one) (by decide) { s with arbiter := divideArbiter s.arbiter }
    rw [hother, testGrant_binding, hst, hlast] at hl
    rw [hother] at hg
    have hgrant : ((recomputeArbiter s).side .one).grant = _ := hg
    simp only [hgrant]
    exact hl

/-- A station that is counted with no demand is granted nothing (R109). -/
theorem recomputeArbiter_grant_zero (h : (s.side n).counted = 0) : ((recomputeArbiter s).side n).grant = 0 := by
  have hgrants := (recomputeArbiter_divides s).2
  generalize (recomputeArbiter s).arbiter.available = a at hgrants
  unfold divideGrants at hgrants
  cases n <;> rw [h] at hgrants <;> (repeat' split at hgrants) <;> simp only [Prod.mk.injEq] at hgrants <;> omega

/-- A changed HEATER role knows no value sent but the present grant (R18). -/
def sentAnew (n : StationId) (s : State) : Prop :=
  (s.side n).lastSent = none ∨ (s.st n).binding.heater ≠ none ∧ (s.side n).lastSent = some (s.side n).grant

theorem sentAnew_recomputeArbiter (h : (s.side n).lastSent = none) : sentAnew n (recomputeArbiter s) := by
  unfold sentAnew
  rw [recomputeArbiter_lastSent, h, recomputeArbiter_binding]
  by_cases hb : (s.st n).binding.heater = none
  · simp [hb]
  · simp [hb, grantDue]

theorem sentAnew_recomputeArbiter_zero (h : sentAnew n s) (hc : (s.side n).counted = 0) :
    sentAnew n (recomputeArbiter s) := by
  obtain h | ⟨hb, hl⟩ := h
  · exact sentAnew_recomputeArbiter h
  · right
    rw [recomputeArbiter_lastSent, hl, recomputeArbiter_binding, recomputeArbiter_grant_zero hc]
    refine ⟨hb, ?_⟩
    generalize (s.side n).grant = g
    by_cases hg : g = 0
    · subst hg; simp
    · rw [if_pos ⟨hb, by simp [grantDue, hg]⟩]

/-- Without manual heat the demand of an IDLE station, and with it the counted demand, is 0 (R99, R107). -/
theorem sentAnew_followDemand (h : sentAnew n s) (hc : s.countedDemand n = 0) : sentAnew n (followDemand n s) := by
  unfold followDemand
  split
  · exact h
  · refine sentAnew_recomputeArbiter_zero ?_ (by simpa using hc)
    unfold sentAnew at h ⊢
    cases n <;> exact h

theorem countedDemand_of_demand_zero (h : (s.st n).heat.demand = 0) : s.countedDemand n = 0 := by
  unfold State.countedDemand; rw [h, ite_self]

theorem sentAnew_settle (h : sentAnew n s) (hi : (s.st n).run.state = .idle) (hm : (s.st n).drive.manualHeat = 0) :
    sentAnew n (followDemand n (followManualHeat n s)) := by
  have hidle : s.idleDemand n = 0 := by unfold State.idleDemand; rw [hm, ite_self]
  have hdemand : ((followManualHeat n s).st n).heat.demand = 0 := by
    unfold followManualHeat
    rw [if_pos hi, setDemand_heat, hidle]
  refine sentAnew_followDemand ?_ (countedDemand_of_demand_zero hdemand)
  unfold followManualHeat
  rw [if_pos hi, hidle]
  unfold setDemand
  split
  · exact h
  · refine sentAnew_followDemand ?_ (countedDemand_of_demand_zero (by simp))
    unfold sentAnew at h ⊢
    rw [side_of_arbiter (modHeat_arbiter ..)]
    simpa using h

end

end Sys2Proof.Machine

/-! PROOFS. STATION_BIND (R17, R18): what a new binding forgets and what follows it, and the obligation about it. -/

namespace Sys2Proof.Machine

open Sys2Proof

/-! ### What a changed role forgets (R18) -/

/-- The part of R18 for a changed DRIVE role. -/
def forgetDriveRole (n : StationId) (old new : Binding) (s : State) : State :=
  if old.drive = new.drive then s else
    (discardUnsent (.speedSet n) (s.modDrive n (forgetDrive (s.nodeSilent new.drive)))).modSide n
      (fun a => { a with draw := 0 })

/-- The part of R18 for a changed HEATER role. -/
def forgetHeaterRole (n : StationId) (old new : Binding) (s : State) : State :=
  if old.heater = new.heater then s else
    (((discardUnsent (.heatSet n) s).modDrive n (fun d => { d with manualHeat := 0, heatHold := none })).modHeat n
      (fun h => { h with report := none })).modSide n (fun a => { a with lastSent := none })

/-- The part of R18 for a changed WEIGH role. -/
def forgetWeighRole (n : StationId) (old new : Binding) (s : State) : State :=
  if old.weigh = new.weigh then s else s.modWeigh n flushRing

/-- The part of R18 for a changed THERMO role. -/
def forgetThermoRole (n : StationId) (old new : Binding) (s : State) : State :=
  if old.thermo = new.thermo then s else s.modHeat n (fun h => { h with bowl := none, sensorFault := none })

/-- The part of R18 for a changed LID role. -/
def forgetLidRole (n : StationId) (old new : Binding) (s : State) : State :=
  if old.lid = new.lid then s else
    (discardUnsent (.lidSet n) s).modDrive n (fun d => { d with lidCommand := none, lidReport := none })

theorem forgetRoles_eq (n : StationId) (old new : Binding) (s : State) : forgetRoles n old new s =
    forgetLidRole n old new (forgetThermoRole n old new (forgetWeighRole n old new (forgetHeaterRole n old new
      (forgetDriveRole n old new s)))) := rfl

section
variable {s : State} {n : StationId} {old new : Binding} {k : OwnKind} {d : Option NodeId}

theorem onlyTo_modDrive {f : DriveContext → DriveContext} (h : s.onlyTo k d) : (s.modDrive n f).onlyTo k d :=
  onlyTo_of (by simp) h

theorem onlyTo_modHeat {f : HeatContext → HeatContext} (h : s.onlyTo k d) : (s.modHeat n f).onlyTo k d :=
  onlyTo_of (by simp) h

theorem onlyTo_modSide {f : ArbiterSide → ArbiterSide} (h : s.onlyTo k d) : (s.modSide n f).onlyTo k d :=
  onlyTo_of (by cases n <;> rfl) h

theorem onlyTo_forgetHeaterRole (h : s.onlyTo k d) : (forgetHeaterRole n old new s).onlyTo k d := by
  unfold forgetHeaterRole
  split
  · exact h
  · exact onlyTo_modSide (onlyTo_modHeat (onlyTo_modDrive (onlyTo_discardUnsent _ h)))

theorem onlyTo_forgetWeighRole (h : s.onlyTo k d) : (forgetWeighRole n old new s).onlyTo k d := by
  unfold forgetWeighRole
  split
  · exact h
  · exact onlyTo_of (by cases n <;> rfl) h

theorem onlyTo_forgetThermoRole (h : s.onlyTo k d) : (forgetThermoRole n old new s).onlyTo k d := by
  unfold forgetThermoRole
  split
  · exact h
  · exact onlyTo_modHeat h

theorem onlyTo_forgetLidRole (h : s.onlyTo k d) : (forgetLidRole n old new s).onlyTo k d := by
  unfold forgetLidRole
  split
  · exact h
  · exact onlyTo_modDrive (onlyTo_discardUnsent _ h)

/-- A changed DRIVE role forgets the manual speed, the report, the draw and the unsent SPEED_SET (R18). -/
theorem forgetRoles_drive (h : old.drive ≠ new.drive) :
    ((forgetRoles n old new s).st n).drive.manualSpeed = 0 ∧ ((forgetRoles n old new s).st n).drive.speedHold = none ∧
    ((forgetRoles n old new s).st n).drive.report = none ∧
    ((forgetRoles n old new s).st n).drive.spinDownElapsed = false ∧ ((forgetRoles n old new s).side n).draw = 0 ∧
    (forgetRoles n old new s).onlyTo (.speedSet n) none := by
  have hqueue : (forgetRoles n old new s).onlyTo (.speedSet n) none := by
    rw [forgetRoles_eq]
    refine onlyTo_forgetLidRole (onlyTo_forgetThermoRole (onlyTo_forgetWeighRole (onlyTo_forgetHeaterRole ?_)))
    unfold forgetDriveRole
    rw [if_neg h]
    exact onlyTo_modSide (onlyTo_discarded rfl)
  refine ⟨?_, ?_, ?_, ?_, ?_, hqueue⟩ <;> unfold forgetRoles <;> dsimp only <;> rw [if_neg h]
  · (repeat' split) <;> simp [forgetDrive]
  · (repeat' split) <;> simp [forgetDrive]
  · (repeat' split) <;> simp [forgetDrive]
  · (repeat' split) <;> simp [forgetDrive]
  · cases n <;> (repeat' split) <;> simp [State.side, State.modSide]

/-- An unchanged DRIVE role keeps them (R18). -/
theorem forgetRoles_drive_same (h : old.drive = new.drive) :
    ((forgetRoles n old new s).st n).drive.manualSpeed = (s.st n).drive.manualSpeed ∧
    ((forgetRoles n old new s).st n).drive.speedHold = (s.st n).drive.speedHold ∧
    ((forgetRoles n old new s).st n).drive.report = (s.st n).drive.report ∧
    ((forgetRoles n old new s).side n).draw = (s.side n).draw := by
  refine ⟨?_, ?_, ?_, ?_⟩ <;> unfold forgetRoles <;> dsimp only <;> rw [if_pos h]
  · (repeat' split) <;> simp
  · (repeat' split) <;> simp
  · (repeat' split) <;> simp
  · cases n <;> (repeat' split) <;> simp [State.side, State.modSide]

/-- A changed HEATER role forgets the manual heat, the report, the last value sent and the unsent HEAT_SET (R18). -/
theorem forgetRoles_heater (h : old.heater ≠ new.heater) :
    ((forgetRoles n old new s).st n).drive.manualHeat = 0 ∧ ((forgetRoles n old new s).st n).drive.heatHold = none ∧
    ((forgetRoles n old new s).st n).heat.report = none ∧ ((forgetRoles n old new s).side n).lastSent = none ∧
    (forgetRoles n old new s).onlyTo (.heatSet n) none := by
  have hqueue : (forgetRoles n old new s).onlyTo (.heatSet n) none := by
    rw [forgetRoles_eq]
    refine onlyTo_forgetLidRole (onlyTo_forgetThermoRole (onlyTo_forgetWeighRole ?_))
    unfold forgetHeaterRole
    rw [if_neg h]
    exact onlyTo_modSide (onlyTo_modHeat (onlyTo_modDrive (onlyTo_discarded rfl)))
  refine ⟨?_, ?_, ?_, ?_, hqueue⟩ <;> unfold forgetRoles <;> dsimp only <;> rw [if_neg h]
  · (repeat' split) <;> simp
  · (repeat' split) <;> simp
  · (repeat' split) <;> simp
  · cases n <;> (repeat' split) <;> simp [State.side, State.modSide]

theorem forgetRoles_heater_same (h : old.heater = new.heater) :
    ((forgetRoles n old new s).st n).drive.manualHeat = (s.st n).drive.manualHeat ∧
    ((forgetRoles n old new s).st n).drive.heatHold = (s.st n).drive.heatHold ∧
    ((forgetRoles n old new s).st n).heat.report = (s.st n).heat.report := by
  refine ⟨?_, ?_, ?_⟩ <;> unfold forgetRoles <;> dsimp only <;> rw [if_pos h]
  · (repeat' split) <;> simp [forgetDrive]
  · (repeat' split) <;> simp [forgetDrive]
  · (repeat' split) <;> simp

/-- A changed WEIGH role flushes the ring (R18). -/
theorem forgetRoles_weigh : ((forgetRoles n old new s).st n).weigh =
    if old.weigh = new.weigh then (s.st n).weigh else flushRing (s.st n).weigh := by
  unfold forgetRoles
  dsimp only
  (repeat' split) <;> simp

/-- A changed THERMO role forgets the temperature and the sensor fault (R18). -/
theorem forgetRoles_thermo :
    ((forgetRoles n old new s).st n).heat.bowl = (if old.thermo = new.thermo then (s.st n).heat.bowl else none) ∧
    ((forgetRoles n old new s).st n).heat.sensorFault =
      if old.thermo = new.thermo then (s.st n).heat.sensorFault else none := by
  unfold forgetRoles
  dsimp only
  constructor <;> (repeat' split) <;> simp

/-- A changed LID role forgets the report, the lid command and the unsent LID_SET, and a pending unlock stays (R18). -/
theorem forgetRoles_lid (h : old.lid ≠ new.lid) :
    ((forgetRoles n old new s).st n).drive.lidReport = none ∧ ((forgetRoles n old new s).st n).drive.lidCommand = none ∧
    ((forgetRoles n old new s).st n).drive.pendingUnlock = (s.st n).drive.pendingUnlock ∧
    (forgetRoles n old new s).onlyTo (.lidSet n) none := by
  have hqueue : (forgetRoles n old new s).onlyTo (.lidSet n) none := by
    rw [forgetRoles_eq]
    unfold forgetLidRole
    rw [if_neg h]
    exact onlyTo_modDrive (onlyTo_discarded rfl)
  refine ⟨?_, ?_, ?_, hqueue⟩ <;> unfold forgetRoles <;> dsimp only <;> rw [if_neg h]
  · (repeat' split) <;> simp
  · (repeat' split) <;> simp
  · (repeat' split) <;> simp [forgetDrive]

end

/-! ### What follows a new binding (R18) -/

/-- The fields of the drive context that a recomputation reads and does not write. -/
def DriveContext.inputs (d : DriveContext) :
    Nat × Option Nat × Nat × Option Nat × Option DriveReport × Option LidReport × Bool :=
  (d.manualSpeed, d.speedHold, d.manualHeat, d.heatHold, d.report, d.lidReport, d.spinDownElapsed)

theorem DriveContext.sameSpeed.inputs {d e : DriveContext} (h : d.sameSpeed e) : d.inputs = e.inputs := by
  unfold DriveContext.sameSpeed at h; rw [h]; rfl

section
variable {s v : State} {n : StationId} {old new : Binding} {k : OwnKind} {d : Option NodeId}

theorem recomputeDrive_inputs : ((recomputeDrive n v).st n).drive.inputs = (v.st n).drive.inputs :=
  (recomputeDrive_sameSpeed n v).inputs

theorem recomputeEnvelope_inputs : ((recomputeEnvelope n v).st n).drive.inputs = (v.st n).drive.inputs :=
  recomputeDrive_inputs.trans (by simp [DriveContext.inputs])

theorem settle_station : ((followDemand n (followManualHeat n v)).st n).drive = (v.st n).drive ∧
    { ((followDemand n (followManualHeat n v)).st n).heat with demand := 0 } = { (v.st n).heat with demand := 0 } :=
  (arbiterKeeps_station (n := n) (d := (v.st n).drive) (h0 := { (v.st n).heat with demand := 0 })).settle ⟨rfl, rfl⟩

/-- The state after the envelope and the speed that a new binding recomputes, and before the demand settles (R18). -/
def speedFollows (n : StationId) (old new : Binding) (v : State) : State :=
  let v1 := if old.thermo = new.thermo ∧ old.lid = new.lid then v else recomputeEnvelope n v
  if old.drive = new.drive then v1 else recomputeArbiter (sendSpeedSet n (recomputeDrive n v1))

theorem followBinding_eq : followBinding n old new v =
    if old.lid ≠ new.lid ∧ new.lid.isSome = true then
      testUnlock n (followDemand n (followManualHeat n (speedFollows n old new v)))
    else followDemand n (followManualHeat n (speedFollows n old new v)) := rfl

theorem speedFollows_keeps : ((speedFollows n old new v).st n).drive.inputs = (v.st n).drive.inputs ∧
    ((speedFollows n old new v).st n).heat = (v.st n).heat ∧
    ((speedFollows n old new v).side n).draw = (v.side n).draw ∧
    ((speedFollows n old new v).st n).run = (v.st n).run := by
  have first : ∀ w : State, w = (if old.thermo = new.thermo ∧ old.lid = new.lid then v else recomputeEnvelope n v) →
      (w.st n).drive.inputs = (v.st n).drive.inputs ∧ (w.st n).heat = (v.st n).heat ∧ w.arbiter = v.arbiter ∧
      (w.st n).run = (v.st n).run := by
    intro w hw
    split at hw <;> subst hw
    · exact ⟨rfl, rfl, rfl, rfl⟩
    · exact ⟨recomputeEnvelope_inputs, by simp [recomputeEnvelope], by simp, by simp⟩
  unfold speedFollows
  dsimp only
  obtain ⟨hi, hh, ha, hr⟩ := first _ rfl
  split
  · exact ⟨hi, hh, congrArg ArbiterSide.draw (side_of_arbiter ha n), hr⟩
  · refine ⟨?_, ?_, ?_, ?_⟩
    · rw [recomputeArbiter_st, sendSpeedSet_drive, recomputeDrive_inputs, hi]
    · rw [recomputeArbiter_st, sendSpeedSet_heat, recomputeDrive_heat, hh]
    · rw [recomputeArbiter_draw]
      exact congrArg ArbiterSide.draw (side_of_arbiter (by simp [ha]) n)
    · simp [hr]

theorem followBinding_keeps : ((followBinding n old new v).st n).drive.inputs = (v.st n).drive.inputs ∧
    { ((followBinding n old new v).st n).heat with demand := 0 } = { (v.st n).heat with demand := 0 } ∧
    ((followBinding n old new v).side n).draw = (v.side n).draw := by
  obtain ⟨hi, hh, hd, -⟩ := speedFollows_keeps (n := n) (old := old) (new := new) (v := v)
  obtain ⟨sd, sh⟩ := settle_station (n := n) (v := speedFollows n old new v)
  have hside := (followDemand_draw n (followManualHeat n (speedFollows n old new v)) n).trans
    ((followManualHeat_draw n _ n).trans hd)
  rw [hh] at sh
  rw [followBinding_eq]
  split
  · refine ⟨?_, ?_, ?_⟩
    · rw [(testUnlock_sameSpeed n _).inputs, sd, hi]
    · rw [testUnlock_heat, sh]
    · exact (congrArg ArbiterSide.draw (side_of_arbiter (testUnlock_arbiter ..) n)).trans hside
  · exact ⟨by rw [sd, hi], sh, hside⟩

/-- Before the interlock is tested a recomputation sends nothing but a SPEED_SET (R118). -/
theorem recomputeDrive_cases (n : StationId) (v : State) : ∃ w : State,
    (w.st n).drive = composeSpeed (v.requestOf n) (v.st n).drive ∧ w.outline = v.outline ∧
    (∀ k d, (k = .speedSet n → d = (v.st n).binding.drive) → v.onlyTo k d → w.onlyTo k d) ∧
    (recomputeDrive n v = w ∨ (w.st n).drive.commanded = 0 ∧ recomputeDrive n v = testUnlock n w) := by
  have hcomposed : ∀ k d, v.onlyTo k d → (composedState n v).onlyTo k d := by
    intro k d h
    unfold composedState countStation
    dsimp only
    split <;> exact onlyTo_of (by simp) h
  have hout : (composedState n v).outline = v.outline := by
    unfold composedState
    dsimp only
    split <;> simp
  rw [recomputeDrive_eq]
  dsimp only
  refine ⟨if (composeSpeed (v.requestOf n) (v.st n).drive).commanded ≠ (v.st n).drive.commanded ∨
      (composeSpeed (v.requestOf n) (v.st n).drive).commandedDir ≠ (v.st n).drive.commandedDir then
    sendSpeedSet n (composedState n v) else composedState n v, ?_, ?_, fun k d hk h => ?_, ?_⟩
  · split <;> simp [composedState_drive]
  · split <;> simp [hout]
  · split
    · exact onlyTo_sendSpeedSet (hcomposed k d h) (fun he => (hk he).trans (congrArg Binding.drive (binding_of hout n)).symm)
    · exact hcomposed k d h
  · by_cases hc : (composeSpeed (v.requestOf n) (v.st n).drive).commanded = 0
    · right
      rw [if_pos hc]
      exact ⟨by split <;> simp [composedState_drive, hc], rfl⟩
    · left
      rw [if_neg hc]

theorem onlyTo_recomputeDrive (hk : k ≠ .lidSet n) (hs : k = .speedSet n → d = (v.st n).binding.drive) (h : v.onlyTo k d) :
    (recomputeDrive n v).onlyTo k d := by
  obtain ⟨w, -, -, hw, he | ⟨-, he⟩⟩ := recomputeDrive_cases n v <;> rw [he]
  · exact hw k d hs h
  · exact onlyTo_testUnlock (hw k d hs h) hk

theorem onlyTo_recomputeEnvelope (hk : k ≠ .lidSet n) (hs : k = .speedSet n → d = (v.st n).binding.drive)
    (h : v.onlyTo k d) : (recomputeEnvelope n v).onlyTo k d :=
  onlyTo_recomputeDrive hk (by simpa using hs) (onlyTo_modDrive h)

/-- What the arbiter's work keeps of the unsent setpoints, beside the HEATER nodes it sends to. -/
theorem onlyTo_arbiterWork (hh : ∀ m, k = .heatSet m → d = (v.st m).binding.heater) (h : v.onlyTo k d) :
    (recomputeArbiter v).onlyTo k d ∧ (followDemand n (followManualHeat n v)).onlyTo k d := by
  have keeps := arbiterKeeps_onlyTo (k := k) (d := d) (b := fun m => (v.st m).binding.heater) hh
  exact ⟨(keeps.recompute ⟨h, fun _ => rfl⟩).1, (keeps.settle (n := n) ⟨h, fun _ => rfl⟩).1⟩

/-- A new binding sends setpoints to its own nodes only (R18). -/
theorem onlyTo_followBinding (hk : k ≠ .lidSet n) (hs : k = .speedSet n → d = (v.st n).binding.drive)
    (hh : ∀ m, k = .heatSet m → d = (v.st m).binding.heater) (h : v.onlyTo k d) : (followBinding n old new v).onlyTo k d := by
  have first : (if old.thermo = new.thermo ∧ old.lid = new.lid then v else recomputeEnvelope n v).onlyTo k d := by
    split
    · exact h
    · exact onlyTo_recomputeEnvelope hk hs h
  have hbinding : ∀ m, ((if old.thermo = new.thermo ∧ old.lid = new.lid then v else recomputeEnvelope n v).st m).binding =
      (v.st m).binding := by
    intro m
    split <;> simp
  have second : (speedFollows n old new v).onlyTo k d ∧
      ∀ m, ((speedFollows n old new v).st m).binding = (v.st m).binding := by
    unfold speedFollows
    dsimp only
    split
    · exact ⟨first, hbinding⟩
    · refine ⟨?_, fun m => by simp [hbinding]⟩
      refine (onlyTo_arbiterWork (n := n) (fun m hm => by simpa [hbinding] using hh m hm) ?_).1
      exact onlyTo_sendSpeedSet (onlyTo_recomputeDrive hk (by simpa [hbinding] using hs) first) (by simpa [hbinding] using hs)
  have settled := (onlyTo_arbiterWork (n := n) (fun m hm => by simpa [second.2] using hh m hm) second.1).2
  rw [followBinding_eq]
  split
  · exact onlyTo_testUnlock settled hk
  · exact settled

/-- A changed DRIVE role sends the commanded speed to the new node (R18, R118). -/
theorem unsent_followBinding {x : NodeId} (hd : old.drive ≠ new.drive) (hx : (v.st n).binding.drive = some x)
    (ha : v.appliance.health ≠ .isolated) : Unsent (followBinding n old new v) (.speedSet n) x
      (putU16 ((followBinding n old new v).st n).drive.commanded ++
        [byteOf (dirCode ((followBinding n old new v).st n).drive.commandedDir)]) := by
  have sent : ∀ w : State, w.outline = v.outline → Unsent (sendSpeedSet n w) (.speedSet n) x
      (speedPayload (w.st n).drive.commanded (w.st n).drive.commandedDir) := by
    intro w hw
    have hb : (w.st n).binding.drive = some x := (congrArg Binding.drive (binding_of hw n)).trans hx
    simp only [sendSpeedSet, hb]
    refine unsent_originate ?_
    rw [health_of hw]
    exact ha
  have keeps : ∀ c e, ArbiterKeeps (fun w => Unsent w (.speedSet n) x (speedPayload c e)) :=
    fun c e => arbiterKeeps_unsent (fun m => by simp)
  have main : ∀ w : State, w.outline = v.outline →
      Unsent (followDemand n (followManualHeat n (recomputeArbiter (sendSpeedSet n w)))) (.speedSet n) x
        (speedPayload (w.st n).drive.commanded (w.st n).drive.commandedDir) := fun w hw =>
    (keeps _ _).settle ((keeps _ _).recompute (sent w hw))
  have hsettled : ∃ c e, Unsent (followDemand n (followManualHeat n (speedFollows n old new v))) (.speedSet n) x
        (speedPayload c e) ∧
      ((followDemand n (followManualHeat n (speedFollows n old new v))).st n).drive.commanded = c ∧
      ((followDemand n (followManualHeat n (speedFollows n old new v))).st n).drive.commandedDir = e := by
    unfold speedFollows
    rw [if_neg hd]
    refine ⟨_, _, main _ ?_, ?_, ?_⟩
    · split <;> simp
    · rw [(settle_station (n := n)).1, recomputeArbiter_st, sendSpeedSet_drive]
    · rw [(settle_station (n := n)).1, recomputeArbiter_st, sendSpeedSet_drive]
  obtain ⟨c, e, hu, hc, he⟩ := hsettled
  rw [followBinding_eq]
  split
  · obtain ⟨-, -, hcom, hdir, -⟩ := (testUnlock_sameSpeed n
      (followDemand n (followManualHeat n (speedFollows n old new v)))).fields
    rw [hcom, hdir, hc, he]
    exact unsent_testUnlock (by simp) hu
  · rw [hc, he]
    exact hu

/-! ### A changed LID role (R18, R129) -/

/-- What a changed LID role comes to: no lid command and no LID_SET, or a pending unlock that was served over a still blade. -/
def lidForgotten (n : StationId) (asked : Prop) (u : State) : Prop :=
  ((u.st n).drive.pendingUnlock = true → asked) ∧
  ((u.st n).drive.lidCommand = none ∧ u.onlyTo (.lidSet n) none ∨
    (u.st n).drive.lidCommand = some .unlock ∧ asked ∧ BladeStill u n ∧ u.onlyTo (.lidSet n) (u.st n).binding.lid)

variable {asked : Prop} {w : State}

theorem lidForgotten_of (hd : (w.st n).drive = (v.st n).drive) (hb : (w.st n).binding = (v.st n).binding)
    (hq : ∀ d, v.onlyTo (.lidSet n) d → w.onlyTo (.lidSet n) d) (h : lidForgotten n asked v) : lidForgotten n asked w := by
  unfold lidForgotten at h ⊢
  rw [hd, hb, bladeStill_of hd]
  exact ⟨h.1, h.2.imp (fun ⟨h1, h2⟩ => ⟨h1, hq _ h2⟩) (fun ⟨h1, h2, h3, h4⟩ => ⟨h1, h2, h3, hq _ h4⟩)⟩

theorem lidForgotten_testUnlock (h : lidForgotten n asked v) : lidForgotten n asked (testUnlock n v) := by
  by_cases hs : (v.st n).drive.pendingUnlock = true ∧ BladeStill v n ∧ (v.st n).binding.lid ≠ none ∧
      v.appliance.health ≠ .isolated
  · obtain ⟨hp, hb, hl, ha⟩ := hs
    obtain ⟨x, hx⟩ := Option.ne_none_iff_exists'.mp hl
    rw [testUnlock_serves hp hb hx ha]
    refine ⟨by simp, .inr ⟨by simp, h.1 hp, ?_, ?_⟩⟩
    · simpa [BladeStill] using hb
    · have hto : v.onlyTo (.lidSet n) (v.st n).binding.lid := by
        obtain ⟨-, h⟩ | ⟨-, -, -, h⟩ := h.2
        · exact onlyTo_of_none h
        · exact h
      have hbinding : ∀ p : List Byte, (((originate (.lidSet n) x p (v.modDrive n
          (fun d => { d with lidCommand := some .unlock, pendingUnlock := false }))).st n).binding.lid) =
          (v.st n).binding.lid := fun p => by simp
      rw [hbinding]
      exact onlyTo_originate (onlyTo_modDrive hto) (fun _ => hx)
  · rw [testUnlock_waits]
    · exact h
    · by_contra hc
      simp only [not_or, Bool.not_eq_false, not_not] at hc
      exact hs hc

/-- A recomputed speed leaves a forgotten LID role so, unless an unlock was served before it. -/
theorem lidForgotten_recomputeDrive (h : lidForgotten n asked v) (hc : (v.st n).drive.lidCommand ≠ some .unlock) :
    lidForgotten n asked (recomputeDrive n v) := by
  obtain ⟨w, hd, hout, hw, he⟩ := recomputeDrive_cases n v
  have hforgot : lidForgotten n asked w := by
    unfold lidForgotten
    rw [hd]
    obtain ⟨h1, h2⟩ | ⟨h1, -⟩ := h.2
    · exact ⟨h.1, .inl ⟨h1, hw _ _ (by simp) h2⟩⟩
    · exact absurd h1 hc
  obtain he | ⟨-, he⟩ := he <;> rw [he]
  · exact hforgot
  · exact lidForgotten_testUnlock hforgot

/-- A blade whose node has told nothing is not known to be still (R129). -/
theorem not_bladeStill_of_inputs (hr : (v.st n).drive.report = none) (he : (v.st n).drive.spinDownElapsed = false)
    (hi : (w.st n).drive.inputs = (v.st n).drive.inputs) : ¬ BladeStill w n := by
  simp only [DriveContext.inputs, Prod.mk.injEq] at hi
  obtain ⟨-, -, -, -, hr', -, he'⟩ := hi
  simp [BladeStill, hr', hr, he', he]

theorem lidForgotten_followBinding (h : lidForgotten n asked v) (hc : (v.st n).drive.lidCommand = none)
    (hd : old.drive ≠ new.drive → (v.st n).drive.report = none ∧ (v.st n).drive.spinDownElapsed = false) :
    lidForgotten n asked (followBinding n old new v) := by
  have arbitrated : ∀ w : State, (∀ d, w.onlyTo (.lidSet n) d → (recomputeArbiter w).onlyTo (.lidSet n) d) ∧
      ∀ d, w.onlyTo (.lidSet n) d → (followDemand n (followManualHeat n w)).onlyTo (.lidSet n) d := fun w =>
    ⟨fun d hw => (onlyTo_arbiterWork (n := n) (by simp) hw).1, fun d hw => (onlyTo_arbiterWork (by simp) hw).2⟩
  have first : ∀ w : State, w = (if old.thermo = new.thermo ∧ old.lid = new.lid then v else recomputeEnvelope n v) →
      lidForgotten n asked w ∧ (w.st n).drive.inputs = (v.st n).drive.inputs := by
    intro w hw
    split at hw <;> subst hw
    · exact ⟨h, rfl⟩
    · have hstored : lidForgotten n asked (v.modDrive n (fun d => { d with envelope := v.envelopeOf n })) := by
        obtain ⟨h1, h2⟩ | ⟨h1, -⟩ := h.2
        · exact ⟨by simpa using h.1, .inl ⟨by simpa using h1, onlyTo_modDrive h2⟩⟩
        · rw [hc] at h1; cases h1
      exact ⟨lidForgotten_recomputeDrive hstored (by simp [hc]), recomputeEnvelope_inputs⟩
  have second : lidForgotten n asked (speedFollows n old new v) := by
    unfold speedFollows
    dsimp only
    obtain ⟨hf, hi⟩ := first _ rfl
    split
    · exact hf
    · next hne =>
      obtain ⟨hr, he⟩ := hd hne
      refine lidForgotten_of (by simp) (by simp) (fun d hw => (arbitrated _).1 d (onlyTo_sendSpeedSet hw (by simp)))
        (lidForgotten_recomputeDrive hf fun hu => ?_)
      obtain ⟨h1, -⟩ | ⟨-, -, hb, -⟩ := hf.2
      · rw [hu] at h1; cases h1
      · exact not_bladeStill_of_inputs hr he hi hb
  have settled := lidForgotten_of (settle_station (n := n)).1 (by simp) (arbitrated _).2 second
  rw [followBinding_eq]
  split
  · exact lidForgotten_testUnlock settled
  · exact settled

/-! ### The last value sent to a new HEATER node (R18, R110) -/

theorem sentAnew_of (ha : w.arbiter = v.arbiter) (hb : (w.st n).binding = (v.st n).binding) (h : sentAnew n v) :
    sentAnew n w := by
  unfold sentAnew at h ⊢
  rw [side_of_arbiter ha, hb]
  exact h

theorem sentAnew_followBinding (h : (v.side n).lastSent = none) (hi : (v.st n).run.state = .idle)
    (hm : (v.st n).drive.manualHeat = 0) : sentAnew n (followBinding n old new v) := by
  obtain ⟨hin, -, -, hrun⟩ := speedFollows_keeps (n := n) (old := old) (new := new) (v := v)
  have hmanual : ((speedFollows n old new v).st n).drive.manualHeat = 0 := by
    simp only [DriveContext.inputs, Prod.mk.injEq] at hin
    obtain ⟨-, -, h3, -⟩ := hin
    exact h3.trans hm
  have hsent : sentAnew n (speedFollows n old new v) := by
    have first : ∀ w : State, w = (if old.thermo = new.thermo ∧ old.lid = new.lid then v else recomputeEnvelope n v) →
        w.arbiter = v.arbiter := by
      intro w hw
      split at hw <;> subst hw
      · rfl
      · simp
    have ha := first _ rfl
    unfold speedFollows
    dsimp only
    split
    · exact .inl (by rw [side_of_arbiter ha, h])
    · exact sentAnew_recomputeArbiter (by rw [side_of_arbiter (s := v) (by simp [ha]), h])
  have settled := sentAnew_settle hsent (by rw [hrun, hi]) hmanual
  rw [followBinding_eq]
  split
  · exact sentAnew_of (by simp) (by simp) settled
  · exact settled

end

/-! ### STATION_BIND -/

theorem bindStation_eq (n : StationId) (new : Binding) (s : State) :
    bindStation n new s = followBinding n (s.st n).binding new (boundTo n new s) := rfl

section
variable {s : State} {n : StationId} {new : Binding}

/-- The binding stands before the recomputations, and nothing else of the station moves with it. -/
theorem boundTo_keeps : ((boundTo n new s).st n).binding = new ∧
    ((boundTo n new s).st n).drive = ((forgetRoles n (s.st n).binding new s).st n).drive ∧
    ((boundTo n new s).st n).heat = ((forgetRoles n (s.st n).binding new s).st n).heat ∧
    ((boundTo n new s).st n).weigh = ((forgetRoles n (s.st n).binding new s).st n).weigh ∧
    ((boundTo n new s).st n).run = (s.st n).run ∧
    (boundTo n new s).side n = (forgetRoles n (s.st n).binding new s).side n ∧
    (boundTo n new s).appliance = (forgetRoles n (s.st n).binding new s).appliance ∧
    (boundTo n new s).appliance.health = s.appliance.health := by
  have hst : (boundTo n new s).st n = { (forgetRoles n (s.st n).binding new s).st n with binding := new } := by simp [boundTo]
  rw [hst]
  refine ⟨rfl, rfl, rfl, rfl, by simp, by cases n <;> rfl, by cases n <;> rfl, ?_⟩
  have ha : (boundTo n new s).appliance = (forgetRoles n (s.st n).binding new s).appliance := by cases n <;> rfl
  rw [ha]
  exact forgetRoles_health n _ new s .appliance

theorem onlyTo_boundTo {k : OwnKind} {d : Option NodeId} (h : (forgetRoles n (s.st n).binding new s).onlyTo k d) :
    (boundTo n new s).onlyTo k d := by
  obtain ⟨-, -, -, -, -, -, ha, -⟩ := boundTo_keeps (s := s) (n := n) (new := new)
  exact onlyTo_of (by rw [ha]) h

end

/-- The model's rule passes where no role value is rejected (R17). -/
theorem stationBindRule_passes {b d h w t l : Byte} {n : StationId} {s : State} (hn : stationOf b = some n)
    (hi : (s.st n).run.state = .idle)
    (hr : ∀ (i : Nat) (v : Byte), [d, h, w, t, l][i]? = some v → ¬ s.roleRejected n ([d, h, w, t, l].take i) v) :
    stationBindRule [b, d, h, w, t, l] s =
      if roleValue w ≠ (s.st n).binding.weigh ∧ (s.st n).weigh.op ≠ .none then (s, refuse .busy 0)
      else (bindStation n ⟨roleValue d, roleValue h, roleValue w, roleValue t, roleValue l⟩ s, done []) := by
  have hpass : s.firstFailing n 0 [] [roleArg d, roleArg h, roleArg w, roleArg t, roleArg l] = none :=
    firstFailing_passes (bytes := [d, h, w, t, l]) 0 [] (by simpa using hr)
  have hd := toNode_of_passes (hr 0 d rfl)
  have hh := toNode_of_passes (hr 1 h rfl)
  have hw := toNode_of_passes (hr 2 w rfl)
  have ht := toNode_of_passes (hr 3 t rfl)
  have hl := toNode_of_passes (hr 4 l rfl)
  simp only [stationBindRule, withStation_of_some hn, whenIdle_of_idle hi, hpass, hd, hh, hw, ht, hl]

/-- Settles O6: a changed role forgets by `forgetRoles`, and what follows the binding sends to the new nodes only. -/
theorem stationBindSetsRoles : Obligations.StationBindSetsRoles := by
  refine ⟨fun s q tag b d h w t l c hc hat => ?checks, fun s q tag b d h w t l n hat hn hi hr hop => ?binds⟩
  case checks =>
    subst hc
    refine ⟨fun hn => answers_badStation hat rfl rfl hn, fun n hn => ⟨fun hi => ?_, fun hi => ⟨fun i v hv hrej hlow => ?_,
      fun hr hne hop => ?_⟩⟩⟩
    · exact answers_of_station hat rfl rfl hn (whenIdle_of_not_idle hi)
    · have hfail : s.firstFailing n 0 [] [roleArg d, roleArg h, roleArg w, roleArg t, roleArg l] = some (0 + i) :=
        firstFailing_eq_some hv 0 [] (by simpa using hrej) (by simpa using hlow)
      rw [Nat.zero_add] at hfail
      refine answers_of_rule _ hat rfl ?_
      simp only [stationBindRule, withStation_of_some hn, whenIdle_of_idle hi, hfail]
    · exact answers_of_rule _ hat rfl ((stationBindRule_passes hn hi hr).trans (if_pos ⟨hne, hop⟩))
  case binds =>
    have hrule := (stationBindRule_passes hn hi hr).trans (if_neg fun hc => hop.elim (absurd · hc.1) (absurd · hc.2))
    generalize hnew : (⟨roleValue d, roleValue h, roleValue w, roleValue t, roleValue l⟩ : Binding) = new at hrule
    refine ⟨bindStation n new s, answers_of_rule _ hat rfl hrule, ?_⟩
    have hd : new.drive = roleValue d := by rw [← hnew]
    have hh : new.heater = roleValue h := by rw [← hnew]
    have hw : new.weigh = roleValue w := by rw [← hnew]
    have ht : new.thermo = roleValue t := by rw [← hnew]
    have hl : new.lid = roleValue l := by rw [← hnew]
    obtain ⟨hb, hdrive, hheat, hweigh, hrun, hside, -, hhealth⟩ := boundTo_keeps (s := s) (n := n) (new := new)
    obtain ⟨hin, hread, hdraw⟩ := followBinding_keeps (n := n) (old := (s.st n).binding) (new := new) (v := boundTo n new s)
    rw [← bindStation_eq, hdrive] at hin
    rw [← bindStation_eq, hheat] at hread
    rw [← bindStation_eq, hside] at hdraw
    simp only [DriveContext.inputs, Prod.mk.injEq] at hin
    simp only [HeatContext.mk.injEq] at hread
    obtain ⟨i1, i2, i3, i4, i5, i6, i7⟩ := hin
    obtain ⟨-, -, r1, r2, -, r3, -⟩ := hread
    have hbinding : ((bindStation n new s).st n).binding = new := by simp [bindStation_eq, hb]
    have hweighs : ((bindStation n new s).st n).weigh =
        if (s.st n).binding.weigh = new.weigh then (s.st n).weigh else flushRing (s.st n).weigh := by
      rw [bindStation_eq, followBinding_weigh, hweigh, forgetRoles_weigh]
    obtain ⟨hbowl, hsensor⟩ := forgetRoles_thermo (s := s) (n := n) (old := (s.st n).binding) (new := new)
    rw [← hd, ← hh, ← hw, ← ht, ← hl]
    refine ⟨by rw [hbinding, ← hnew], fun hne => ?drive, fun he => ?driveSame, fun hne => ?heater, fun he => ?heaterSame,
      fun hne => ?weigh, fun he => ?weighSame, fun hne => ?thermo, fun he => ?thermoSame, fun hne => ?lid, fun he => ?lidSame,
      by simp [bindStation_eq, hrun], by simp [bindStation_eq, boundTo], by simp [bindStation_eq, boundTo], ?outline⟩
    case drive =>
      obtain ⟨f1, f2, f3, f4, f5, fq⟩ := forgetRoles_drive (s := s) (n := n) (Ne.symm hne)
      refine ⟨i1.trans f1, i2.trans f2, i5.trans f3, i7.trans f4, hdraw.trans f5, ?_, fun k hk ha => ?_⟩
      · rw [bindStation_eq]
        exact onlyTo_followBinding (by simp) (fun _ => by rw [hb]) (by simp) (onlyTo_of_none (onlyTo_boundTo fq))
      · rw [bindStation_eq]
        exact unsent_followBinding (Ne.symm hne) (by rw [hb, hk]) (by rw [hhealth]; exact ha)
    case driveSame =>
      obtain ⟨f1, f2, f3, f4⟩ := forgetRoles_drive_same (s := s) (n := n) he.symm
      exact ⟨i1.trans f1, i2.trans f2, i5.trans f3, hdraw.trans f4⟩
    case heater =>
      obtain ⟨f1, f2, f3, f4, fq⟩ := forgetRoles_heater (s := s) (n := n) (Ne.symm hne)
      refine ⟨i3.trans f1, i4.trans f2, r3.trans f3, ?_, ?_⟩
      · rw [bindStation_eq]
        exact (sentAnew_followBinding (by rw [hside, f4]) (by rw [hrun, hi]) (by rw [hdrive, f1])).imp_right And.right
      · rw [bindStation_eq]
        refine onlyTo_followBinding (by simp) (by simp) (fun m hm => ?_) (onlyTo_of_none (onlyTo_boundTo fq))
        obtain rfl : n = m := by simpa using hm
        rw [hb]
    case heaterSame =>
      obtain ⟨f1, f2, f3⟩ := forgetRoles_heater_same (s := s) (n := n) he.symm
      exact ⟨i3.trans f1, i4.trans f2, r3.trans f3⟩
    case weigh => rw [hweighs, if_neg (Ne.symm hne)]; rfl
    case weighSame => rw [hweighs, if_pos he.symm]
    case thermo =>
      rw [if_neg (Ne.symm hne)] at hbowl hsensor
      exact ⟨r1.trans hbowl, r2.trans hsensor⟩
    case thermoSame =>
      rw [if_pos he.symm] at hbowl hsensor
      exact ⟨r1.trans hbowl, r2.trans hsensor⟩
    case lid =>
      obtain ⟨f1, f2, f3, fq⟩ := forgetRoles_lid (s := s) (n := n) (Ne.symm hne)
      have hforgot : lidForgotten n ((s.st n).drive.pendingUnlock = true) (bindStation n new s) := by
        rw [bindStation_eq]
        refine lidForgotten_followBinding ?_ (by rw [hdrive, f2]) (fun hdne => ?_)
        · exact ⟨by rw [hdrive, f3]; exact id, .inl ⟨by rw [hdrive, f2], onlyTo_boundTo fq⟩⟩
        · obtain ⟨-, -, f3, f4, -⟩ := forgetRoles_drive (s := s) (n := n) hdne
          rw [hdrive]
          exact ⟨f3, f4⟩
      refine ⟨i6.trans f1, fun x hx ho => ?_, ?_⟩
      · obtain ⟨-, h⟩ | ⟨hc, -, -, h⟩ := hforgot.2
        · cases h x hx ho
        · exact ⟨by rw [← h x hx ho, hbinding], hc⟩
      · exact hforgot.2.imp And.left fun ⟨hc, hp, hs, _⟩ => ⟨hc, hp, hs⟩
    case lidSame =>
      obtain ⟨-, -, -, -, hlid, -⟩ := forgetRoles_keeps (s := s) (n := n) (s.st n).binding new
      exact i6.trans (hlid he.symm)
    case outline => rw [bindStation_outline, ← hnew]

end Sys2Proof.Machine

/-! PROOFS. Aging and silence (sections 7.4 and 7.5): the two events on an entry, and what each role's silence does. -/

namespace Sys2Proof.Machine

open Sys2Proof

/-! ### A silence that may fault its station (R51, R54) -/

section
variable {n : StationId} {c : FaultCause} {faults : Bool} {s : State}

theorem raiseSilence_faults (h : (s.st n).run.state ≠ .fault) (hf : faults = true) :
    raiseSilence n c faults s = enterFault n c 0 false s := by
  simp [raiseSilence, h, hf]

theorem raiseSilence_passes (h : (s.st n).run.state ≠ .fault) (hf : faults = false) : raiseSilence n c faults s = s := by
  simp [raiseSilence, h, hf]

theorem raiseSilence_further (h : (s.st n).run.state = .fault) : raiseSilence n c faults s = furtherFault n s := by
  simp [raiseSilence, h]

/-- What a silence keeps if a fault entry, and the count of a further fault, keep it. -/
theorem raiseSilence_keeps {P : State → Prop} (hfault : P (enterFault n c 0 false s)) (hfurther : P (furtherFault n s)) (h : P s) :
    P (raiseSilence n c faults s) := by
  unfold raiseSilence
  (repeat' split)
  · exact hfurther
  · exact hfault
  · exact h

theorem furtherFault_run : ((furtherFault n s).st n).run =
    { (s.st n).run with furtherFaults := satInc 255 (s.st n).run.furtherFaults, more := true } := by
  simp [furtherFault]

theorem raiseSilence_run_faults (h : (s.st n).run.state ≠ .fault) (hf : faults = true) :
    ((raiseSilence n c faults s).st n).run.state = .fault ∧ ((raiseSilence n c faults s).st n).run.faultCause = some c := by
  rw [raiseSilence_faults h hf, enterFault_run]
  exact ⟨rfl, rfl⟩

theorem raiseSilence_run_passes (h : (s.st n).run.state ≠ .fault) (hf : faults = false) :
    ((raiseSilence n c faults s).st n).run = (s.st n).run := by rw [raiseSilence_passes h hf]

theorem raiseSilence_run_further (h : (s.st n).run.state = .fault) : ((raiseSilence n c faults s).st n).run =
    { (s.st n).run with furtherFaults := satInc 255 (s.st n).run.furtherFaults, more := true } := by
  rw [raiseSilence_further h, furtherFault_run]

end

/-! ### The DRIVE role (R126) -/

/-- The state in which the DRIVE role's silence meets the step engine. -/
def driveLost (n : StationId) (s : State) : State :=
  if (s.st n).run.state = .idle then dropManualSpeed n (s.modDrive n (fun d => { d with spinDown := some Config.spinDownMs }))
  else s.modDrive n (fun d => { d with spinDown := some Config.spinDownMs })

theorem driveSilence_eq (n : StationId) (s : State) : driveSilence n s =
    raiseSilence n .driveSilent (busyState ((driveLost n s).st n).run.state) (driveLost n s) := rfl

section
variable {n : StationId} {s : State}

theorem driveLost_run : ((driveLost n s).st n).run = (s.st n).run := by
  unfold driveLost; split <;> simp

theorem driveLost_spinDown : ((driveLost n s).st n).drive.spinDown = some 5000 := by
  unfold driveLost
  split
  · obtain ⟨-, -, -, -, -, -, -, -, -, -, -, -, -, -, hs, -⟩ := (recomputeDrive_sameSpeed n ((s.modDrive n (fun d =>
      { d with spinDown := some Config.spinDownMs })).modDrive n (fun d => { d with manualSpeed := 0, speedHold := none }))).fields
    exact hs.trans (by simp [composeSpeed, Config.spinDownMs])
  · simp [Config.spinDownMs]

theorem driveSilence_spinDown : ((driveSilence n s).st n).drive.spinDown = some 5000 := by
  rw [driveSilence_eq]
  refine raiseSilence_keeps (P := fun u => (u.st n).drive.spinDown = some 5000) ?_ ?_ driveLost_spinDown
  · obtain ⟨-, -, -, -, -, -, -, -, -, -, -, -, -, -, hs, -⟩ := (enterFault_drive n .driveSilent 0 false (driveLost n s)).fields
    exact hs.trans driveLost_spinDown
  · simpa [furtherFault] using driveLost_spinDown

theorem driveSilence_idle (h : (s.st n).run.state = .idle) :
    ((driveSilence n s).st n).drive.manualSpeed = 0 ∧ ((driveSilence n s).st n).drive.speedHold = none ∧
    ((driveSilence n s).st n).drive.commanded = 0 ∧ ((driveSilence n s).st n).run = (s.st n).run := by
  have hlost : ((driveLost n s).st n).run.state = .idle := by rw [driveLost_run, h]
  rw [driveSilence_eq, raiseSilence_passes (by simp [hlost]) (by simp [hlost, busyState])]
  refine ⟨?_, ?_, ?_, driveLost_run⟩ <;> unfold driveLost <;> rw [if_pos h] <;> unfold dropManualSpeed
  all_goals
    obtain ⟨-, -, hc, -, -, -, hm, -, hh, -⟩ := (recomputeDrive_sameSpeed n ((s.modDrive n (fun d =>
      { d with spinDown := some Config.spinDownMs })).modDrive n (fun d => { d with manualSpeed := 0, speedHold := none }))).fields
  · exact hm.trans (by simp [composeSpeed])
  · exact hh.trans (by simp [composeSpeed])
  · exact hc.trans (by simp [composeSpeed, State.requestOf, h])

theorem driveSilence_busy (hi : (s.st n).run.state ≠ .idle) (hf : (s.st n).run.state ≠ .fault) :
    ((driveSilence n s).st n).run.state = .fault ∧ ((driveSilence n s).st n).run.faultCause = some .driveSilent := by
  have hbusy : busyState (s.st n).run.state = true := by
    cases h : (s.st n).run.state <;> first | rfl | exact absurd h hi | exact absurd h hf
  rw [driveSilence_eq]
  exact raiseSilence_run_faults (by rw [driveLost_run]; exact hf) (by rw [driveLost_run]; exact hbusy)

end

/-! ### The HEATER role (R102) -/

/-- The HEATER role of station `n` is silent, and its demand is counted as 0 (R102, R107). -/
def uncounted (n : StationId) (s : State) : Prop := s.silent n .heater = true ∧ (s.side n).counted = 0

section
variable {n : StationId} {s t : State}

theorem uncounted_of (hs : t.silent n .heater = s.silent n .heater) (ha : t.arbiter = s.arbiter) (h : uncounted n s) :
    uncounted n t := ⟨hs.trans h.1, by rw [side_of_arbiter ha]; exact h.2⟩

theorem uncounted_recomputeArbiter (h : uncounted n s) : uncounted n (recomputeArbiter s) :=
  ⟨by simpa using h.1, by simpa using h.2⟩

theorem uncounted_followDemand (h : s.silent n .heater = true) : uncounted n (followDemand n s) := by
  have hzero : s.countedDemand n = 0 := by simp [State.countedDemand, h]
  unfold followDemand
  split
  · next he => exact ⟨h, he.trans hzero⟩
  · refine uncounted_recomputeArbiter ⟨?_, by simpa using hzero⟩
    rw [silent_of (s := s) (by cases n <;> rfl)]
    exact h

theorem uncounted_setDemand {d : Nat} (h : uncounted n s) : uncounted n (setDemand n d s) := by
  unfold setDemand
  split
  · exact h
  · exact uncounted_followDemand (by rw [silent_of (s := s) (by simp)]; exact h.1)

theorem uncounted_stateChanged {rule : Adoption} {b : Bool} (h : uncounted n s) : uncounted n (stateChanged n rule b s) := by
  have hdrive : uncounted n (recomputeDrive n s) := uncounted_of (by simp) (by simp) h
  unfold stateChanged adoptTarget
  refine uncounted_recomputeArbiter ?_
  split
  · exact hdrive
  · have hadopted : ∀ f, uncounted n (retestReached n ((recomputeDrive n s).modHeat n f)) :=
      fun f => uncounted_of (by simp) (by simp) hdrive
    dsimp only
    split
    · exact hadopted _
    · exact uncounted_setDemand (hadopted _)

theorem uncounted_enterFault {c : FaultCause} {k : Nat} {b : Bool} (h : uncounted n s) :
    uncounted n (enterFault n c k b s) := by
  have hended : uncounted n (faultEnded n s) := by
    unfold faultEnded
    split
    · exact uncounted_of (by simp) (by simp) h
    · exact h
  rw [enterFault_eq]
  refine uncounted_of (by simp) (by simp) (s := stateChanged n .keep b (((faultEnded n s).modRun n (faultedRun c k)).modDrive n clearedManual))
    (uncounted_stateChanged ?_)
  exact uncounted_of (by simp) (by simp) hended

/-- The HEATER role's silence (R102): the station as it is in its run fields, and not counted. -/
theorem heaterSilence_counted (h : s.silent n .heater = true) : ((heaterSilence n s).side n).counted = 0 := by
  have hlost : uncounted n (recomputeArbiter (followDemand n s)) := uncounted_recomputeArbiter (uncounted_followDemand h)
  exact (raiseSilence_keeps (P := uncounted n) (uncounted_enterFault hlost)
    (uncounted_of (by simp [furtherFault]) (by simp [furtherFault]) hlost) hlost).2

/-- What R51 asks of a station's run before a silence of the HEATER or THERMO role faults it. -/
def State.heats (s : State) (n : StationId) : Bool :=
  (s.st n).run.state == .warming || ((s.st n).run.state == .running && heating (s.heatTarget n))

theorem heats_of (hr : (t.st n).run = (s.st n).run) (hs : (t.st n).steps = (s.st n).steps)
    (hl : (t.st n).limits = (s.st n).limits) : t.heats n = s.heats n := by
  unfold State.heats; rw [hr, heatTarget_of hr hs hl]

theorem heats_iff : s.heats n = true ↔
    (s.st n).run.state = .warming ∨ (s.st n).run.state = .running ∧ heating (s.heatTarget n) = true := by
  simp [State.heats]

theorem not_heats_of (h : (s.st n).run.state = .idle ∨ (s.st n).run.state = .paused) : s.heats n = false := by
  obtain h | h := h <;> simp [State.heats, h]

/-- A silence whose fault R51 makes hang on the heat target, from a state with the run fields of `s`. -/
theorem raiseSilence_heats {c : FaultCause} (hr : (t.st n).run = (s.st n).run) (hs : (t.st n).steps = (s.st n).steps)
    (hl : (t.st n).limits = (s.st n).limits) :
    (((s.st n).run.state = .warming ∨ (s.st n).run.state = .running ∧ heating (s.heatTarget n) = true) →
      ((raiseSilence n c (t.heats n) t).st n).run.state = .fault ∧
      ((raiseSilence n c (t.heats n) t).st n).run.faultCause = some c) ∧
    (((s.st n).run.state = .idle ∨ (s.st n).run.state = .paused) →
      ((raiseSilence n c (t.heats n) t).st n).run = (s.st n).run) ∧
    ((s.st n).run.state = .fault → ((raiseSilence n c (t.heats n) t).st n).run =
      { (s.st n).run with furtherFaults := satInc 255 (s.st n).run.furtherFaults, more := true }) := by
  refine ⟨fun h => raiseSilence_run_faults ?_ ?_, fun h => ?_, fun h => ?_⟩
  · rw [hr]
    obtain h | ⟨h, -⟩ := h <;> simp [h]
  · rw [heats_of hr hs hl]
    exact heats_iff.mpr h
  · rw [raiseSilence_run_passes, hr]
    · rw [hr]
      obtain h | h := h <;> simp [h]
    · rw [heats_of hr hs hl]
      exact not_heats_of h
  · rw [raiseSilence_run_further (by rw [hr, h]), hr]

theorem heaterSilence_eq (n : StationId) (s : State) : heaterSilence n s =
    raiseSilence n .heaterSilent ((recomputeArbiter (followDemand n s)).heats n) (recomputeArbiter (followDemand n s)) := rfl

end

/-! ### The WEIGH role (R70) -/

/-- The state in which the WEIGH role's silence meets the step engine. -/
def weighLost (n : StationId) (s : State) : State :=
  if (s.st n).weigh.op = .none then s.modWeigh n (fun w => { flushRing w with stale := true })
  else endOp n .stale (s.modWeigh n (fun w => { flushRing w with stale := true }))

theorem weighSilence_eq (n : StationId) (s : State) : weighSilence n s = raiseSilence n .weighSilent
    (((weighLost n s).st n).run.state == .running &&
      (((weighLost n s).st n).run.phase == some .basing || ((weighLost n s).curStep n).endWeight)) (weighLost n s) := rfl

section
variable {n : StationId} {s t : State}

theorem weighLost_run : ((weighLost n s).st n).run = (s.st n).run := by
  unfold weighLost
  split <;> simp [endOp]

theorem weighLost_curStep : (weighLost n s).curStep n = s.curStep n :=
  curStep_of (by rw [weighLost_run]) (by unfold weighLost; split <;> simp [endOp])

theorem weighSilence_weigh : ((weighSilence n s).st n).weigh = ((weighLost n s).st n).weigh := by
  rw [weighSilence_eq]
  exact raiseSilence_keeps (P := fun u => (u.st n).weigh = ((weighLost n s).st n).weigh) (by simp)
    (by simp [furtherFault]) rfl

theorem weighLost_weigh : ((weighLost n s).st n).weigh.stale = true ∧ ((weighLost n s).st n).weigh.ring = [] ∧
    ((weighLost n s).st n).weigh.settled = false ∧ ((weighLost n s).st n).weigh.op = .none ∧
    ((s.st n).weigh.op = .taring → ((weighLost n s).st n).weigh.lastTare = some .stale) := by
  unfold weighLost
  split
  · next h => simp [flushRing, h]
  · have hended : ((endOp n .stale (s.modWeigh n (fun w => { flushRing w with stale := true }))).st n).weigh =
        clearOp (recordOutcome .stale { flushRing (s.st n).weigh with stale := true }) := by simp [endOp]
    rw [hended]
    unfold recordOutcome flushRing clearOp
    refine ⟨?_, ?_, ?_, rfl, fun ht => ?_⟩
    · dsimp only; split <;> rfl
    · dsimp only; split <;> rfl
    · dsimp only; split <;> rfl
    · simp [ht]

theorem weighSilence_run :
    ((s.st n).run.state = .running → (s.st n).run.phase = some .basing ∨ (s.curStep n).endWeight = true →
      ((weighSilence n s).st n).run.state = .fault ∧ ((weighSilence n s).st n).run.faultCause = some .weighSilent) ∧
    ((s.st n).run.state = .idle ∨ (s.st n).run.state = .paused ∨ (s.st n).run.state = .warming →
      ((weighSilence n s).st n).run = (s.st n).run) ∧
    ((s.st n).run.state = .fault → ((weighSilence n s).st n).run =
      { (s.st n).run with furtherFaults := satInc 255 (s.st n).run.furtherFaults, more := true }) := by
  rw [weighSilence_eq, weighLost_run, weighLost_curStep]
  refine ⟨fun h hw => raiseSilence_run_faults (by simp [weighLost_run, h]) (by simpa [h] using hw), fun h => ?_, fun h => ?_⟩
  · rw [raiseSilence_run_passes, weighLost_run]
    · rw [weighLost_run]
      obtain h | h | h := h <;> simp [h]
    · obtain h | h | h := h <;> simp [h]
  · rw [raiseSilence_run_further (by rw [weighLost_run, h]), weighLost_run]

end

/-! ### The THERMO role (R101) -/

/-- The state in which the THERMO role's silence meets the step engine. -/
def thermoLost (n : StationId) (s : State) : State :=
  setDemand n 0
    (if (s.st n).run.state = .idle then
      (s.modHeat n (fun h => { h with integral := 0, reached := false })).modDrive n
        (fun d => { d with manualHeat := 0, heatHold := none })
    else s.modHeat n (fun h => { h with integral := 0, reached := false }))

theorem thermoSilence_eq (n : StationId) (s : State) : thermoSilence n s =
    raiseSilence n .thermoSilent ((thermoLost n s).heats n) (thermoLost n s) := rfl

section
variable {n : StationId} {s t : State}

theorem thermoLost_run : ((thermoLost n s).st n).run = (s.st n).run := by
  unfold thermoLost; split <;> simp

theorem thermoLost_heat : ((thermoLost n s).st n).heat.integral = 0 ∧ ((thermoLost n s).st n).heat.demand = 0 ∧
    ((thermoLost n s).st n).heat.reached = false := by
  unfold thermoLost; split <;> simp

theorem thermoSilence_heat : ((thermoSilence n s).st n).heat.integral = 0 ∧ ((thermoSilence n s).st n).heat.demand = 0 ∧
    ((thermoSilence n s).st n).heat.reached = false := by
  rw [thermoSilence_eq]
  refine raiseSilence_keeps (P := fun u => (u.st n).heat.integral = 0 ∧ (u.st n).heat.demand = 0 ∧
    (u.st n).heat.reached = false) ?_ ?_ thermoLost_heat
  · obtain ⟨-, -, -, h⟩ := atRest_enterFault n .thermoSilent 0 (thermoLost n s)
    exact h
  · simpa [furtherFault] using thermoLost_heat

theorem thermoSilence_idle (h : (s.st n).run.state = .idle) : ((thermoSilence n s).st n).drive.manualHeat = 0 ∧
    ((thermoSilence n s).st n).drive.heatHold = none := by
  have hlost : ((thermoLost n s).st n).run.state = .idle := by rw [thermoLost_run, h]
  rw [thermoSilence_eq, raiseSilence_passes (by simp [hlost]) (not_heats_of (.inl hlost))]
  simp [thermoLost, h]

end

/-! ### The LID role (R126, R42) -/

section
variable {n : StationId} {s : State}

/-- The state in which the LID role's silence recomputes the envelope. -/
def lidLost (n : StationId) (s : State) : State :=
  if (s.st n).run.state = .running ∧ (s.st n).run.phase = some .locking then
    s.modRun n (fun r => { r with deadline := none })
  else if s.losesLid n then pauseStation n .lid s
  else s

theorem lidSilence_eq (n : StationId) (s : State) : lidSilence n s = recomputeEnvelope n (lidLost n s) := rfl

theorem lidSilence_run : ((lidSilence n s).st n).run = ((lidLost n s).st n).run := by simp [lidSilence_eq]

theorem lidLost_locking (h : (s.st n).run.state = .running) (hp : (s.st n).run.phase = some .locking) :
    ((lidLost n s).st n).run = { (s.st n).run with deadline := none } := by simp [lidLost, h, hp]

theorem lidLost_pauses (h : (s.st n).run.state = .running) (hp : (s.st n).run.phase = some .active)
    (hl : (s.curStep n).lock = true) : ((lidLost n s).st n).run.state = .paused ∧
      ((lidLost n s).st n).run.pauseReason = some .lid ∧ ((lidLost n s).st n).run.savedPhase = some .active := by
  have hloses : s.losesLid n = true := (losesLid_iff s n).mpr ⟨h, hp, hl⟩
  unfold lidLost
  rw [if_neg (by simp [hp]), if_pos hloses, pauseStation_run]
  simp [hp]

theorem lidLost_rests (h : (s.st n).run.state ≠ .running) : ((lidLost n s).st n).run = (s.st n).run := by
  have hloses : s.losesLid n = false := by rw [← Bool.not_eq_true, losesLid_iff]; exact fun hc => h hc.1
  unfold lidLost
  rw [if_neg (fun hc => h hc.1), hloses]
  simp

end

/-! ### The two events (R138, R139) -/

section
variable {s : State} {i : Nat} {e : NodeEntry}

theorem exec_agingRemoval (hr : s.inReset = false) (he : s.entryAt i = some e) :
    exec (.agingRemoval i) s = .next (if e.tooOld s.ageLimit then removeEntry i s else s) := by
  have hexec : exec (.agingRemoval i) s = execAgingRemoval i s := rfl
  rw [hexec, execAgingRemoval, whenLive_live hr, he]

theorem exec_nodeBecomesSilent (hr : s.inReset = false) (he : s.entryAt i = some e) :
    exec (.nodeBecomesSilent i) s = .next (if e.silenceDue then becomeSilent i e s else s) := by
  have hexec : exec (.nodeBecomesSilent i) s = execNodeBecomesSilent i s := rfl
  rw [hexec, execNodeBecomesSilent, whenLive_live hr, he]

theorem removeEntry_freesLocks (he : s.entryAt i = some e) : removeEntry i s =
    ((s.setEntry i none).modSt .zero (freeLock e.number)).modSt .one (freeLock e.number) := by
  unfold removeEntry
  rw [he]
  rfl

end

/-- What the silence of each role does to the station it is bound in, which is told in `s` and left in `u` (R70, R101, R102,
R126, R51). -/
theorem roleSilent_spec (n : StationId) (r : Role) (s : State) :
    (r = .drive →
      ((roleSilent n r s).st n).drive.spinDown = some 5000 ∧
      ((s.st n).run.state = .idle →
        ((roleSilent n r s).st n).drive.manualSpeed = 0 ∧ ((roleSilent n r s).st n).drive.speedHold = none ∧
        ((roleSilent n r s).st n).drive.commanded = 0 ∧ ((roleSilent n r s).st n).run = (s.st n).run) ∧
      ((s.st n).run.state ≠ .idle → (s.st n).run.state ≠ .fault →
        ((roleSilent n r s).st n).run.state = .fault ∧ ((roleSilent n r s).st n).run.faultCause = some .driveSilent)) ∧
    (r = .heater → (roleSilent n r s).silent n .heater = true →
      ((roleSilent n r s).side n).counted = 0 ∧
      ((s.st n).run.state = .warming ∨ (s.st n).run.state = .running ∧ heating (s.heatTarget n) = true →
        ((roleSilent n r s).st n).run.state = .fault ∧ ((roleSilent n r s).st n).run.faultCause = some .heaterSilent) ∧
      ((s.st n).run.state = .idle ∨ (s.st n).run.state = .paused → ((roleSilent n r s).st n).run = (s.st n).run)) ∧
    (r = .weigh →
      ((roleSilent n r s).st n).weigh.stale = true ∧ ((roleSilent n r s).st n).weigh.ring = [] ∧
      ((roleSilent n r s).st n).weigh.settled = false ∧ ((roleSilent n r s).st n).weigh.op = .none ∧
      ((s.st n).weigh.op = .taring → ((roleSilent n r s).st n).weigh.lastTare = some .stale) ∧
      ((s.st n).run.state = .running → (s.st n).run.phase = some .basing ∨ (s.curStep n).endWeight = true →
        ((roleSilent n r s).st n).run.state = .fault ∧ ((roleSilent n r s).st n).run.faultCause = some .weighSilent) ∧
      ((s.st n).run.state = .idle ∨ (s.st n).run.state = .paused ∨ (s.st n).run.state = .warming →
        ((roleSilent n r s).st n).run = (s.st n).run)) ∧
    (r = .thermo →
      ((roleSilent n r s).st n).heat.integral = 0 ∧ ((roleSilent n r s).st n).heat.demand = 0 ∧
      ((roleSilent n r s).st n).heat.reached = false ∧
      ((s.st n).run.state = .idle →
        ((roleSilent n r s).st n).drive.manualHeat = 0 ∧ ((roleSilent n r s).st n).drive.heatHold = none ∧
        ((roleSilent n r s).st n).run = (s.st n).run) ∧
      ((s.st n).run.state = .warming ∨ (s.st n).run.state = .running ∧ heating (s.heatTarget n) = true →
        ((roleSilent n r s).st n).run.state = .fault ∧ ((roleSilent n r s).st n).run.faultCause = some .thermoSilent)) ∧
    (r = .lid →
      ((roleSilent n r s).st n).drive.envelope = (roleSilent n r s).envelopeOf n ∧
      ((s.st n).run.state = .running → (s.st n).run.phase = some .active → (s.curStep n).lock = true →
        ((roleSilent n r s).st n).run.state = .paused ∧ ((roleSilent n r s).st n).run.pauseReason = some .lid ∧
        ((roleSilent n r s).st n).run.savedPhase = some .active) ∧
      ((s.st n).run.state = .running → (s.st n).run.phase = some .locking →
        ((roleSilent n r s).st n).run = { (s.st n).run with deadline := none }) ∧
      ((s.st n).run.state ≠ .running → ((roleSilent n r s).st n).run = (s.st n).run)) ∧
    ((s.st n).run.state = .fault → r ≠ .lid → ((roleSilent n r s).st n).run =
      { (s.st n).run with furtherFaults := satInc 255 (s.st n).run.furtherFaults, more := true }) := by
  have hthermo := raiseSilence_heats (c := .thermoSilent) (s := s) (t := thermoLost n s) (n := n) thermoLost_run
    (by unfold thermoLost; split <;> simp) (by unfold thermoLost; split <;> simp)
  have hheater := raiseSilence_heats (c := .heaterSilent) (s := s) (t := recomputeArbiter (followDemand n s)) (n := n)
    (by simp) (by simp) (by simp)
  rw [← thermoSilence_eq] at hthermo
  rw [← heaterSilence_eq] at hheater
  obtain ⟨tfaults, tpasses, tfurther⟩ := hthermo
  obtain ⟨hfaults, hpasses, hfurther⟩ := hheater
  refine ⟨fun h => ?_, fun h hs => ?_, fun h => ?_, fun h => ?_, fun h => ?_, fun h hr => ?_⟩
  · subst h
    exact ⟨driveSilence_spinDown, driveSilence_idle, driveSilence_busy⟩
  · subst h
    rw [silent_of (roleSilent_outline ..)] at hs
    exact ⟨heaterSilence_counted hs, hfaults, hpasses⟩
  · subst h
    have hw : ((roleSilent n .weigh s).st n).weigh = ((weighLost n s).st n).weigh := weighSilence_weigh
    obtain ⟨h1, h2, h3, h4, h5⟩ := weighLost_weigh (n := n) (s := s)
    obtain ⟨r1, r2, -⟩ := weighSilence_run (n := n) (s := s)
    rw [hw]
    exact ⟨h1, h2, h3, h4, h5, r1, r2⟩
  · subst h
    obtain ⟨h1, h2, h3⟩ := thermoSilence_heat (n := n) (s := s)
    refine ⟨h1, h2, h3, fun hi => ?_, tfaults⟩
    obtain ⟨h4, h5⟩ := thermoSilence_idle hi
    exact ⟨h4, h5, tpasses (.inl hi)⟩
  · subst h
    have hrun : ((roleSilent n .lid s).st n).run = ((lidLost n s).st n).run := lidSilence_run
    rw [hrun]
    exact ⟨driven_recomputeEnvelope.enveloped, lidLost_pauses, lidLost_locking, lidLost_rests⟩
  · cases r with
    | drive =>
      have hlost : ((driveLost n s).st n).run.state = .fault := by rw [driveLost_run, h]
      exact (raiseSilence_run_further hlost).trans (by rw [driveLost_run])
    | heater => exact hfurther h
    | weigh => exact weighSilence_run.2.2 h
    | thermo => exact tfurther h
    | lid => exact absurd rfl hr

/-- Settles O33: the events are their guards, and a silent role acts by `roleSilent_spec`. -/
theorem agingAndSilence : Obligations.AgingAndSilence := by
  intro s i e hr he
  have haging := exec_agingRemoval hr he
  have hsilence := exec_nodeBecomesSilent hr he
  refine ⟨fun ho => ⟨fun ha => ?_, fun ha => ?_, ?_⟩, fun ho => ?_, fun ho hnot => ?_, fun ho hl hq ha v hv => ?_⟩
  · rw [haging, if_pos (by simp [NodeEntry.tooOld, ho, ha]), removeEntry_freesLocks he]
  · rw [haging, if_neg (by simp [NodeEntry.tooOld, ho, ha])]
  · rw [hsilence, if_neg (by simp [NodeEntry.silenceDue, ho])]
  · rw [haging, if_neg (by simp [NodeEntry.tooOld, ho])]
  · rw [hsilence, if_neg]
    simp only [NodeEntry.silenceDue, ho, Bool.and_eq_true, decide_eq_true_eq, bne_iff_ne, Bool.not_eq_true']
    rintro ⟨⟨⟨-, h2⟩, h3⟩, h4⟩
    obtain h | h | h := hnot
    · exact h3 h
    · rw [h2] at h; cases h
    · omega
  · have hdue : e.silenceDue = true := by simp [NodeEntry.silenceDue, ho, hl, hq, ha]
    rw [hsilence, if_pos hdue]
    refine ⟨fun hb => by rw [becomeSilent_unbound hb, hv], fun n r hb => ?_⟩
    have hst : ∀ m, v.st m = s.st m := fun m => by rw [hv]; simp
    have hsteps : v.heatTarget n = s.heatTarget n :=
      heatTarget_of (by rw [hst]) (by rw [hst]) (by rw [hst])
    have hcur : v.curStep n = s.curStep n := curStep_of (by rw [hst]) (by rw [hst])
    have hspec := roleSilent_spec n r v
    rw [hst, hsteps, hcur] at hspec
    refine ⟨roleSilent n r v, by rw [becomeSilent_bound hb, hv], by simp, by rw [roleSilent_other, hst], hspec⟩

end Sys2Proof.Machine

/-! PROOFS. Routing (sections 8.1 to 8.5): the lookup of a route entry, the parts of a frame's action, and an arrival. -/

namespace Sys2Proof.Machine

open Sys2Proof

/-! ### The lookup (R147) -/

theorem accepts_iff (e : RouteEntry) (p : Port) (f : Frame) : e.accepts p f = true ↔ e.enable = true ∧
    (e.arrival = .either ∨ e.arrival = .control ∧ p = .control ∨ e.arrival = .appliance ∧ p = .appliance) ∧
    f.kind &&& e.kindMask = e.kindValue &&& e.kindMask ∧ f.source &&& e.sourceMask = e.sourceValue &&& e.sourceMask ∧
    f.dest &&& e.destMask = e.destValue &&& e.destMask := by
  have harrival : arrivalMatches e.arrival p = true ↔
      (e.arrival = .either ∨ e.arrival = .control ∧ p = .control ∨ e.arrival = .appliance ∧ p = .appliance) := by
    cases e.arrival <;> cases p <;> simp [arrivalMatches]
  simp only [RouteEntry.accepts, underMask, Bool.and_eq_true, beq_iff_eq, harrival, and_assoc]

/-- The matching entry of lowest index decides (R147). -/
theorem classify_of_lowest {s : State} {p : Port} {f : Frame} {i : Nat} {e : RouteEntry} (he : s.routes[i]? = some e)
    (ha : e.accepts p f = true) (hlow : ∀ j d, j < i → s.routes[j]? = some d → d.accepts p f = false) :
    s.classify p f = (e.action, e.cls) := by
  have hi : i < s.routes.toList.length := by
    rw [Vector.length_toList]
    exact (Vector.getElem?_eq_some_iff.mp he).1
  have hat : ∀ (j : Nat) (hj : j < s.routes.toList.length), s.routes[j]? = some s.routes.toList[j] := by
    intro j hj
    rw [← List.getElem?_eq_getElem hj]
    simp
  have hfind : s.routes.toList.find? (fun e => e.accepts p f) = some e := by
    refine List.find?_eq_some_iff_getElem.mpr ⟨ha, i, hi, ?_, fun j hj => ?_⟩
    · rw [hat i hi] at he
      exact Option.some.inj he
    · rw [hlow j _ hj (hat j (hj.trans hi))]
      rfl
  simp only [State.classify, hfind]

theorem classify_default {s : State} {p : Port} {f : Frame}
    (h : ∀ (i : Nat) (e : RouteEntry), s.routes[i]? = some e → e.accepts p f = false) :
    s.classify p f = (if s.defaultForward then .forward else .drop, .byPriority) := by
  have hfind : s.routes.toList.find? (fun e => e.accepts p f) = none := by
    rw [List.find?_eq_none]
    intro e he
    obtain ⟨i, hi⟩ := List.mem_iff_getElem?.mp he
    rw [h i e (by simpa using hi)]
    simp
  simp only [State.classify, hfind]

/-! ### The arrival (R154) -/

theorem exec_frameArrival {s : State} {p : Port} {f : Frame} (hr : s.inReset = false) (hf : f.payload.length ≤ 16) :
    exec (.frameArrival p f) s = .next (if (s.port p).hears then arrive p f (goodFrameAt p s) else s) := by
  have hexec : exec (.frameArrival p f) s = execFrameArrival p f s := rfl
  have hlen : ¬ Config.maxPayload < f.payload.length := Nat.not_lt.mpr hf
  rw [hexec, execFrameArrival, whenLive_live hr]
  cases (s.port p).hears <;> simp [hlen]

theorem arrive_full {s : State} {p : Port} {f : Frame}
    (h : (countPort p .received s).held .control + (countPort p .received s).held .appliance = 48) :
    arrive p f s = setNotice .drops (countPort p .noBuffer (countPort p .received s)) := by
  have hfree : (countPort p .received s).freeTransit = 0 := by rw [State.freeTransit, h]; rfl
  simp only [arrive, hfree, if_true]

theorem arrive_free {s : State} {p : Port} {f : Frame}
    (h : (countPort p .received s).held .control + (countPort p .received s).held .appliance < 48) :
    arrive p f s = updateDropMode p (if (admitSource p f.source (countPort p .received s)).2 then
      routeFrame p f (admitSource p f.source (countPort p .received s)).1
      else (admitSource p f.source (countPort p .received s)).1) := by
  have hfree : (countPort p .received s).freeTransit ≠ 0 := by
    simp only [State.freeTransit, Config.transitBuffers]
    omega
  unfold arrive
  exact if_neg hfree

/-- Settles O34: the lookup is a search for the lowest match, and `arrive` does the parts of R154 in order. -/
theorem arrivalInOrder : Obligations.ArrivalInOrder := by
  refine ⟨fun s p f => ⟨fun i e he hen harr hk hs hd hlow => ?_, classify_default, rfl, fun c => rfl⟩,
    fun s s1 p f hr hf => ⟨fun hdeaf => ?_, fun hj hidle hs1 => ?_⟩⟩
  · exact classify_of_lowest he ((accepts_iff e p f).mpr ⟨hen, harr, hk, hs, hd⟩) hlow
  · have hnot : (s.port p).hears = false := by
      rw [← Bool.not_eq_true, hears_iff]
      exact fun ⟨h1, h2⟩ => hdeaf.elim h1 (· h2)
    rw [exec_frameArrival hr hf, hnot]
    rfl
  · have hhears : (s.port p).hears = true := (hears_iff _).mpr ⟨hj, hidle⟩
    rw [exec_frameArrival hr hf, if_pos hhears]
    subst hs1
    refine ⟨fun hfull => by rw [arrive_full hfull], fun hfree => ?_⟩
    rw [arrive_free hfree]
    refine ⟨fun ha => by rw [ha]; rfl, fun v cls hv ha => ?_⟩
    rw [ha, if_pos rfl, ← hv]
    refine ⟨fun hc => ?_, fun hc => ?_, fun hc => ?_, fun hc => ?_, fun hc => ?_⟩ <;> simp only [routeFrame, hc]

/-! ### The forward part (R148, R151, R156, R165) -/

section
variable {s : State} {p : Port} {rc : RouteClass} {f : Frame}

theorem isLocal_iff : s.isLocal p f = true ↔ f.dest = s.ownNode ∨ ∃ e, s.nodeEntry f.dest = some e ∧ e.port = p := by
  unfold State.isLocal
  cases h : s.nodeEntry f.dest <;> simp

theorem forwardPart_local (h : s.isLocal p f = true) : forwardPart p rc f s = countPort p .localDrop s := by
  simp [forwardPart, h]

theorem forwardPart_dropped (h : s.isLocal p f = false) (hc : resolveClass rc f = .bulk)
    (hd : (s.port p).dropMode = true) : forwardPart p rc f s = setNotice .drops (countPort p .buffer s) := by
  simp [forwardPart, h, hc, hd]

theorem forwardPart_queued (h : s.isLocal p f = false)
    (hc : resolveClass rc f ≠ .bulk ∨ (s.port p).dropMode = false) :
    forwardPart p rc f s = enqueueTransit p (resolveClass rc f) f s := by
  obtain hc | hc := hc <;> simp [forwardPart, h, hc]

end

/-! ### The take part (R149, R182) -/

section
variable {s : State} {p : Port} {src : NodeId} {role : Role} {give : StationId → State → State}

theorem deliver_unbound (h : s.boundAs src = none) : deliver p src role give s = countPort p .unbound s := by
  simp [deliver, h]

theorem deliver_mismatch {n : StationId} {r : Role} (h : s.boundAs src = some (n, r)) (hr : r ≠ role) :
    deliver p src role give s = countPort p .roleMismatch s := by
  simp [deliver, h, hr]

theorem deliver_given {n : StationId} (h : s.boundAs src = some (n, role)) : deliver p src role give s = give n s := by
  simp [deliver, h]

end

theorem readWeighSample_eq_none_iff (l : List Byte) : readWeighSample l = none ↔ l.length ≠ 13 := by
  unfold readWeighSample
  split
  · simp
  · next h =>
    refine iff_of_true rfl fun hl => ?_
    match l, hl with
    | [_, _, _, _, _, _, _, _, _, _, _, _, _], _ => exact h _ _ _ _ _ _ _ _ _ _ _ _ _ rfl

theorem readThermoSample_eq_none_iff (l : List Byte) : readThermoSample l = none ↔ l.length ≠ 3 := by
  unfold readThermoSample
  split
  · simp
  · next h =>
    refine iff_of_true rfl fun hl => ?_
    match l, hl with
    | [_, _, _], _ => exact h _ _ _ rfl

theorem readDriveState_eq_none_iff (l : List Byte) : readDriveState l = none ↔ l.length ≠ 5 := by
  unfold readDriveState
  split
  · simp
  · next h =>
    refine iff_of_true rfl fun hl => ?_
    match l, hl with
    | [_, _, _, _, _], _ => exact h _ _ _ _ _ rfl

theorem readHeatState_eq_none_iff (l : List Byte) : readHeatState l = none ↔ l.length ≠ 3 := by
  unfold readHeatState
  split
  · simp
  · next h =>
    refine iff_of_true rfl fun hl => ?_
    match l, hl with
    | [_, _, _], _ => exact h _ _ _ rfl

theorem readLidState_eq_none_iff (l : List Byte) : readLidState l = none ↔ l.length ≠ 1 := by
  unfold readLidState
  split
  · simp
  · next h =>
    refine iff_of_true rfl fun hl => ?_
    match l, hl with
    | [_], _ => exact h _ rfl

section
variable {s : State} {p : Port} {f : Frame} {counts : Bool}

theorem takePart_weigh (h : f.kind = 12) : takePart p f counts s =
    (readWeighSample f.payload).elim (countPort p .format s) fun x => deliver p f.source .weigh (fun n => takeWeighSample n x) s := by
  unfold takePart
  rw [h, if_pos (by decide)]
  cases readWeighSample f.payload <;> rfl

theorem takePart_thermo (h : f.kind = 13) : takePart p f counts s =
    (readThermoSample f.payload).elim (countPort p .format s) fun x => deliver p f.source .thermo (fun n => takeThermoSample n x.1 x.2) s := by
  unfold takePart
  rw [h, if_neg (by decide), if_pos (by decide)]
  cases readThermoSample f.payload <;> rfl

theorem takePart_drive (h : f.kind = 8) : takePart p f counts s =
    (readDriveState f.payload).elim (countPort p .format s) fun x => deliver p f.source .drive (fun n => takeDriveState n x) s := by
  unfold takePart
  rw [h, if_neg (by decide), if_neg (by decide), if_pos (by decide)]
  cases readDriveState f.payload <;> rfl

theorem takePart_heater (h : f.kind = 9) : takePart p f counts s =
    (readHeatState f.payload).elim (countPort p .format s) fun x => deliver p f.source .heater (fun n => takeHeatState n x) s := by
  unfold takePart
  rw [h, if_neg (by decide), if_neg (by decide), if_neg (by decide), if_pos (by decide)]
  cases readHeatState f.payload <;> rfl

theorem takePart_lid (h : f.kind = 10) : takePart p f counts s =
    (readLidState f.payload).elim (countPort p .format s) fun x => deliver p f.source .lid (fun n => takeLidState n x) s := by
  unfold takePart
  rw [h, if_neg (by decide), if_neg (by decide), if_neg (by decide), if_neg (by decide), if_pos (by decide)]
  cases readLidState f.payload <;> rfl

theorem takePart_request (h : f.kind = 16) : takePart p f counts s = takeRequest p f s := by
  unfold takePart
  rw [h, if_neg (by decide), if_neg (by decide), if_neg (by decide), if_neg (by decide), if_neg (by decide),
    if_pos (by decide)]

/-- A report of the right length for a role is delivered by the bindings, and hands over what it reads (R149). -/
theorem takePart_delivers {role : Role}
    (h : f.kind = 12 ∧ role = .weigh ∧ f.payload.length = 13 ∨ f.kind = 13 ∧ role = .thermo ∧ f.payload.length = 3 ∨
      f.kind = 8 ∧ role = .drive ∧ f.payload.length = 5 ∨ f.kind = 9 ∧ role = .heater ∧ f.payload.length = 3 ∨
      f.kind = 10 ∧ role = .lid ∧ f.payload.length = 1) :
    ∃ give : StationId → State → State, takePart p f counts s = deliver p f.source role give s ∧
      (∀ x, role = .weigh → readWeighSample f.payload = some x → give = fun n => takeWeighSample n x) ∧
      (∀ t e, role = .thermo → readThermoSample f.payload = some (t, e) → give = fun n => takeThermoSample n t e) ∧
      (∀ x, role = .drive → readDriveState f.payload = some x → give = fun n => takeDriveState n x) ∧
      (∀ x, role = .heater → readHeatState f.payload = some x → give = fun n => takeHeatState n x) ∧
      (∀ x, role = .lid → readLidState f.payload = some x → give = fun n => takeLidState n x) := by
  obtain ⟨hk, hr, hl⟩ | ⟨hk, hr, hl⟩ | ⟨hk, hr, hl⟩ | ⟨hk, hr, hl⟩ | ⟨hk, hr, hl⟩ := h <;> subst hr
  · obtain ⟨x, hx⟩ := Option.ne_none_iff_exists'.mp (fun hn => (readWeighSample_eq_none_iff _).mp hn hl)
    refine ⟨_, by rw [takePart_weigh hk, hx]; rfl, fun y _ hy => ?_, by simp, by simp, by simp, by simp⟩
    rw [hx] at hy
    rw [Option.some.inj hy]
  · obtain ⟨x, hx⟩ := Option.ne_none_iff_exists'.mp (fun hn => (readThermoSample_eq_none_iff _).mp hn hl)
    refine ⟨_, by rw [takePart_thermo hk, hx]; rfl, by simp, fun t e _ hy => ?_, by simp, by simp, by simp⟩
    rw [hx] at hy
    rw [Option.some.inj hy]
  · obtain ⟨x, hx⟩ := Option.ne_none_iff_exists'.mp (fun hn => (readDriveState_eq_none_iff _).mp hn hl)
    refine ⟨_, by rw [takePart_drive hk, hx]; rfl, by simp, by simp, fun y _ hy => ?_, by simp, by simp⟩
    rw [hx] at hy
    rw [Option.some.inj hy]
  · obtain ⟨x, hx⟩ := Option.ne_none_iff_exists'.mp (fun hn => (readHeatState_eq_none_iff _).mp hn hl)
    refine ⟨_, by rw [takePart_heater hk, hx]; rfl, by simp, by simp, by simp, fun y _ hy => ?_, by simp⟩
    rw [hx] at hy
    rw [Option.some.inj hy]
  · obtain ⟨x, hx⟩ := Option.ne_none_iff_exists'.mp (fun hn => (readLidState_eq_none_iff _).mp hn hl)
    refine ⟨_, by rw [takePart_lid hk, hx]; rfl, by simp, by simp, by simp, by simp, fun y _ hy => ?_⟩
    rw [hx] at hy
    rw [Option.some.inj hy]

end

/-- Settles O35: the forward part by its three tests, the take part by the kind of the frame. -/
theorem forwardAndTakeParts : Obligations.ForwardAndTakeParts := by
  intro s p rc f counts
  refine ⟨fun h => forwardPart_local (isLocal_iff.mpr h), fun hown hnode => ?_, fun role h => ?_, fun h => ?_,
    fun hk h => ?_, fun hk hp hd => ?_⟩
  · have hl : s.isLocal p f = false := by
      rw [← Bool.not_eq_true, isLocal_iff]
      exact fun h => h.elim hown fun ⟨e, he, hp⟩ => hnode e he hp
    refine ⟨fun hc hd => forwardPart_dropped hl hc hd, fun hc => ?_⟩
    rw [forwardPart_queued hl hc]
    exact ⟨fun hi => if_pos hi, fun hi => if_neg hi⟩
  · obtain ⟨give, ht, h1, h2, h3, h4, h5⟩ := takePart_delivers (s := s) (p := p) (counts := counts) h
    rw [ht]
    refine ⟨deliver_unbound, fun n r hb hr => deliver_mismatch hb hr, fun n hb => ?_⟩
    rw [deliver_given hb]
    exact ⟨fun x hr hx => by rw [h1 x hr hx], fun t e hr hx => by rw [h2 t e hr hx], fun x hr hx => by rw [h3 x hr hx],
      fun x hr hx => by rw [h4 x hr hx], fun x hr hx => by rw [h5 x hr hx]⟩
  · obtain ⟨hk, hl⟩ | ⟨hk, hl⟩ | ⟨hk, hl⟩ | ⟨hk, hl⟩ | ⟨hk, hl⟩ := h
    · rw [takePart_weigh hk, (readWeighSample_eq_none_iff _).mpr hl]; rfl
    · rw [takePart_thermo hk, (readThermoSample_eq_none_iff _).mpr hl]; rfl
    · rw [takePart_drive hk, (readDriveState_eq_none_iff _).mpr hl]; rfl
    · rw [takePart_heater hk, (readHeatState_eq_none_iff _).mpr hl]; rfl
    · rw [takePart_lid hk, (readLidState_eq_none_iff _).mpr hl]; rfl
  · rw [takePart_request hk, takeRequest, if_pos]
    exact h.imp_left fun hp => by rw [hp]; decide
  · subst hp
    have hto : ¬ (Port.control ≠ .control ∨ f.dest ≠ s.ownNode) := by simp [hd]
    rw [takePart_request hk, takeRequest, if_neg hto]
    refine ⟨fun hl => ?_, fun code tag args hf => ?_⟩
    · match hm : f.payload, hl with
      | [], _ => rfl
      | [_], _ => rfl
    · rw [hf]
      exact ⟨fun hlt => if_pos hlt, fun hge => if_neg (Nat.not_lt.mpr hge)⟩

end Sys2Proof.Machine

/-! PROOFS. Originations, notices and step reports (sections 8.6, 10.3, 10.4), and the scheduler and arbitration of a port
(sections 8.7, 9.2). -/

namespace Sys2Proof.Machine

open Sys2Proof

/-! ### Originations (R158 to R161) -/

/-- An origination rewrites the first unsent frame of its kind in its place. -/
theorem rewriteFirst_append {pr : Queued → Bool} {fr : Frame} {l1 l2 : List Queued} {e : Queued}
    (hno : ∀ x ∈ l1, pr x = false) (he : pr e = true) :
    rewriteFirst pr fr (l1 ++ e :: l2) = l1 ++ { e with frame := fr } :: l2 := by
  induction l1 with
  | nil => simp [rewriteFirst, he]
  | cons a l1 ih =>
    have ha : pr a = false := hno a (List.mem_cons_self ..)
    simp only [List.cons_append, rewriteFirst, ha, Bool.false_eq_true, if_false]
    rw [ih fun x hx => hno x (List.mem_cons_of_mem _ hx)]

theorem isKind_eq_false {k : OwnKind} {e : Queued} : Queued.isKind k e = false ↔ e.origin ≠ .own k := by
  rw [← Bool.not_eq_true, isKind_iff]

theorem joinQueue_new {k : OwnKind} {f : Frame} {q : List Queued} (h : k.coalesced = false ∨ ∀ e ∈ q, e.origin ≠ .own k) :
    joinQueue k f q = q ++ [⟨f, .own k, k.cls⟩] := by
  unfold joinQueue
  refine if_neg ?_
  rw [Bool.and_eq_true, List.any_eq_true]
  rintro ⟨hc, e, he, hk⟩
  obtain h | h := h
  · rw [h] at hc; cases hc
  · exact h e he ((isKind_iff k e).mp hk)

theorem joinQueue_rewrites {k : OwnKind} {f : Frame} {l1 l2 : List Queued} {e : Queued} (hc : k.coalesced = true)
    (he : e.origin = .own k) (hno : ∀ x ∈ l1, x.origin ≠ .own k) :
    joinQueue k f (l1 ++ e :: l2) = l1 ++ { e with frame := f } :: l2 := by
  unfold joinQueue
  rw [if_pos, rewriteFirst_append (fun x hx => isKind_eq_false.mpr (hno x hx)) ((isKind_iff k e).mpr he)]
  rw [hc, Bool.true_and, List.any_eq_true]
  exact ⟨e, by simp, (isKind_iff k e).mpr he⟩

theorem originate_joined {k : OwnKind} {d : NodeId} {pl : List Byte} {s : State} {g : List Queued → List Queued}
    (h : (s.port k.port).health ≠ .isolated)
    (hg : joinQueue k (ownFrame s.ownNode k d pl) ((s.port k.port).queue k.cls) = g ((s.port k.port).queue k.cls)) :
    originate k d pl s = s.modPort k.port (fun q => q.modQueue k.cls g) := by
  unfold originate
  rw [if_neg h]
  exact modPort_congr (modQueue_congr hg)

/-! ### Notices and step reports (R187, R191) -/

/-- Settles O37: each clause is one case of `originate`, `setNotice`, `originateStepReport` or `endStep`. -/
theorem originationsJoinOrRewrite : Obligations.OriginationsJoinOrRewrite := by
  intro s k dest pl b
  refine ⟨fun h => if_pos h, fun h => ⟨fun hk => ?_, fun l1 e l2 hc hq he hno => ?_⟩, fun hset => if_pos hset,
    fun hclear => ⟨fun hen => ?_, fun hen => ?_⟩, fun n r => ⟨fun hi => ?_, fun hi hcap => ?_, fun hi hroom => ?_⟩,
    fun n o r hr => ?_⟩
  · exact originate_joined h (joinQueue_new hk)
  · refine originate_joined h ?_
    rw [hq]
    exact joinQueue_rewrites hc he hno
  · have hdisabled : ¬ s.notices.enables &&& noticeMask b ≠ 0 := not_not.mpr hen
    unfold setNotice
    rw [if_neg (not_not.mpr hclear), if_neg hdisabled]
  · unfold setNotice
    rw [if_neg (not_not.mpr hclear), if_pos hen]
    rfl
  · have hisolated : ¬ (s.control.health ≠ .isolated ∧ Config.stepReportCap ≤ s.stepReportsHeld) := fun hc => hc.1 hi
    unfold originateStepReport
    rw [if_neg hisolated]
    exact if_pos hi
  · exact if_pos ⟨hi, hcap⟩
  · have hcap : ¬ (s.control.health ≠ .isolated ∧ Config.stepReportCap ≤ s.stepReportsHeld) := fun hc =>
      Nat.not_lt.mpr hc.2 hroom
    unfold originateStepReport
    rw [if_neg hcap, originate_joined (k := .stepReport n) (g := (· ++ [_])) hi (joinQueue_new (.inl rfl))]
    cases n <;> rfl
  · have hreport : (s.st n).captureReport o = r := by
      rw [hr]
      split
      · next h => exact captureReport_cut _ h
      · next h => exact captureReport_whole _ (not_or.mp h)
    unfold endStep
    rw [hreport]
    rfl

/-! ### The scheduler (R163, R169) -/

theorem mayStart_iff (q : PortState) (gap : Nat) : q.mayStart gap = true ↔
    (q.health = .active ∨ q.health = .passive) ∧ q.activity = .idle ∧ 8 ≤ gap ∧
      (q.health = .active ∨ q.wasTransmitter = false ∨ 16 ≤ gap) := by
  have hgap : q.gapNeeded ≤ gap ↔ 8 ≤ gap ∧ (q.health ≠ .passive ∨ q.wasTransmitter = false ∨ 16 ≤ gap) := by
    unfold PortState.gapNeeded
    split
    · next h => simp [h.1, h.2, Config.passiveGapBits]; omega
    · next h =>
      rw [not_and_or, Bool.not_eq_true] at h
      simp only [Config.gapBits]
      tauto
  simp only [PortState.mayStart, Bool.and_eq_true, Bool.or_eq_true, beq_iff_eq, decide_eq_true_eq, hgap, and_assoc]
  refine and_congr_right fun hh => and_congr_right fun _ => and_congr_right fun _ => or_congr_left ?_
  obtain hh | hh := hh <;> simp [hh]

theorem exec_transmissionStart {s : State} {p : Port} {gap : Nat} (hr : s.inReset = false) :
    exec (.transmissionStart p gap) s =
      .next (if (s.port p).mayStart gap then s.modPort p (fun q => offerFrame (reloadCredits q)) else s) := by
  have hexec : exec (.transmissionStart p gap) s = execTransmissionStart p gap s := rfl
  rw [hexec, execTransmissionStart, whenLive_live hr]

/-- The credits are reloaded only where both queues wait with both credits spent, and no URGENT frame does (R163). -/
theorem reloadCredits_kept {q : PortState} (h : q.urgent ≠ [] ∨ q.control = [] ∨ q.bulk = [] ∨ 0 < q.creditControl ∨
    0 < q.creditBulk) : reloadCredits q = q := by
  unfold reloadCredits
  refine if_neg ?_
  simp only [Bool.and_eq_true, Bool.not_eq_true', beq_iff_eq, List.isEmpty_iff, List.isEmpty_eq_false_iff]
  rintro ⟨⟨⟨⟨h1, h2⟩, h3⟩, h4⟩, h5⟩
  obtain h | h | h | h | h := h
  · exact h h1
  · exact h2 h
  · exact h3 h
  · omega
  · omega

theorem reloadCredits_reloads {q : PortState} {e d : Queued} {rest more : List Queued} (hu : q.urgent = [])
    (hc : q.control = e :: rest) (hb : q.bulk = d :: more) (h1 : q.creditControl = 0) (h2 : q.creditBulk = 0) :
    reloadCredits q = { q with creditControl := q.cfg.wc, creditBulk := q.cfg.wb } := by
  simp [reloadCredits, hu, hc, hb, h1, h2]

/-- The frame at the head of the chosen queue enters the engine (R162, R163). -/
theorem offerFrame_of_choice {q : PortState} {c : QClass} {e : Queued} {rest : List Queued} (hc : q.choice = some c)
    (hq : q.queue c = e :: rest) : offerFrame q =
      { q.modQueue c (fun _ => rest) with activity := .contending e, errorMark := none, voided := false } := by
  simp only [offerFrame, hc, hq]

section
variable {q : PortState} {e d : Queued} {rest more : List Queued}

theorem choice_urgent (h : q.urgent = e :: rest) : q.choice = some .urgent := by simp [PortState.choice, h]

theorem choice_control (hu : q.urgent = []) (hc : q.control = e :: rest) (hb : q.bulk = [] ∨ 0 < q.creditControl) :
    q.choice = some .control := by
  obtain hb | hb := hb <;> simp [PortState.choice, hu, hc, hb]

theorem choice_bulk (hu : q.urgent = []) (hb : q.bulk = d :: more) (hc : q.control = [] ∨ q.creditControl = 0) :
    q.choice = some .bulk := by
  obtain hc | hc := hc <;> simp [PortState.choice, hu, hc, hb]

theorem choice_none (hu : q.urgent = []) (hc : q.control = []) (hb : q.bulk = []) : q.choice = none := by
  simp [PortState.choice, hu, hc, hb]

end

/-- Settles O38: a start that may happen reloads the credits and offers the head of the chosen queue. -/
theorem schedulerChoosesFrame : Obligations.SchedulerChoosesFrame := by
  intro s p gap q hr hq
  subst hq
  refine ⟨fun h => ?_, fun hh ha hg hgap => ?_⟩
  · rw [exec_transmissionStart hr, if_neg]
    rw [mayStart_iff]
    rintro ⟨h1, h2, h3, h4⟩
    obtain h | h | h | h | ⟨h, hw, hlt⟩ := h
    · simp [h] at h1
    · simp [h] at h1
    · exact h h2
    · omega
    · simp only [h, hw, reduceCtorEq, false_or] at h4
      omega
  · rw [exec_transmissionStart hr, if_pos ((mayStart_iff _ _).mpr ⟨hh, ha, hg, hgap⟩)]
    have offered {f : PortState → PortState} (h : offerFrame (reloadCredits (s.port p)) = f (s.port p)) :
        s.modPort p (fun q => offerFrame (reloadCredits q)) = s.modPort p f := modPort_congr h
    refine ⟨fun hu hc hb => ?_, fun e rest hu => ?_, fun e rest hu hc hb => ?_, fun e rest hu hc hb => ?_,
      fun e rest d more hu hc hb => ⟨fun h => ?_, fun h1 h2 => ?_, fun h1 h2 hw => ?_⟩⟩
    · refine congrArg _ (modPort_self ?_)
      simp only [reloadCredits_kept (.inr (.inl hc)), offerFrame, choice_none hu hc hb]
    · refine congrArg _ (offered ?_)
      rw [reloadCredits_kept (.inl (by simp [hu])), offerFrame_of_choice (choice_urgent hu) hu]
      rfl
    · refine congrArg _ (offered ?_)
      rw [reloadCredits_kept (.inr (.inr (.inl hb))), offerFrame_of_choice (choice_control hu hc (.inl hb)) hc]
      rfl
    · refine congrArg _ (offered ?_)
      rw [reloadCredits_kept (.inr (.inl hc)), offerFrame_of_choice (choice_bulk hu hb (.inl hc)) hb]
      rfl
    · refine congrArg _ (offered ?_)
      rw [reloadCredits_kept (.inr (.inr (.inr (.inl h)))), offerFrame_of_choice (choice_control hu hc (.inr h)) hc]
      rfl
    · refine congrArg _ (offered ?_)
      rw [reloadCredits_kept (.inr (.inr (.inr (.inr h2)))), offerFrame_of_choice (choice_bulk hu hb (.inr h1)) hb]
      rfl
    · refine congrArg _ (offered ?_)
      have hchoice : ({ s.port p with
          creditControl := (s.port p).cfg.wc, creditBulk := (s.port p).cfg.wb } : PortState).choice = some .control :=
        choice_control hu hc (.inr hw)
      rw [reloadCredits_reloads hu hc hb h1 h2, offerFrame_of_choice hchoice hc]
      rfl

/-! ### Arbitration (R164, R170, R188) -/

section
variable {s : State} {p : Port} {e : Queued}

theorem exec_lostArbitration {w : ArbKey} (hr : s.inReset = false) (ha : (s.port p).activity = .contending e) :
    exec (.lostArbitration p w) s = .next (if arbOrder w < arbOrder (Frame.arbKey e.frame) then
      countPort p .lostArbitrations (returnUnsent p e
        (s.modPort p (fun q => { q with activity := .receiving, wasTransmitter := false })))
      else s) := by
  have hexec : exec (.lostArbitration p w) s = execLostArbitration p w s := rfl
  rw [hexec, execLostArbitration, whenLive_live hr, ha]

theorem exec_wonArbitration (hr : s.inReset = false) (ha : (s.port p).activity = .contending e) :
    exec (.wonArbitration p) s = .next (if e.isNotice then
      { s.modPort p (fun q => spendCredit e.cls { q with activity := .transmitting e }) with
        notices := { s.notices with accumulator := 0 } }
      else s.modPort p (fun q => spendCredit e.cls { q with activity := .transmitting e })) := by
  have hexec : exec (.wonArbitration p) s = execWonArbitration p s := rfl
  rw [hexec, execWonArbitration, whenLive_live hr, ha]
  cases p <;> rfl

/-- The credit spent by class (R163). -/
theorem spendCredit_eq (c : QClass) (q : PortState) : spendCredit c q = { q with
    creditControl := if c = .control then q.creditControl - 1 else q.creditControl
    creditBulk := if c = .bulk then q.creditBulk - 1 else q.creditBulk
    creditSpent := decide (c = .control ∧ 0 < q.creditControl ∨ c = .bulk ∧ 0 < q.creditBulk) } := by
  cases c <;> simp [spendCredit]

/-- The queue that takes back a frame which has no newer one and still has its node (R164). -/
theorem returnUnsent_head (h : ∀ k, e.origin = .own k →
    (k.coalesced = false ∨ ∀ y ∈ (s.port p).queue e.cls, y.origin ≠ .own k) ∧ s.strayed k e = false) :
    returnUnsent p e s = s.modPort p (fun q => q.modQueue e.cls (e :: ·)) := by
  unfold returnUnsent
  split
  · rfl
  · next k hk =>
    obtain ⟨hnew, hstray⟩ := h k hk
    have hfind : (if k.coalesced then ((s.port p).queue e.cls).find? (Queued.isKind k) else none) = none := by
      obtain hc | hno := hnew
      · simp [hc]
      · split
        · rw [List.find?_eq_none]
          intro y hy
          rw [isKind_iff]
          exact hno y hy
        · rfl
    simp [hfind, hstray]

theorem removeFirst_append {k : OwnKind} {l1 l2 : List Queued} {x : Queued} (hno : ∀ y ∈ l1, y.origin ≠ .own k)
    (hx : x.origin = .own k) : removeFirst k (l1 ++ x :: l2) = l1 ++ l2 := by
  induction l1 with
  | nil => simp [removeFirst, (isKind_iff k x).mpr hx]
  | cons a l1 ih =>
    have ha : Queued.isKind k a = false := isKind_eq_false.mpr (hno a (List.mem_cons_self ..))
    simp only [List.cons_append, removeFirst, ha, Bool.false_eq_true, if_false]
    rw [ih fun y hy => hno y (List.mem_cons_of_mem _ hy)]

/-- A returning frame takes the contents of a newer one of its kind (R164). -/
theorem returnUnsent_newer {k : OwnKind} {l1 l2 : List Queued} {x : Queued} (he : e.origin = .own k)
    (hc : k.coalesced = true) (hq : (s.port p).queue e.cls = l1 ++ x :: l2) (hx : x.origin = .own k)
    (hno : ∀ y ∈ l1, y.origin ≠ .own k) : returnUnsent p e s =
      s.modPort p (fun q => q.modQueue e.cls (fun _ => { e with frame := x.frame } :: (l1 ++ l2))) := by
  have hfind : ((s.port p).queue e.cls).find? (Queued.isKind k) = some x := by
    rw [hq, List.find?_append, List.find?_eq_none.mpr fun y hy => by rw [isKind_iff]; exact hno y hy]
    simp [(isKind_iff k x).mpr hx]
  unfold returnUnsent
  simp only [he, hc, if_true, hfind]
  refine modPort_congr (modQueue_congr ?_)
  rw [hq, removeFirst_append hno hx]

/-- A returning setpoint whose node is no longer bound leaves the part (R164). -/
theorem returnUnsent_strayed {k : OwnKind} (he : e.origin = .own k)
    (hno : ∀ y ∈ (s.port p).queue e.cls, y.origin ≠ .own k) (hs : s.strayed k e = true) : returnUnsent p e s = s := by
  have hfind : ((s.port p).queue e.cls).find? (Queued.isKind k) = none := by
    rw [List.find?_eq_none]
    intro y hy
    rw [isKind_iff]
    exact hno y hy
  unfold returnUnsent
  simp [he, hfind, hs]

theorem strayed_of_other {k : OwnKind} (h : setpointRole k = none) : s.strayed k e = false := by
  simp [State.strayed, h]

theorem strayed_iff {k : OwnKind} {n : StationId} {r : Role} (h : setpointRole k = some (n, r)) :
    s.strayed k e = true ↔ (s.st n).binding.get r ≠ some e.frame.dest := by
  simp [State.strayed, h]

end

/-- Settles O39: the loser's frame returns by `returnUnsent`, and the winner spends the credit of its class. -/
theorem arbitrationLostOrWon : Obligations.ArbitrationLostOrWon := by
  intro s p e w hr ha
  have hqueue : ((s.modPort p (fun q => { q with activity := .receiving, wasTransmitter := false })).port p).queue e.cls =
      (s.port p).queue e.cls := by
    rw [port_modPort]; cases e.cls <;> rfl
  have lost (hlt : arbOrder w < arbOrder (Frame.arbKey e.frame)) : exec (.lostArbitration p w) s =
      .next (countPort p .lostArbitrations (returnUnsent p e
        (s.modPort p (fun q => { q with activity := .receiving, wasTransmitter := false })))) := by
    rw [exec_lostArbitration hr ha, if_pos hlt]
  have counted (g : List Queued → List Queued) : countPort p .lostArbitrations
      ((s.modPort p (fun q => { q with activity := .receiving, wasTransmitter := false })).modPort p
        (fun q => q.modQueue e.cls g)) = s.modPort p (fun q => { q.modQueue e.cls g with
          activity := .receiving, wasTransmitter := false, counters := bump q.counters 4 }) := by
    unfold countPort
    rw [modPort_modPort, modPort_modPort]
    exact modPort_congr (by cases e.cls <;> rfl)
  have hstrayed : ∀ k, (s.modPort p (fun q => { q with activity := .receiving, wasTransmitter := false })).strayed k e =
      s.strayed k e := by
    intro k
    simp [State.strayed]
  refine ⟨fun hle => ?_, fun hlt => ⟨fun a ho => ?_, fun k ho hk => ?_, fun k l1 x l2 ho hc hq hx hno => ?_,
    fun k n r ho hk hno => ⟨fun hb => ?_, fun hb => ?_⟩⟩, fun hn => ?_, fun hn => ?_⟩
  · rw [exec_lostArbitration hr ha, if_neg (Nat.not_lt.mpr hle)]
  · rw [lost hlt, returnUnsent_head (fun k hk => by rw [ho] at hk; cases hk), counted]
  · rw [lost hlt, returnUnsent_head, counted]
    intro k' hk'
    obtain rfl : k = k' := by rw [ho] at hk'; simpa using hk'
    rw [hqueue, hstrayed]
    obtain hc | ⟨hset, hno⟩ := hk
    · refine ⟨.inl hc, strayed_of_other ?_⟩
      cases k <;> first | rfl | cases hc
    · exact ⟨.inr hno, strayed_of_other hset⟩
  · rw [lost hlt, returnUnsent_newer ho hc (hqueue.trans hq) hx hno, counted]
  · rw [lost hlt, returnUnsent_head, counted]
    intro k' hk'
    obtain rfl : k = k' := by rw [ho] at hk'; simpa using hk'
    rw [hqueue, hstrayed]
    exact ⟨.inr hno, by rw [← Bool.not_eq_true, strayed_iff hk]; exact not_not.mpr hb⟩
  · rw [lost hlt, returnUnsent_strayed ho (by rw [hqueue]; exact hno)]
    · unfold countPort
      rw [modPort_modPort]
      rfl
    · rw [hstrayed, strayed_iff hk]
      exact hb
  · have hnot : e.isNotice = false := by simpa [Queued.isNotice] using hn
    rw [exec_wonArbitration hr ha, hnot]
    simp only [spendCredit_eq]
    rfl
  · have hnotice : e.isNotice = true := by simpa [Queued.isNotice] using hn
    rw [exec_wonArbitration hr ha, hnotice]
    simp only [spendCredit_eq]
    cases p <;> rfl

end Sys2Proof.Machine

/-! PROOFS. The ends of a transmission and what a port hears (sections 9.3 and 9.4): completion, errors, start marks and good
frames. -/

namespace Sys2Proof.Machine

open Sys2Proof

/-! ### The health of a port that follows its counts (R176) -/

section
variable {s : State} {p : Port}

theorem setHealth_same {h : Health} (hh : (s.port p).health = h) : setHealth p h s = s := if_pos hh

theorem setHealth_changes {h : Health} (hh : (s.port p).health ≠ h) :
    setHealth p h s = setNotice .portChange (s.modPort p (fun q => { q with health := h })) := if_neg hh

theorem followCounts_live (h : (s.port p).health = .active ∨ (s.port p).health = .passive) :
    followCounts p s = setHealth p (healthOf (s.port p).tx (s.port p).rx) s := by
  obtain h | h := h <;> simp only [followCounts, h]

theorem followCounts_isolated (h : (s.port p).health = .isolated) : followCounts p s = s := by
  simp only [followCounts, h]

/-- After a change of a port that takes part in the traffic, its health is that of its counts, and a change of it is told (R176). -/
theorem followCounts_modPort {f : PortState → PortState} {h : Health}
    (hl : (s.port p).health = .active ∨ (s.port p).health = .passive) (hf : (f (s.port p)).health = (s.port p).health)
    (hh : h = healthOf (f (s.port p)).tx (f (s.port p)).rx) :
    (h = (s.port p).health → followCounts p (s.modPort p f) = s.modPort p f) ∧
    (h ≠ (s.port p).health → followCounts p (s.modPort p f) =
      setNotice .portChange (s.modPort p (fun q => { f q with health := h }))) := by
  have hlive : followCounts p (s.modPort p f) = setHealth p h (s.modPort p f) := by
    rw [followCounts_live (by rw [port_modPort, hf]; exact hl), port_modPort, hh]
  rw [hlive]
  refine ⟨fun he => setHealth_same (by rw [port_modPort, hf, he]), fun hne => ?_⟩
  rw [setHealth_changes (by rw [port_modPort, hf]; exact Ne.symm hne), modPort_modPort]

end

/-! ### The end of a transmission (R173, R174) -/

section
variable {s : State} {p : Port} {e : Queued}

theorem exec_transmissionCompleted (hr : s.inReset = false) (ha : (s.port p).activity = .transmitting e) :
    exec (.transmissionCompleted p) s = .next (updateDropModes (followCounts p (s.modPort p (fun q => { q with
      activity := .idle, wasTransmitter := true, tx := q.tx - 1, counters := bump q.counters 2 })))) := by
  have hexec : exec (.transmissionCompleted p) s = execTransmissionCompleted p s := rfl
  rw [hexec, execTransmissionCompleted, whenLive_live hr, ha]
  unfold countPort
  dsimp only
  rw [modPort_modPort]
  rfl

theorem exec_transmitError {err : TxError} (hr : s.inReset = false)
    (ha : (s.port p).activity = .transmitting e ∨ (s.port p).activity = .contending e ∧ err = .bit) :
    exec (.transmitError p err) s = .next (transmitErrorAt p err s) := by
  have hexec : exec (.transmitError p err) s = execTransmitError p err s := rfl
  rw [hexec, execTransmitError, whenLive_live hr]
  obtain ha | ⟨ha, rfl⟩ := ha <;> simp only [ha]

theorem markOf_live {h : Health} (hl : h = .active ∨ h = .passive) :
    markOf h = some (if h = .active then .dominant else .recessive) := by
  obtain rfl | rfl := hl <;> rfl

theorem txAfter_eq {err : TxError} {q : PortState} (hl : q.health = .active ∨ q.health = .passive) :
    txAfter err q = if err = .noAck ∧ q.health = .passive then q.tx else min 255 (q.tx + 8) := by
  cases err with
  | bit => rfl
  | noAck => obtain h | h := hl <;> simp [txAfter, h, txUp, Config.txMax]

/-- A transmit error that does not isolate voids the frame and follows the counts (R173, R174). -/
theorem transmitErrorAt_counted {err : TxError} (h : txAfter err (s.port p) ≤ 200) :
    transmitErrorAt p err s = updateDropModes (followCounts p (s.modPort p (fun q => { q with
      activity := .idle, wasTransmitter := true, voided := true, tx := txAfter err (s.port p)
      counters := bump q.counters 3, errorMark := markOf q.health }))) := by
  have hlow : ¬ Config.isolationCount < txAfter err (s.port p) := Nat.not_lt.mpr h
  unfold transmitErrorAt countPort
  dsimp only
  rw [if_neg hlow, modPort_modPort, modPort_modPort]
  rfl

end

/-- Settles O40: the port's change by the event, and then its health by `followCounts`. -/
theorem transmissionsEnd : Obligations.TransmissionsEnd := by
  intro s p e err tx h hr ha hl
  refine ⟨fun htx hh => ?_, fun htx hle hh => ?_⟩
  · rw [exec_transmissionCompleted hr ha]
    have hport : ∀ f : PortState → PortState, f (s.port p) = { s.port p with
        activity := .idle, wasTransmitter := true, tx := tx, counters := bump (s.port p).counters 2 } →
        s.modPort p f = s.modPort p (fun q => { q with
          activity := .idle, wasTransmitter := true, tx := tx, counters := bump q.counters 2 }) := fun f hf => modPort_congr hf
    rw [hport _ (by rw [htx])]
    obtain ⟨hsame, hchange⟩ := followCounts_modPort (h := h) (f := fun q => { q with
      activity := .idle, wasTransmitter := true, tx := tx, counters := bump q.counters 2 }) hl rfl hh
    exact ⟨fun he => by rw [hsame he], fun hne => by rw [hchange hne]⟩
  · have hafter : txAfter err (s.port p) = tx := (txAfter_eq hl).trans htx.symm
    have hmark : ∀ f : PortState → PortState, f (s.port p) = { s.port p with
        activity := .idle, wasTransmitter := true, voided := true, tx := tx, counters := bump (s.port p).counters 3
        errorMark := some (if (s.port p).health = .active then .dominant else .recessive) } →
        s.modPort p f = s.modPort p (fun q => { q with
          activity := .idle, wasTransmitter := true, voided := true, tx := tx, counters := bump q.counters 3
          errorMark := some (if q.health = .active then .dominant else .recessive) }) := fun f hf => modPort_congr hf
    rw [exec_transmitError hr (.inl ha), transmitErrorAt_counted (by rw [hafter]; exact hle),
      hmark _ (by rw [hafter, markOf_live hl])]
    obtain ⟨hsame, hchange⟩ := followCounts_modPort (h := h) (f := fun q => { q with
      activity := .idle, wasTransmitter := true, voided := true, tx := tx, counters := bump q.counters 3
      errorMark := some (if q.health = .active then .dominant else .recessive) }) hl rfl hh
    exact ⟨fun he => by rw [hsame he], fun hne => by rw [hchange hne]⟩

/-! ### What a port hears (R171 to R175) -/

section
variable {s : State} {p : Port}

theorem exec_receiveError (err : RxError) (hr : s.inReset = false) : exec (.receiveError p err) s =
    .next (if (s.port p).hears && !(s.port p).voided then receiveErrorAt p err s else s) := by
  have hexec : exec (.receiveError p err) s = execReceiveError p err s := rfl
  rw [hexec, execReceiveError, whenLive_live hr]

theorem exec_startMarkReceived (hr : s.inReset = false) : exec (.startMarkReceived p) s =
    .next (if (s.port p).hears then
      s.modPort p (fun q => { q with activity := .receiving, errorMark := none, voided := false }) else s) := by
  have hexec : exec (.startMarkReceived p) s = execStartMarkReceived p s := rfl
  rw [hexec, execStartMarkReceived, whenLive_live hr]

theorem afterWindow_iff (err : RxError) : RxError.afterWindow err = true ↔ err = .form ∨ err = .mark true := by
  cases err <;> simp [RxError.afterWindow]

theorem acknowledges_iff (h : Health) : acknowledges h = true ↔ h = .active ∨ h = .passive := by
  cases h <;> simp [acknowledges]

theorem receiveErrorAt_eq {err : RxError} {acked : Bool} {rx : Nat} (hj : (s.port p).health ≠ .joining)
    (hacked : acked = decide ((err = .form ∨ err = .mark true) ∧
      ((s.port p).health = .active ∨ (s.port p).health = .passive)))
    (hrx : rx = if (s.port p).rx < 127 then (s.port p).rx + 1 else (s.port p).rx) :
    receiveErrorAt p err s = followCounts p (s.modPort p (fun q => { q with
      activity := .idle, wasTransmitter := false, voided := true, acknowledged := acked
      errorMark := if q.health = .isolated then none else some (if q.health = .active then .dominant else .recessive)
      rx := rx, counters := bump q.counters 1 })) := by
  have hack : (RxError.afterWindow err && acknowledges (s.port p).health) = acked := by
    rw [hacked, Bool.eq_iff_iff, Bool.and_eq_true, afterWindow_iff, acknowledges_iff, decide_eq_true_eq]
  have hmark : markOf (s.port p).health = if (s.port p).health = .isolated then none else
      some (if (s.port p).health = .active then .dominant else .recessive) := by
    cases hh : (s.port p).health <;> first | rfl | exact absurd hh hj
  unfold receiveErrorAt countPort
  rw [modPort_modPort]
  refine congrArg _ (modPort_congr ?_)
  simp only [hack, hmark, hrx]
  rfl

theorem rxDown_eq (rx : Nat) : rxDown rx = if rx < 127 then rx - 1 else rx := by
  unfold rxDown Config.rxMax
  split <;> split <;> omega

/-- A good frame at a port that takes part in the traffic (R171, R175). -/
theorem goodFrameAt_live {rx : Nat} (hl : (s.port p).health = .active ∨ (s.port p).health = .passive)
    (hrx : rx = if (s.port p).rx < 127 then (s.port p).rx - 1 else (s.port p).rx) :
    goodFrameAt p s = recoverIfMet p (followCounts p (s.modPort p (fun q => { q with
      activity := .idle, wasTransmitter := false, voided := false, acknowledged := true, errorMark := none
      rx := rx }))) := by
  have hne : (s.port p).health ≠ .isolated := by obtain h | h := hl <;> simp [h]
  have hdown : rxDown (s.port p).rx = rx := (rxDown_eq _).trans hrx.symm
  unfold goodFrameAt
  refine congrArg _ (congrArg _ (modPort_congr ?_))
  simp only [hne, if_false, hdown, (acknowledges_iff _).mpr hl]

theorem recoverIfMet_live (h : (s.port p).health ≠ .isolated) : recoverIfMet p s = s := if_neg fun hc => h hc.1

end

/-- Settles O41: what a port hears changes it and its counts once, and its health follows. -/
theorem receiveErrorsAndStartMarks : Obligations.ReceiveErrorsAndStartMarks := by
  intro s p err rx h hr
  refine ⟨fun hdeaf => ?_, fun hv => ?_, fun hj hidle => ⟨?_, fun acked hv hacked hrx hh v hvs => ?_⟩,
    fun v hrx hh => ⟨fun hl hvs => ?_, fun hi hvs => ?_⟩⟩
  · have hnot : (s.port p).hears = false := by
      rw [← Bool.not_eq_true, hears_iff]
      exact fun ⟨h1, h2⟩ => hdeaf.elim h1 (· h2)
    rw [exec_receiveError err hr, exec_startMarkReceived hr, hnot]
    exact ⟨rfl, rfl⟩
  · rw [exec_receiveError err hr, hv]
    simp
  · rw [exec_startMarkReceived hr, if_pos ((hears_iff _).mpr ⟨hj, hidle⟩)]
  · have hhears : (s.port p).hears = true := (hears_iff _).mpr ⟨hj, hidle⟩
    rw [exec_receiveError err hr, hhears, hv, receiveErrorAt_eq hj hacked hrx]
    by_cases hi : (s.port p).health = .isolated
    · rw [if_pos hi] at hh
      rw [followCounts_isolated (by simpa using hi)]
      have hsame : v = s.modPort p (fun q => { q with
          activity := .idle, wasTransmitter := false, voided := true, acknowledged := acked
          errorMark := if q.health = .isolated then none else some (if q.health = .active then .dominant else .recessive)
          rx := rx, counters := bump q.counters 1 }) := hvs.trans (modPort_congr (by simp only [hh, hi]))
      rw [hh, hi, hsame]
      exact ⟨fun _ => rfl, fun hne => absurd rfl hne⟩
    · rw [if_neg hi] at hh
      have hl : (s.port p).health = .active ∨ (s.port p).health = .passive := by
        cases hh' : (s.port p).health with
        | joining => exact absurd hh' hj
        | active => exact .inl rfl
        | passive => exact .inr rfl
        | isolated => exact absurd hh' hi
      obtain ⟨hsame, hchange⟩ := followCounts_modPort (h := h) (f := fun q => { q with
        activity := .idle, wasTransmitter := false, voided := true, acknowledged := acked
        errorMark := if q.health = .isolated then none else some (if q.health = .active then .dominant else .recessive)
        rx := rx, counters := bump q.counters 1 }) hl rfl hh
      refine ⟨fun he => ?_, fun hne => ?_⟩
      · refine congrArg _ ((hsame he).trans ?_)
        rw [hvs]
        exact modPort_congr (by rw [he])
      · rw [hvs]
        exact congrArg _ (hchange hne)
  · rw [goodFrameAt_live hl hrx]
    obtain ⟨hsame, hchange⟩ := followCounts_modPort (h := h) (f := fun q => { q with
      activity := .idle, wasTransmitter := false, voided := false, acknowledged := true, errorMark := none
      rx := rx }) hl rfl hh
    have hhealth : h ≠ .isolated := by rw [hh]; exact healthOf_ne_isolated _ _
    have hv : (v.port p).health = h := by rw [hvs, port_modPort]
    refine ⟨fun he => ?_, fun hne => ?_⟩
    · have hvs' : v = s.modPort p (fun q => { q with
          activity := .idle, wasTransmitter := false, voided := false, acknowledged := true, errorMark := none
          rx := rx }) := hvs.trans (modPort_congr (by rw [he]))
      rw [hsame he, ← hvs', recoverIfMet_live (by rw [hv]; exact hhealth)]
    · have htold : followCounts p (s.modPort p (fun q => { q with
          activity := .idle, wasTransmitter := false, voided := false, acknowledged := true, errorMark := none
          rx := rx })) = setNotice .portChange v := by rw [hvs]; exact hchange hne
      rw [htold, recoverIfMet_live (by rw [setNotice_health, hv]; exact hhealth)]
  · have hdown : rxDown (s.port p).rx = rx := (rxDown_eq _).trans hrx.symm
    have hgood : goodFrameAt p s = recoverIfMet p v := by
      have hown : s.modPort p (fun q => { q with
          activity := .idle, wasTransmitter := false, voided := false, errorMark := none
          acknowledged := acknowledges q.health
          rx := rxDown q.rx
          goodFrames := if q.health = .isolated then q.goodFrames + 1 else q.goodFrames }) = v := by
        rw [hvs]
        refine modPort_congr ?_
        simp only [hi, if_true, hdown]
        rfl
      unfold goodFrameAt
      rw [hown, followCounts_isolated]
      rw [hvs, port_modPort]
      exact hi
    have hvi : (v.port p).health = .isolated := by rw [hvs, port_modPort]; exact hi
    rw [hgood]
    exact ⟨fun hm => if_neg (by simp [hm]), fun hm => if_pos ⟨hvi, hm⟩⟩

end Sys2Proof.Machine

/-! PROOFS. Isolation and recovery of a port (sections 9.4 and 9.5). -/

namespace Sys2Proof.Machine

open Sys2Proof

/-! ### Joining and recovery (R177, R179) -/

section
variable {s : State} {p : Port}

theorem exec_joinWaitEnd (hr : s.inReset = false) : exec (.joinWaitEnd p) s =
    .next (if (s.port p).health = .joining then setHealth p .active s else s) := by
  have hexec : exec (.joinWaitEnd p) s = execJoinWaitEnd p s := rfl
  rw [hexec, execJoinWaitEnd, whenLive_live hr]

theorem exec_portRecovery (hr : s.inReset = false) : exec (.portRecovery p) s =
    .next (if (s.port p).mayRecover then recoverPort p s else s) := by
  have hexec : exec (.portRecovery p) s = execPortRecovery p s := rfl
  rw [hexec, execPortRecovery, whenLive_live hr]

/-- A recovered port is joining, with its counts and progress at 0 (R179). -/
theorem recoverPort_eq (h : (s.port p).health = .isolated) : recoverPort p s = leftIsolation p (setNotice .portChange
    (s.modPort p (fun q => { q with
      health := .joining, tx := 0, rx := 0, idleBits := 0, goodFrames := 0, activity := .idle, voided := false }))) := by
  unfold recoverPort
  rw [setHealth_changes (by simp [h]), modPort_modPort]

end

/-- Settles O43: the guards of the two events, and the recovery of `recoverPort_eq`. -/
theorem joinAndRecovery : Obligations.JoinAndRecovery := by
  intro s p v hr
  refine ⟨fun h => ?_, fun h => ?_, fun h => ?_, fun hi hm hv => ?_⟩
  · rw [exec_joinWaitEnd hr, if_neg h]
  · rw [exec_joinWaitEnd hr, if_pos h, setHealth_changes (by simp [h])]
  · rw [exec_portRecovery hr, if_neg]
    rw [mayRecover_iff]
    rintro ⟨h1, h2⟩
    obtain h | ⟨h3, h4⟩ := h
    · exact h h1
    · exact Nat.not_le.mpr h4 (h2 h3)
  · rw [exec_portRecovery hr, if_pos ((mayRecover_iff _).mpr ⟨hi, fun hc => hm.resolve_left (by simp [hc])⟩), recoverPort_eq hi, ← hv]
    refine ⟨fun hp => by rw [hp]; rfl, fun hp ha => ?_, fun hp ha => ?_⟩
    · subst hp
      exact congrArg _ (if_pos ha)
    · subst hp
      exact congrArg _ (if_neg ha)

/-! ### What station work leaves of a port (R158, R165) -/

/-- Station work touches the ports by originations alone: what these keep, it keeps. -/
structure StationKeeps (P : State → Prop) : Prop where
  aside : ∀ v t : State, t.control = v.control → t.appliance = v.appliance → P v → P t
  sent : ∀ v k d pl, P v → P (originate k d pl v)

section
variable {P : State → Prop} {s : State} {n : StationId}

theorem StationKeeps.station (hP : StationKeeps P) {f : Station → Station} (h : P s) : P (s.modSt n f) :=
  hP.aside _ _ (by simp) (by simp) h

theorem StationKeeps.drive (hP : StationKeeps P) {f : DriveContext → DriveContext} (h : P s) : P (s.modDrive n f) :=
  hP.station h

theorem StationKeeps.run (hP : StationKeeps P) {f : RunContext → RunContext} (h : P s) : P (s.modRun n f) := hP.station h

theorem StationKeeps.heat (hP : StationKeeps P) {f : HeatContext → HeatContext} (h : P s) : P (s.modHeat n f) := hP.station h

theorem StationKeeps.arbiter (hP : StationKeeps P) : ArbiterKeeps P where
  arbiter v _ h := hP.aside v _ rfl rfl h
  demand _ _ _ h := hP.heat h
  sent v _ _ _ _ h := hP.sent v _ _ _ h

theorem StationKeeps.notice (hP : StationKeeps P) {b : NoticeBit} (h : P s) : P (setNotice b s) := by
  unfold setNotice originateNotice
  (repeat' split)
  · exact h
  · exact hP.sent _ _ _ _ (hP.aside s _ rfl rfl h)
  · exact hP.aside s _ rfl rfl h

theorem StationKeeps.counted (hP : StationKeeps P) {c : StationCounter} (h : P s) : P (countStation n c s) := hP.station h

theorem StationKeeps.testUnlock (hP : StationKeeps P) (h : P s) : P (testUnlock n s) := by
  unfold Machine.testUnlock sendLidSet
  (repeat' split)
  · exact hP.drive h
  · exact hP.sent _ _ _ _ (hP.drive h)
  · exact h

theorem StationKeeps.recomputeDrive (hP : StationKeeps P) (h : P s) : P (recomputeDrive n s) := by
  have hcomposed : P (composedState n s) := by
    unfold composedState
    dsimp only
    split
    · exact hP.counted (hP.drive h)
    · exact hP.drive h
  have hsent : P (sendSpeedSet n (composedState n s)) := by
    unfold sendSpeedSet
    split
    · exact hcomposed
    · exact hP.sent _ _ _ _ hcomposed
  rw [recomputeDrive_eq]
  dsimp only
  (repeat' split)
  · exact hP.testUnlock hsent
  · exact hP.testUnlock hcomposed
  · exact hsent
  · exact hcomposed

theorem StationKeeps.setDemand (hP : StationKeeps P) {d : Nat} (h : P s) : P (setDemand n d s) := by
  unfold Machine.setDemand
  split
  · exact h
  · exact hP.arbiter.followDemand (hP.heat h)

theorem StationKeeps.retestReached (hP : StationKeeps P) (h : P s) : P (Machine.retestReached n s) := hP.heat h

theorem StationKeeps.stateChanged (hP : StationKeeps P) {rule : Adoption} {b : Bool} (h : P s) : P (stateChanged n rule b s) := by
  unfold Machine.stateChanged adoptTarget
  refine hP.arbiter.recompute ?_
  have hdrive := hP.recomputeDrive (n := n) h
  split
  · exact hdrive
  · have hadopted : ∀ f, P (Machine.retestReached n ((Machine.recomputeDrive n s).modHeat n f)) := fun f =>
      hP.retestReached (hP.heat hdrive)
    dsimp only
    split
    · exact hadopted _
    · exact hP.setDemand (hadopted _)

theorem StationKeeps.stepReport (hP : StationKeeps P) {r : StepReport} (h : P s) : P (originateStepReport n r s) := by
  unfold originateStepReport
  split
  · exact hP.counted h
  · exact hP.sent _ _ _ _ h

theorem StationKeeps.endStep (hP : StationKeeps P) {o : StepOutcome} (h : P s) : P (endStep n o s) :=
  hP.run (hP.stepReport (hP.notice h))

theorem StationKeeps.enterFault (hP : StationKeeps P) {c : FaultCause} {k : Nat} {b : Bool} (h : P s) :
    P (enterFault n c k b s) := by
  have hended : P (faultEnded n s) := by
    unfold faultEnded
    split
    · exact hP.endStep h
    · exact h
  rw [enterFault_eq]
  exact hP.notice (hP.testUnlock (hP.drive (hP.stateChanged (hP.drive (hP.run hended)))))

theorem StationKeeps.raiseSilence (hP : StationKeeps P) {c : FaultCause} {faults : Bool} (h : P s) :
    P (raiseSilence n c faults s) :=
  raiseSilence_keeps (hP.enterFault h) (hP.notice (hP.run h)) h

theorem StationKeeps.isolateStation (hP : StationKeeps P) (h : P s) : P (isolateStation n s) := by
  unfold Machine.isolateStation dropManualHeat dropManualSpeed
  split
  · exact hP.arbiter.followManualHeat (hP.drive (hP.recomputeDrive (hP.drive h)))
  · exact hP.raiseSilence h

end

/-! ### The frames an isolation discards (R165, R178) -/

/-- The ISOLATION_DROP count of a port. -/
def State.drops (s : State) (p : Port) : Nat := (s.port p).counters[12]

/-- An ISOLATED port holds no frame, and has counted at least so many dropped frames (R165). -/
def isolatedEmpty (p : Port) (least : Nat) (s : State) : Prop :=
  (s.port p).health = .isolated ∧ (s.port p).entries = [] ∧ min Config.counterMax least ≤ s.drops p

section
variable {s : State} {p : Port} {n : StationId}

theorem drops_countPort_self : (countPort p .isolationDrop s).drops p = satInc Config.counterMax (s.drops p) := by
  simp [State.drops, countPort, bump, portCounterIndex]

theorem satInc_ge (b x : Nat) : x ≤ satInc b x := by
  unfold satInc
  split <;> omega

/-- Each frame discarded counts once, up to the end of the counter (R165). -/
theorem drops_countDrops (k : Nat) (s : State) :
    min Config.counterMax (s.drops p + k) ≤ (countDrops p k s).drops p := by
  induction k generalizing s with
  | zero => exact Nat.min_le_right _ _
  | succ k ih =>
    refine le_trans ?_ (ih (countPort p .isolationDrop s))
    rw [drops_countPort_self]
    unfold satInc
    split <;> omega

theorem isolatedEmpty_keeps (p : Port) (least : Nat) : StationKeeps (isolatedEmpty p least) where
  aside v t hc ha h := by
    have hport : t.port p = v.port p := by cases p <;> assumption
    unfold isolatedEmpty State.drops at h ⊢
    rwa [hport]
  sent v k d pl h := by
    obtain ⟨hh, he, hd⟩ := h
    by_cases hp : k.port = p
    · subst hp
      have hdropped : originate k d pl v = countPort k.port .isolationDrop v := if_pos hh
      rw [hdropped]
      refine ⟨by simpa [countPort] using hh, ?_, ?_⟩
      · simpa [countPort, PortState.entries, PortState.engine] using he
      · rw [drops_countPort_self]
        exact le_trans hd (satInc_ge _ _)
    · have hport : (originate k d pl v).port p = v.port p := by
        unfold originate countPort
        split <;> exact port_modPort_ne (Ne.symm hp)
      unfold isolatedEmpty State.drops
      rw [hport]
      exact ⟨hh, he, hd⟩

/-- The port of an isolation before its stations act on it (R178 parts 1 to 4). -/
def isolatedPort (p : Port) (s : State) : State :=
  setHealth p .isolated (countDrops p (s.port p).entries.length (s.modPort p (fun q => { q with
    urgent := [], control := [], bulk := [], activity := .idle, idleBits := 0, goodFrames := 0, errorMark := none })))

theorem enterIsolated_eq (p : Port) (s : State) : enterIsolated p s =
    match p with
    | .appliance => isolateStation .one (isolateStation .zero (isolatedPort .appliance s))
    | .control => isolatedPort .control s := by
  cases p <;> rfl

@[simp] theorem isolatedPort_st (p : Port) (s : State) (n : StationId) : (isolatedPort p s).st n = s.st n := by
  simp [isolatedPort]

theorem isolatedPort_empty (h : (s.port p).health ≠ .isolated) :
    isolatedEmpty p (s.drops p + (s.port p).entries.length) (isolatedPort p s) := by
  generalize hc : s.modPort p (fun q => { q with
    urgent := [], control := [], bulk := [], activity := .idle, idleBits := 0, goodFrames := 0, errorMark := none }) = c
  have hdrops : c.drops p = s.drops p := by rw [← hc]; simp [State.drops]
  have hempty : (c.port p).entries = [] := by rw [← hc]; simp [PortState.entries, PortState.engine]
  have hhealth : ((countDrops p (s.port p).entries.length c).port p).health ≠ .isolated := by
    rw [health_of (countDrops_outline ..), ← hc]
    simpa using h
  have hcounted := drops_countDrops (p := p) (s.port p).entries.length c
  rw [hdrops] at hcounted
  unfold isolatedPort
  rw [hc, setHealth_changes hhealth]
  refine (isolatedEmpty_keeps p _).notice ⟨by simp, ?_, ?_⟩
  · have he := countDrops_entries p (s.port p).entries.length c
    rw [hempty] at he
    simpa [PortState.entries, PortState.engine] using he
  · simpa [State.drops] using hcounted

end

/-! ### What an isolation of the appliance port does to a station (R178) -/

/-- What an isolation of the appliance port makes of a station `a` (R178 part 5). -/
def StationIsolated (a b : Station) : Prop :=
  (a.run.state = .running ∨ a.run.state = .paused ∨ a.run.state = .warming →
    b.run.state = .fault ∧ b.run.faultCause = some .link ∧ b.run.furtherFaults = 0 ∧
    (b.drive.requested = 0 ∧ b.drive.commanded = 0 ∧ b.drive.clamped = false ∧ b.heat.integral = 0 ∧ b.heat.demand = 0 ∧
      b.heat.reached = false) ∧ b.drive.pendingUnlock = true) ∧
  (a.run.state = .idle →
    b.run = a.run ∧ b.drive.manualSpeed = 0 ∧ b.drive.speedHold = none ∧
    b.drive.manualHeat = 0 ∧ b.drive.heatHold = none ∧ b.drive.commanded = 0) ∧
  (a.run.state = .fault →
    b.run = { a.run with furtherFaults := satInc 255 a.run.furtherFaults, more := true })

section
variable {s : State} {n : StationId}

theorem dropManualSpeed_idle (h : (s.st n).run.state = .idle) : ((dropManualSpeed n s).st n).drive.manualSpeed = 0 ∧
    ((dropManualSpeed n s).st n).drive.speedHold = none ∧ ((dropManualSpeed n s).st n).drive.commanded = 0 := by
  obtain ⟨-, -, hc, -, -, -, hm, -, hh, -⟩ := (recomputeDrive_sameSpeed n (s.modDrive n (fun d =>
    { d with manualSpeed := 0, speedHold := none }))).fields
  exact ⟨hm.trans (by simp [composeSpeed]), hh.trans (by simp [composeSpeed]),
    hc.trans (by simp [composeSpeed, State.requestOf, h])⟩

/-- A fault entry on an ISOLATED appliance port leaves the unlock pending (R53, R129). -/
theorem enterFault_pending {c : FaultCause} {k : Nat} {b : Bool} (h : s.appliance.health = .isolated) :
    ((enterFault n c k b s).st n).drive.pendingUnlock = true := by
  have hout : ∀ v : State, v.outline = s.outline →
      ((askUnlock n v).st n).drive.pendingUnlock = true := by
    intro v hv
    have hi : (v.modDrive n (fun d => { d with pendingUnlock := true })).appliance.health = .isolated := by
      rw [← h]
      exact health_of (show (v.modDrive n (fun d => { d with pendingUnlock := true })).outline = s.outline by simp [hv]) .appliance
    unfold askUnlock
    rw [testUnlock_waits (.inr (.inr (.inr hi)))]
    simp
  rw [enterFault_eq, setNotice_drive]
  exact hout _ (by simp [faultEnded_outline])

theorem isolateStation_spec (h : s.appliance.health = .isolated) : StationIsolated (s.st n) ((isolateStation n s).st n) := by
  refine ⟨fun hbusy => ?_, fun hi => ?_, fun hf => ?_⟩
  · have hidle : (s.st n).run.state ≠ .idle := by obtain h | h | h := hbusy <;> simp [h]
    have hfault : (s.st n).run.state ≠ .fault := by obtain h | h | h := hbusy <;> simp [h]
    have hb : busyState (s.st n).run.state = true := by obtain h | h | h := hbusy <;> simp [h, busyState]
    unfold isolateStation
    rw [if_neg hidle, raiseSilence_faults hfault hb]
    exact ⟨by simp, by simp, by simp, atRest_enterFault n .link 0 s, enterFault_pending h⟩
  · unfold isolateStation dropManualHeat
    rw [if_pos hi]
    obtain ⟨h1, h2, h3⟩ := dropManualSpeed_idle hi
    simp [h1, h2, h3]
  · have hidle : (s.st n).run.state ≠ .idle := by simp [hf]
    unfold isolateStation
    rw [if_neg hidle, raiseSilence_further hf, furtherFault_run]

end

/-! ### The transmit error that isolates (R174, R178) -/

/-- A notice bit that is set stays set beside others. -/
theorem and_or_ne_zero {x m : BitVec 16} (y : BitVec 16) (h : x &&& m ≠ 0) : (x ||| y) &&& m ≠ 0 := by
  intro hc
  have habsorb : x &&& m = x &&& ((x ||| y) &&& m) := by
    ext i hi
    simp only [BitVec.getElem_and, BitVec.getElem_or]
    cases x[i] <;> simp
  rw [hc] at habsorb
  exact h (habsorb.trans (by simp))

section
variable {s : State} {p : Port} {n : StationId}

/-- A bit set before the stations act on an isolation is set after it. -/
theorem isolateStation_bits {b : NoticeBit} (h : s.notices.bits &&& noticeMask b ≠ 0) :
    (isolateStation n s).notices.bits &&& noticeMask b ≠ 0 := by
  unfold isolateStation
  split
  · simpa using h
  · refine raiseSilence_keeps (P := fun u => u.notices.bits &&& noticeMask b ≠ 0) ?_ ?_ h
    · rw [enterFault_bits, State.faultedBits]
      refine and_or_ne_zero _ ?_
      split
      · exact and_or_ne_zero _ h
      · exact h
    · rw [furtherFault, setNotice_bits]
      exact and_or_ne_zero _ (by simpa using h)

theorem isolatedPort_bits (h : (s.port p).health ≠ .isolated) :
    (isolatedPort p s).notices.bits &&& noticeMask .portChange ≠ 0 := by
  unfold isolatedPort
  rw [setHealth_changes, setNotice_bits]
  · rw [BitVec.or_comm]
    exact and_or_ne_zero _ (by decide)
  · rw [health_of (countDrops_outline ..)]
    simpa using h

/-- The count of a transmit error that isolates comes first (R166, R173). -/
theorem transmitErrorAt_isolates {err : TxError} (h : 200 < txAfter err (s.port p)) :
    transmitErrorAt p err s = updateDropModes (enterIsolated p (s.modPort p (fun q => { q with
      tx := txAfter err (s.port p), wasTransmitter := true, voided := true, counters := bump q.counters 3 }))) := by
  have hhigh : Config.isolationCount < txAfter err (s.port p) := h
  unfold transmitErrorAt countPort
  dsimp only
  rw [if_pos hhigh, modPort_modPort]
  rfl

/-- What the isolation leaves of the port and the stations (R178). -/
theorem enterIsolated_spec (h : (s.port p).health ≠ .isolated) :
    isolatedEmpty p (s.drops p + (s.port p).entries.length) (enterIsolated p s) ∧
    (enterIsolated p s).notices.bits &&& noticeMask .portChange ≠ 0 ∧
    (p = .control → ∀ n, (enterIsolated p s).st n = s.st n) ∧
    (p = .appliance → ∀ n, StationIsolated (s.st n) ((enterIsolated p s).st n)) := by
  rw [enterIsolated_eq]
  cases p with
  | control => exact ⟨isolatedPort_empty h, isolatedPort_bits h, fun _ n => by simp, by simp⟩
  | appliance =>
    have keeps := isolatedEmpty_keeps .appliance (s.drops .appliance + (s.port .appliance).entries.length)
    have hempty := isolatedPort_empty h
    have hfirst := keeps.isolateStation (n := .zero) hempty
    refine ⟨keeps.isolateStation hfirst, isolateStation_bits (isolateStation_bits (isolatedPort_bits h)), by simp, fun _ n => ?_⟩
    cases n with
    | zero =>
      have hspec := isolateStation_spec (n := .zero) (s := isolatedPort .appliance s) hempty.1
      rw [isolatedPort_st] at hspec
      have hother : (isolateStation .one (isolateStation .zero (isolatedPort .appliance s))).st .zero =
        (isolateStation .zero (isolatedPort .appliance s)).st .zero := isolateStation_other .one _
      rw [hother]
      exact hspec
    | one =>
      have hspec := isolateStation_spec (n := .one) (s := isolateStation .zero (isolatedPort .appliance s)) hfirst.1
      have hother : (isolateStation .zero (isolatedPort .appliance s)).st .one = (isolatedPort .appliance s).st .one :=
        isolateStation_other .zero _
      rw [hother, isolatedPort_st] at hspec
      exact hspec

end

theorem updateDropModes_port (s : State) (p : Port) : (updateDropModes s).port p =
    { s.port p with dropMode := ((updateDropModes s).port p).dropMode } := by
  cases p <;> rfl

/-- Settles O42: the port by `isolatedPort`, the stations by `isolateStation_spec`; neither sends on an ISOLATED port. -/
theorem isolationDiscardsAndFaults : Obligations.IsolationDiscardsAndFaults := by
  intro s p e err hr ha hl htx
  have hlive : (s.port p).health = .active ∨ (s.port p).health = .passive := hl.imp_right And.left
  have hafter : txAfter err (s.port p) = min 255 ((s.port p).tx + 8) := by
    rw [txAfter_eq hlive, if_neg]
    rintro ⟨h1, h2⟩
    obtain h | ⟨-, h⟩ := hl
    · rw [h] at h2; cases h2
    · rw [h] at h1; cases h1
  generalize hv : s.modPort p (fun q => { q with
    tx := min 255 ((s.port p).tx + 8), wasTransmitter := true, voided := true, counters := bump q.counters 3 }) = v
  have hport : v.port p = { s.port p with
    tx := min 255 ((s.port p).tx + 8), wasTransmitter := true, voided := true
    counters := bump (s.port p).counters 3 } := by rw [← hv, port_modPort]
  have hst : ∀ n, v.st n = s.st n := fun n => by rw [← hv]; simp
  have hlink : (v.port p).health ≠ .isolated := by
    rw [hport]
    obtain h | h := hlive <;> simp [h]
  obtain ⟨⟨hh, he, hd⟩, hbits, hcontrol, happliance⟩ := enterIsolated_spec hlink
  have hout := port_outline_of (enterIsolated_outline p v) p
  rw [port_modPort, hport] at hout
  refine ⟨updateDropModes (enterIsolated p v), ?_, ?_⟩
  · rw [exec_transmitError hr ha, transmitErrorAt_isolates (by rw [hafter]; omega), hafter, hv]
  · simp only [updateDropModes_st, updateDropModes_notices]
    rw [updateDropModes_port]
    refine ⟨hh, (congrArg PortState.tx hout :), he, (congrArg PortState.activity hout :), (congrArg PortState.idleBits hout :),
      (congrArg PortState.goodFrames hout :), (congrArg PortState.errorMark hout :), hbits, fun x y hx hy => ?_,
      fun hp n => by rw [hcontrol hp n, hst], fun hp n => ?_⟩
    · have hx' : v.drops p = x := by
        have hx : (s.port p).counters[12] = x := by simpa using hx
        rw [← hx]
        simp [State.drops, hport, bump]
      have hy' : (enterIsolated p v).drops p = y := by simpa [State.drops] using hy
      have hlen : (v.port p).entries.length = (s.port p).entries.length := by rw [hport]; rfl
      rw [← hx', ← hy', ← hlen]
      exact hd
    · have hspec := happliance hp n
      rw [hst] at hspec
      obtain ⟨hbusy, hidle, hfault⟩ := hspec
      refine ⟨fun h => ?_, hidle, hfault⟩
      obtain ⟨h1, h2, h3, h4, h5⟩ := hbusy h
      refine ⟨h1, h2, h3, ?_, h5⟩
      unfold AtRest
      rw [updateDropModes_st]
      exact h4

end Sys2Proof.Machine

/-! PROOFS. The port requests (sections 7.3, 8.5, 9.5): PORT_CONFIG, PORT_STATUS and PORT_RESTART. -/

namespace Sys2Proof.Machine

open Sys2Proof

/-! ### The items of a port (R137, R157, R199) -/

theorem portItem_eq_getElem? (s : State) (p : Port) (j : Nat) : s.portItem p j = [admissionCode (s.port p).cfg.admission,
    (s.port p).cfg.learnLimit, s.ageLimit, (s.port p).cfg.high, (s.port p).cfg.low, (s.port p).cfg.wc, (s.port p).cfg.wb,
    recoveryCode (s.port p).cfg.recovery][j]? :=
  match j with
  | 0 | 1 | 2 | 3 | 4 | 5 | 6 | 7 => rfl
  | _ + 8 => rfl

theorem portItemInRange_iff (j v : Nat) : portItemInRange j v = true ↔
    ∃ x y, [(0, 2), (0, 16), (1, 600), (2, 40), (1, 39), (1, 8), (1, 8), (0, 1)][j]? = some (x, y) ∧ x ≤ v ∧ v ≤ y :=
  match j with
  | 0 | 1 | 2 | 3 | 4 | 5 | 6 | 7 => by simp [portItemInRange]
  | _ + 8 => by simp [portItemInRange]

theorem admissionCode_admissionOf {v : Nat} (h : v ≤ 2) : admissionCode (admissionOf v) = v := by
  interval_cases v <;> rfl

theorem recoveryCode_of {v : Nat} (h : v ≤ 1) : recoveryCode (if v = 0 then .quiet else .count) = v := by
  interval_cases v <;> rfl

theorem portItem_setPortItem {s : State} {p : Port} {i v : Nat} (hi : i ≠ 2) (hv : portItemInRange i v = true) (j : Nat) :
    (s.modPort p (fun x => { x with cfg := setPortItem x.cfg i v })).portItem p j =
      if j = i then some v else s.portItem p j := by
  have hage : (s.modPort p (fun x => { x with cfg := setPortItem x.cfg i v })).ageLimit = s.ageLimit := by simp
  rw [portItem_eq_getElem?, portItem_eq_getElem?, port_modPort, hage]
  match i, hi, hv with
  | 0, _, hv =>
    have h0 : admissionCode (admissionOf v) = v := admissionCode_admissionOf (by simpa [portItemInRange] using hv)
    match j with
    | 0 => simp [setPortItem, h0]
    | _ + 1 => rfl
  | 1, _, _ => match j with
    | 0 | 1 | _ + 2 => rfl
  | 3, _, _ => match j with
    | 0 | 1 | 2 | 3 | _ + 4 => rfl
  | 4, _, _ => match j with
    | 0 | 1 | 2 | 3 | 4 | _ + 5 => rfl
  | 5, _, _ => match j with
    | 0 | 1 | 2 | 3 | 4 | 5 | _ + 6 => rfl
  | 6, _, _ => match j with
    | 0 | 1 | 2 | 3 | 4 | 5 | 6 | _ + 7 => rfl
  | 7, _, hv =>
    have h7 : recoveryCode (if v = 0 then .quiet else .count) = v := recoveryCode_of (by simpa [portItemInRange] using hv)
    match j with
    | 0 | 1 | 2 | 3 | 4 | 5 | 6 | _ + 8 => rfl
    | 7 => simp [setPortItem, h7]

theorem le_of_portItemInRange {j v : Nat} (h : portItemInRange j v = true) : j ≤ 7 := by
  unfold portItemInRange at h
  split at h <;> first | omega | cases h

theorem portItemClashes_iff (s : State) (p : Port) (i v : Nat) : s.portItemClashes p i v = true ↔
    i = 1 ∧ v ≠ 0 ∧ v < s.learnedCount p ∨ i = 3 ∧ v ≤ (s.port p).cfg.low ∨ i = 4 ∧ (s.port p).cfg.high ≤ v := by
  unfold State.portItemClashes
  split
  · simp
  · simp
  · simp
  · next h1 h3 h4 =>
    refine iff_of_false (by simp) ?_
    rintro (⟨h, -⟩ | ⟨h, -⟩ | ⟨h, -⟩)
    · exact h1 h
    · exact h3 h
    · exact h4 h

/-! ### The rules past the port's number -/

theorem withPort_of_none {b : Byte} {rule : Port → State → State × Answer} {s : State} (h : portOf b = none) :
    withPort b rule s = (s, refuse .badValue 255) := by simp [withPort, h, badStation]

theorem withPort_of_some {b : Byte} {rule : Port → State → State × Answer} {s : State} {p : Port} (h : portOf b = some p) :
    withPort b rule s = rule p s := by simp [withPort, h]

/-! ### What an accepted write acts on (R137, R157, R179) -/

section
variable {s : State} {p : Port} {i v : Nat}

theorem applyPortItem_plain (h2 : i ≠ 2) (h3 : i ≠ 3) (h4 : i ≠ 4) (h7 : i ≠ 7) :
    applyPortItem p i v s = s.modPort p (fun x => { x with cfg := setPortItem x.cfg i v }) := by
  simp [applyPortItem, h2, h3, h4, h7]

theorem applyPortItem_bound (h : i = 3 ∨ i = 4) : applyPortItem p i v s = s.modPort p (fun x => { x with
    cfg := setPortItem x.cfg i v
    dropMode :=
      if x.dropMode = false ∧ (setPortItem x.cfg i v).high ≤ s.held p then true
      else if x.dropMode = true ∧ s.held p ≤ (setPortItem x.cfg i v).low then false
      else x.dropMode }) := by
  have h2 : i ≠ 2 := by omega
  have hheld : (s.modPort p (fun x => { x with cfg := setPortItem x.cfg i v })).held p = s.held p := by
    cases p <;> rfl
  unfold applyPortItem
  rw [if_neg h2, if_pos h]
  unfold updateDropMode
  rw [hheld, modPort_modPort]
  refine modPort_congr ?_
  congr 1
  cases (s.port p).dropMode <;> simp [dropModeAfter]

theorem applyPortItem_recovery :
    applyPortItem p 7 v s = recoverIfMet p (s.modPort p (fun x => { x with cfg := setPortItem x.cfg 7 v })) := rfl

theorem removeWhere_ageLimit (gone : NodeEntry → Bool) (s : State) : (removeWhere gone s).ageLimit = s.ageLimit := by
  have one : ∀ i t, (removeIf gone i t).ageLimit = t.ageLimit := by
    intro i t
    obtain ⟨e, -, -, h⟩ | ⟨-, h⟩ := removeIf_cases gone i t <;> simp [h]
  rw [removeWhere_eq_removeBelow]
  generalize 16 = m
  induction m with
  | zero => rfl
  | succ m ih => exact (one ..).trans ih

/-- A new AGE_LIMIT removes the LEARNED entries that have reached it, and no other (R137). -/
theorem applyPortItem_ageLimit : (applyPortItem p 2 v s).ageLimit = v ∧ ∀ j e, s.entryAt j = some e →
    (e.origin = .learned → v * 100 ≤ e.age → (applyPortItem p 2 v s).entryAt j = none) ∧
    (e.origin = .static ∨ e.age < v * 100 → (applyPortItem p 2 v s).entryAt j = some e) := by
  have happly : applyPortItem p 2 v s = removeWhere (NodeEntry.tooOld v) { s with ageLimit := v } := rfl
  have hentry : ∀ j, ({ s with ageLimit := v } : State).entryAt j = s.entryAt j := fun j => rfl
  rw [happly, removeWhere_ageLimit]
  refine ⟨rfl, fun j e he => ?_⟩
  rw [removeWhere_entryAt, hentry, he]
  refine ⟨fun ho ha => by simp [NodeEntry.tooOld, ho, ha], fun hkept => ?_⟩
  have hyoung : NodeEntry.tooOld v e = false := by
    obtain ho | ha := hkept
    · simp [NodeEntry.tooOld, ho]
    · simp [NodeEntry.tooOld, ha]
  simp [hyoung]

end

/-! ### PORT_RESTART (R180) -/

section
variable {s : State} {p : Port} {e : Queued}

/-- What a restart zeroes before it stops the engine (R180 part 1). -/
def PortState.zeroed (q : PortState) : PortState :=
  { q with tx := 0, rx := 0, idleBits := 0, goodFrames := 0, wasTransmitter := false, errorMark := none, voided := false }

theorem restartPort_live (h : (s.port p).health ≠ .isolated) : restartPort p s = setNotice .portChange
    ((stopSending p (s.modPort p PortState.zeroed)).modPort p (fun q => { q with health := .joining })) := if_neg h

theorem restartPort_quiet (h : (s.port p).health ≠ .isolated) (he : (s.port p).engine = []) :
    restartPort p s = setNotice .portChange (s.modPort p (fun x => { x with
      health := .joining, tx := 0, rx := 0, idleBits := 0, goodFrames := 0, wasTransmitter := false
      errorMark := none, voided := false, activity := .idle })) := by
  have hactivity : ((s.modPort p PortState.zeroed).port p).activity = (s.port p).activity := by rw [port_modPort]; rfl
  rw [restartPort_live h]
  unfold stopSending
  rw [hactivity]
  cases ha : (s.port p).activity with
  | contending e => simp [PortState.engine, ha] at he
  | transmitting e => simp [PortState.engine, ha] at he
  | idle =>
    dsimp only
    rw [modPort_modPort]
    exact congrArg _ (modPort_congr (by simp only [PortState.zeroed, ha]))
  | receiving =>
    dsimp only
    rw [modPort_modPort, modPort_modPort]
    exact congrArg _ (modPort_congr rfl)

theorem unspendCredit_eq (c : QClass) (q : PortState) : unspendCredit c q =
    if q.creditSpent = false ∨ c = .urgent then q
    else if c = .control then { q with creditControl := q.creditControl + 1 }
    else { q with creditBulk := q.creditBulk + 1 } := by
  cases hs : q.creditSpent <;> cases c <;> simp [unspendCredit, hs]

theorem unspendCredit_zeroed (c : QClass) (q : PortState) : unspendCredit c q.zeroed = (unspendCredit c q).zeroed := by
  have hspent : q.zeroed.creditSpent = q.creditSpent := rfl
  unfold unspendCredit
  rw [hspent]
  split
  · cases c <;> rfl
  · rfl

/-- A restart with a transit frame in the engine puts it back at the head of its queue (R180 part 3). -/
theorem restartPort_transit {a : Port} {x : PortState} (h : (s.port p).health ≠ .isolated) (ho : e.origin = .transit a)
    (hx : (s.port p).activity = .contending e ∧ x = s.port p ∨
      (s.port p).activity = .transmitting e ∧ x = unspendCredit e.cls (s.port p)) :
    restartPort p s = setNotice .portChange (s.modPort p (fun _ => { x.modQueue e.cls (fun l => e :: l) with
      health := .joining, tx := 0, rx := 0, idleBits := 0, goodFrames := 0, wasTransmitter := false
      errorMark := none, voided := false, activity := .idle })) := by
  have hactivity : ((s.modPort p PortState.zeroed).port p).activity = (s.port p).activity := by rw [port_modPort]; rfl
  have hreturn : ∀ v : State, returnUnsent p e v = v.modPort p (fun q => q.modQueue e.cls (e :: ·)) := fun v => by
    simp only [returnUnsent, ho]
  rw [restartPort_live h]
  unfold stopSending
  rw [hactivity]
  obtain ⟨ha, rfl⟩ | ⟨ha, rfl⟩ := hx
  · simp only [ha, hreturn, modPort_modPort]
    refine congrArg _ (modPort_congr ?_)
    cases e.cls <;> rfl
  · simp only [ha, hreturn, modPort_modPort]
    refine congrArg _ (modPort_congr ?_)
    rw [unspendCredit_zeroed]
    generalize unspendCredit e.cls (s.port p) = y
    cases e.cls <;> rfl

/-- What every restart leaves (R180). -/
theorem restartPort_leaves : ((restartPort p s).port p).health = .joining ∧ ((restartPort p s).port p).engine = [] ∧
    ((restartPort p s).port p).tx = 0 ∧ ((restartPort p s).port p).rx = 0 ∧ ((restartPort p s).port p).idleBits = 0 ∧
    ((restartPort p s).port p).goodFrames = 0 ∧
    ((restartPort p s).port (otherPort p)).health = (s.port (otherPort p)).health ∧
    (∀ n, ((restartPort p s).st n).run = (s.st n).run) ∧ (restartPort p s).nodes = s.nodes ∧
    (restartPort p s).routes = s.routes := by
  have hout := restartPort_outline p s
  have hport := port_outline_of hout p
  have hother := port_outline_of hout (otherPort p)
  rw [port_modPort] at hport
  rw [port_modPort_ne (by cases p <;> simp [otherPort])] at hother
  have hcounts : (s.port p).restarted.idleBits = 0 ∧ (s.port p).restarted.goodFrames = 0 := by
    unfold PortState.restarted PortState.stopped unspendCredit
    (repeat' split) <;> exact ⟨rfl, rfl⟩
  obtain ⟨ha, ht, hr, -⟩ := stopped_fields { s.port p with
    tx := 0, rx := 0, idleBits := 0, goodFrames := 0, wasTransmitter := false, errorMark := none, voided := false }
  have hidle : ((restartPort p s).port p).activity = .idle := (congrArg PortState.activity hport :).trans ha
  refine ⟨(congrArg PortState.health hport :), by simp [PortState.engine, hidle], (congrArg PortState.tx hport :).trans ht,
    (congrArg PortState.rx hport :).trans hr, (congrArg PortState.idleBits hport :).trans hcounts.1,
    (congrArg PortState.goodFrames hport :).trans hcounts.2, (congrArg PortState.health hother :), fun n => ?_, restartPort_nodes p s,
    (routes_of hout).trans (by simp)⟩
  obtain ⟨hrun, -⟩ := restartPort_sameButDrive p s n
  exact hrun

end

/-- Settles O44: the requests by their rules, and a restart by what it makes of the port's engine. -/
theorem portRequests : Obligations.PortRequests := by
  refine ⟨portItem_eq_getElem?, fun s p i j v hi hv => portItem_setPortItem hi hv j, portItemInRange_iff,
    fun s q tag pb i lo hi c => ⟨fun hc hat => ?write, fun hc hat => ?read⟩, fun s q tag b => ⟨fun hat => ?status, fun hat => ?restart⟩⟩
  case write =>
    subst hc
    have answer {t a} : portConfigWriteRule [pb, i, lo, hi] s = (t, a) → Answers (.portConfigWrite q tag [pb, i, lo, hi]) s a t :=
      answers_of_rule _ hat rfl
    refine ⟨fun hp => answer (by simp only [portConfigWriteRule, withPort_of_none hp]), fun p hp => ?_⟩
    have hrule : portConfigWriteRule [pb, i, lo, hi] s =
        if 7 < i.toNat then (s, refuse .badValue 0)
        else if portItemInRange i.toNat (u16 lo hi) = false then (s, refuse .badValue 1)
        else if s.portItemClashes p i.toNat (u16 lo hi) = true then (s, refuse .badValue 2)
        else (applyPortItem p i.toNat (u16 lo hi) s, done (putU16 (u16 lo hi))) := by
      simp only [portConfigWriteRule, withPort_of_some hp]
    rw [hrule] at answer
    refine ⟨fun h7 => answer (if_pos h7), fun h7 hr => answer ((if_neg (Nat.not_lt.mpr h7)).trans (if_pos hr)), fun hr => ?_⟩
    have h7 := Nat.not_lt.mpr (le_of_portItemInRange hr)
    rw [if_neg h7, if_neg (by simp [hr])] at answer
    refine ⟨fun hclash => answer (if_pos ((portItemClashes_iff ..).mpr hclash)), fun h1 h3 h4 => ?_⟩
    have hfits : ¬ s.portItemClashes p i.toNat (u16 lo hi) = true := by
      rw [portItemClashes_iff]
      rintro (⟨hi, hne, hlt⟩ | ⟨hi, hle⟩ | ⟨hi, hle⟩)
      · exact (h1 hi).elim hne (Nat.not_le.mpr hlt)
      · exact Nat.not_lt.mpr hle (h3 hi)
      · exact Nat.not_lt.mpr hle (h4 hi)
    rw [if_neg hfits] at answer
    refine ⟨fun hplain => answer ?_, fun hbound => answer ?_, fun v h7 hv => ⟨fun hnot => answer ?_, fun hh hm => answer ?_⟩,
      fun h2 => ⟨applyPortItem p i.toNat (u16 lo hi) s, answer rfl, ?_⟩⟩
    · rw [applyPortItem_plain (by omega) (by omega) (by omega) (by omega)]
    · rw [applyPortItem_bound hbound]
    · rw [h7, applyPortItem_recovery, ← hv, recoverIfMet, if_neg]
      rintro ⟨h1, h2⟩
      obtain h | h := hnot
      · exact h (by rw [hv, port_modPort] at h1; exact h1)
      · rw [h] at h2; cases h2
    · rw [h7, applyPortItem_recovery, ← hv, recoverIfMet, if_pos ⟨by rw [hv, port_modPort]; exact hh, hm⟩]
    · rw [h2]
      exact applyPortItem_ageLimit
  case read =>
    subst hc
    have answer {t a} : portConfigReadRule [pb, i] s = (t, a) → Answers (.portConfigRead q tag [pb, i]) s a t :=
      answers_of_rule _ hat rfl
    refine ⟨fun hp => answer (by simp only [portConfigReadRule, withPort_of_none hp]), fun p hp => ⟨fun h7 => answer ?_, fun v hv => answer ?_⟩⟩
    · have hnone : s.portItem p i.toNat = none := by
        rw [portItem_eq_getElem?, List.getElem?_eq_none_iff]
        exact h7
      simp only [portConfigReadRule, withPort_of_some hp, hnone]
    · simp only [portConfigReadRule, withPort_of_some hp, hv]
  case status =>
    have answer {t a} : portStatusRule [b] s = (t, a) → Answers (.portStatus q tag [b]) s a t := answers_of_rule _ hat rfl
    refine ⟨fun hp => answer (by simp only [portStatusRule, withPort_of_none hp]), fun p x sends isolated hp hx hsends hiso => answer ?_⟩
    have hs : PortState.sending x = sends := by
      rw [Bool.eq_iff_iff, hsends]
      unfold PortState.sending PortState.engine
      cases x.activity <;> simp
    have hi : (x.health == .isolated) = isolated := by rw [Bool.eq_iff_iff, hiso]; simp
    subst hx
    have hrule : portStatusRule [b] s = (s, done (s.portStatus p)) := by
      simp only [portStatusRule, withPort_of_some hp]
    rw [hrule]
    simp only [State.portStatus, PortState.statusByte, hs, hi]
    rfl
  case restart =>
    have answer {t a} : portRestartRule [b] s = (t, a) → Answers (.portRestart q tag [b]) s a t := answers_of_rule _ hat rfl
    refine ⟨fun hp => answer (by simp only [portRestartRule, withPort_of_none hp]), fun p hp => ?_⟩
    have hrule : portRestartRule [b] s = (restartPort p s, done []) := by
      simp only [portRestartRule, withPort_of_some hp]
    rw [hrule] at answer
    refine ⟨fun hh he => answer (by rw [restartPort_quiet hh he]), fun e a x hh ho hx => answer ?_,
      restartPort p s, answer rfl, restartPort_leaves⟩
    rw [restartPort_transit hh ho]
    rw [unspendCredit_eq]
    exact hx

end Sys2Proof.Machine


/-! PROOFS. Requests take their turn, and a wrong argument length is refused (R182, R183). -/

namespace Sys2Proof.Machine

open Sys2Proof

/-! ### What a management command does with its turn -/

/-- The command acts through the turn of its request alone, and answers an argument length that its code does not allow
BAD_REQUEST with detail 1, changing nothing else. -/
def TakesTurn (c : Instr) : Prop :=
  ∃ act : State → State, (∀ s, exec c s = .next ((takeTurn (commandRequest c) s).elim s act)) ∧
    (knownCodes.contains (commandRequest c).code = true →
      (commandRequest c).args.length ∉ allowedLengths (commandRequest c).code →
      ∀ s, act s = leaveQueue (sendReply (commandRequest c) badLength s))

theorem serve_eq_elim (r : Request) (rule : State → State × Answer) (s : State) :
    serve r rule s = (takeTurn r s).elim s (fun s1 => leaveQueue (sendReply r (rule s1).2 (rule s1).1)) := by
  unfold serve
  cases takeTurn r s <;> rfl

/-- A command that serves its request by a rule which refuses every other length takes its turn. -/
theorem takesTurn_of_serve {c : Instr} (rule : State → State × Answer)
    (hexec : ∀ s, exec c s = .next (serve (commandRequest c) rule s))
    (hrule : (commandRequest c).args.length ∉ allowedLengths (commandRequest c).code → ∀ s, rule s = (s, badLength)) :
    TakesTurn c := by
  refine ⟨fun s1 => leaveQueue (sendReply (commandRequest c) (rule s1).2 (rule s1).1), fun s => ?_, fun _ hlen s => ?_⟩
  · rw [hexec, serve_eq_elim]
  · dsimp only
    rw [hrule hlen]

theorem serveForm_eq_serve {r : Request} {other : Nat} (h : r.args.length ≠ other) (rule : State → State × Answer)
    (s : State) : serveForm other r rule s = serve r rule s := if_neg h

/-- The same for one of the two forms of a code. -/
theorem takesTurn_of_form {c : Instr} {other : Nat} (rule : State → State × Answer)
    (hexec : ∀ s, exec c s = .next (serveForm other (commandRequest c) rule s))
    (hform : (commandRequest c).args.length ≠ other)
    (hrule : (commandRequest c).args.length ∉ allowedLengths (commandRequest c).code → ∀ s, rule s = (s, badLength)) :
    TakesTurn c :=
  takesTurn_of_serve rule (fun s => by rw [hexec, serveForm_eq_serve hform]) hrule

/-- A well-formed request of a code with two forms has not the length of the other one. -/
theorem length_ne_of_wellFormed {r : Request} {other : Nat} (h : RequestShape.wellFormed ⟨r, some other⟩ = true) :
    r.args.length ≠ other := by
  simp only [RequestShape.wellFormed, Bool.and_eq_true, decide_eq_true_eq, ne_eq, Option.some.injEq] at h
  exact fun hl => h.2 hl.symm

theorem form_of_wellFormed {c : Instr} {r : Request} {other : Nat} (h : c.wellFormed = true)
    (hc : c.shape = some ⟨r, some other⟩) : r.args.length ≠ other := by
  unfold Instr.wellFormed at h
  rw [hc] at h
  exact length_ne_of_wellFormed (Bool.and_eq_true_iff.mp h).1

/-! ### The rules refuse every length but their own -/

theorem oneStation_badLength {args : List Byte} (h : args.length ∉ [1]) (rule : StationId → State → State × Answer)
    (s : State) : oneStation args rule s = (s, badLength) := by
  unfold oneStation
  split
  · exact absurd (.head _) h
  · rfl

theorem stepWriteRule_badLength {args : List Byte} (h : args.length ∉ [14]) (q : NodeId) (s : State) :
    stepWriteRule q args s = (s, badLength) := by
  unfold stepWriteRule
  split
  next st slot record =>
    have hr : record.length ≠ 12 := by simpa using h
    exact if_pos hr
  · rfl

theorem takesTurn_restart (q : NodeId) (t : Byte) (args : List Byte) : TakesTurn (.restart q t args) := by
  refine ⟨fun s1 => match args with
    | [k] => if k = 0 then restarted false s1 else if k = 1 then restarted true s1
      else leaveQueue (sendReply ⟨0x02, t, q, args⟩ (refuse .badValue 0) s1)
    | _ => leaveQueue (sendReply ⟨0x02, t, q, args⟩ badLength s1), fun s => ?_, fun _ hlen s => ?_⟩
  · simp only [exec, execRestart, commandRequest, Instr.shape]
    cases takeTurn ⟨0x02, t, q, args⟩ s <;> rfl
  · dsimp only
    split
    · exact absurd (.head _) hlen
    · rfl

theorem takesTurn_unknownRequestCode {code : Byte} {q : NodeId} {t : Byte} {args : List Byte}
    (hcode : knownCodes.contains code = false) : TakesTurn (.unknownRequestCode code q t args) :=
  ⟨fun s1 => leaveQueue (sendReply ⟨code, t, q, args⟩ (refuse .badRequest 0) s1),
    fun s => by simp only [exec, execUnknownRequestCode, hcode, serve_eq_elim]; rfl,
    fun hknown => absurd (hcode.symm.trans hknown) Bool.false_ne_true⟩

theorem unknownRequestCode_wellFormed {code : Byte} {q : NodeId} {t : Byte} {args : List Byte}
    (h : (Instr.unknownRequestCode code q t args).wellFormed = true) : knownCodes.contains code = false := by
  have hcode := (Bool.and_eq_true_iff.mp h).2
  exact (Bool.not_eq_true' _).mp hcode

/-- A well-formed management command takes its turn. -/
theorem takesTurn_of_wellFormed {c : Instr} (hwf : c.wellFormed = true) (hshape : c.shape ≠ none) : TakesTurn c := by
  cases c with
  | restart q t a => exact takesTurn_restart q t a
  | unknownRequestCode code q t a => exact takesTurn_unknownRequestCode (unknownRequestCode_wellFormed hwf)
  | stepWrite q t a => exact takesTurn_of_serve (stepWriteRule q a) (fun _ => rfl) fun h => stepWriteRule_badLength h q
  | pause q t a => exact takesTurn_of_serve (oneStation a pauseRule) (fun _ => rfl) fun h => oneStation_badLength h pauseRule
  | resume q t a => exact takesTurn_of_serve (oneStation a resumeRule) (fun _ => rfl) fun h => oneStation_badLength h resumeRule
  | stop q t a => exact takesTurn_of_serve (oneStation a stopRule) (fun _ => rfl) fun h => oneStation_badLength h stopRule
  | skip q t a => exact takesTurn_of_serve (oneStation a skipRule) (fun _ => rfl) fun h => oneStation_badLength h skipRule
  | clearFault q t a =>
    exact takesTurn_of_serve (oneStation a clearFaultRule) (fun _ => rfl) fun h => oneStation_badLength h clearFaultRule
  | tare q t a => exact takesTurn_of_serve (oneStation a tareRule) (fun _ => rfl) fun h => oneStation_badLength h tareRule
  | zero q t a => exact takesTurn_of_serve (oneStation a zeroRule) (fun _ => rfl) fun h => oneStation_badLength h zeroRule
  | identify q t a =>
    exact takesTurn_of_serve (identifyRule a) (fun _ => rfl) fun h s => by
      unfold identifyRule; split
      · exact absurd (.head _) h
      · rfl
  | routeWrite q t a =>
    exact takesTurn_of_serve (routeWriteRule a) (fun _ => rfl) fun h s => by
      unfold routeWriteRule; split
      · exact absurd (.head _) h
      · rfl
  | routeRead q t a =>
    exact takesTurn_of_serve (routeReadRule a) (fun _ => rfl) fun h s => by
      unfold routeReadRule; split
      · exact absurd (.head _) h
      · rfl
  | portStatus q t a =>
    exact takesTurn_of_serve (portStatusRule a) (fun _ => rfl) fun h s => by
      unfold portStatusRule; split
      · exact absurd (.head _) h
      · rfl
  | portRestart q t a =>
    exact takesTurn_of_serve (portRestartRule a) (fun _ => rfl) fun h s => by
      unfold portRestartRule; split
      · exact absurd (.head _) h
      · rfl
  | nodeRead q t a =>
    exact takesTurn_of_serve (nodeReadRule a) (fun _ => rfl) fun h s => by
      unfold nodeReadRule; split
      · exact absurd (.head _) h
      · rfl
  | nodeFlush q t a =>
    exact takesTurn_of_serve (nodeFlushRule a) (fun _ => rfl) fun h s => by
      unfold nodeFlushRule; split
      · exact absurd (.head _) h
      · rfl
  | stationBind q t a =>
    exact takesTurn_of_serve (stationBindRule a) (fun _ => rfl) fun h s => by
      unfold stationBindRule; split
      · exact absurd (.head _) h
      · rfl
  | lock q t a =>
    exact takesTurn_of_serve (lockRule q a) (fun _ => rfl) fun h s => by
      unfold lockRule; split
      · exact absurd (.head _) h
      · rfl
  | unlock q t a =>
    exact takesTurn_of_serve (unlockRule q a) (fun _ => rfl) fun h s => by
      unfold unlockRule; split
      · exact absurd (.head _) h
      · rfl
  | stepRead q t a =>
    exact takesTurn_of_serve (stepReadRule a) (fun _ => rfl) fun h s => by
      unfold stepReadRule; split
      · exact absurd (.head _) h
      · rfl
  | recipeLength q t a =>
    exact takesTurn_of_serve (recipeLengthRule q a) (fun _ => rfl) fun h s => by
      unfold recipeLengthRule; split
      · exact absurd (.head _) h
      · rfl
  | recipeClear q t a =>
    exact takesTurn_of_serve (recipeClearRule q a) (fun _ => rfl) fun h s => by
      unfold recipeClearRule; split
      · exact absurd (.head _) h
      · rfl
  | start q t a =>
    exact takesTurn_of_serve (startRule q a) (fun _ => rfl) fun h s => by
      unfold startRule; split
      · exact absurd (.head _) h
      · rfl
  | confirm q t a =>
    exact takesTurn_of_serve (confirmRule a) (fun _ => rfl) fun h s => by
      unfold confirmRule; split
      · exact absurd (.head _) h
      · rfl
  | statusRead q t a =>
    exact takesTurn_of_serve (statusReadRule a) (fun _ => rfl) fun h s => by
      unfold statusReadRule; split
      · exact absurd (.head _) h
      · rfl
  | noticeEnable q t a =>
    exact takesTurn_of_serve (noticeEnableRule a) (fun _ => rfl) fun h s => by
      unfold noticeEnableRule; split
      · exact absurd (.head _) h
      · rfl
  | noticeClear q t a =>
    exact takesTurn_of_serve (noticeClearRule a) (fun _ => rfl) fun h s => by
      unfold noticeClearRule; split
      · exact absurd (.head _) h
      · rfl
  | noticeRead q t a =>
    exact takesTurn_of_serve (noticeReadRule a) (fun _ => rfl) fun h s => by
      unfold noticeReadRule; split
      · exact absurd (.head _) h
      · rfl
  | countersRead q t a =>
    exact takesTurn_of_serve (countersReadRule a) (fun _ => rfl) fun h s => by
      unfold countersReadRule; split
      · exact absurd (.head _) h
      · rfl
  | adjust q t a =>
    exact takesTurn_of_serve _ (fun _ => rfl) fun h s => by
      split
      · exact absurd (.head _) h
      · rfl
  | calibrate q t a =>
    exact takesTurn_of_serve _ (fun _ => rfl) fun h s => by
      split
      · exact absurd (.head _) h
      · rfl
  | routeDefaultWrite q t a =>
    exact takesTurn_of_form (routeDefaultWriteRule a) (fun _ => rfl) (form_of_wellFormed hwf rfl) fun h s => by
      unfold routeDefaultWriteRule; split
      · exact absurd (.head _) h
      · rfl
  | routeDefaultRead q t a =>
    exact takesTurn_of_form (routeDefaultReadRule a) (fun _ => rfl) (form_of_wellFormed hwf rfl) fun h s => by
      unfold routeDefaultReadRule; split
      · exact absurd (.tail _ (.head _)) h
      · rfl
  | portConfigWrite q t a =>
    exact takesTurn_of_form (portConfigWriteRule a) (fun _ => rfl) (form_of_wellFormed hwf rfl) fun h s => by
      unfold portConfigWriteRule; split
      · exact absurd (.head _) h
      · rfl
  | portConfigRead q t a =>
    exact takesTurn_of_form (portConfigReadRule a) (fun _ => rfl) (form_of_wellFormed hwf rfl) fun h s => by
      unfold portConfigReadRule; split
      · exact absurd (.tail _ (.head _)) h
      · rfl
  | nodeWrite q t a =>
    exact takesTurn_of_form (nodeWriteRule a) (fun _ => rfl) (form_of_wellFormed hwf rfl) fun h s => by
      unfold nodeWriteRule; split
      · exact absurd (.head _) h
      · rfl
  | nodeDelete q t a =>
    exact takesTurn_of_form (nodeDeleteRule a) (fun _ => rfl) (form_of_wellFormed hwf rfl) fun h s => by
      unfold nodeDeleteRule; split
      · exact absurd (.tail _ (.head _)) h
      · rfl
  | stationLimitsWrite q t a =>
    exact takesTurn_of_form (stationLimitsWriteRule a) (fun _ => rfl) (form_of_wellFormed hwf rfl) fun h s => by
      unfold stationLimitsWriteRule; split
      · exact absurd (.head _) h
      · rfl
  | stationLimitsRead q t a =>
    exact takesTurn_of_form (stationLimitsReadRule a) (fun _ => rfl) (form_of_wellFormed hwf rfl) fun h s => by
      unfold stationLimitsReadRule; split
      · exact absurd (.tail _ (.head _)) h
      · rfl
  | weighConfigWrite q t a =>
    exact takesTurn_of_form (weighConfigWriteRule a) (fun _ => rfl) (form_of_wellFormed hwf rfl) fun h s => by
      unfold weighConfigWriteRule; split
      · exact absurd (.head _) h
      · rfl
  | weighConfigRead q t a =>
    exact takesTurn_of_form (weighConfigReadRule a) (fun _ => rfl) (form_of_wellFormed hwf rfl) fun h s => by
      unfold weighConfigReadRule; split
      · exact absurd (.tail _ (.head _)) h
      · rfl
  | heatConfigWrite q t a =>
    exact takesTurn_of_form (heatConfigWriteRule a) (fun _ => rfl) (form_of_wellFormed hwf rfl) fun h s => by
      unfold heatConfigWriteRule; split
      · exact absurd (.head _) h
      · rfl
  | heatConfigRead q t a =>
    exact takesTurn_of_form (heatConfigReadRule a) (fun _ => rfl) (form_of_wellFormed hwf rfl) fun h s => by
      unfold heatConfigReadRule; split
      · exact absurd (.tail _ (.head _)) h
      · rfl
  | budgetSetWrite q t a =>
    exact takesTurn_of_form (budgetSetWriteRule a) (fun _ => rfl) (form_of_wellFormed hwf rfl) fun h s => by
      unfold budgetSetWriteRule; split
      · exact absurd (.head _) h
      · rfl
  | budgetSetRead q t a =>
    exact takesTurn_of_form (budgetSetReadRule a) (fun _ => rfl) (form_of_wellFormed hwf rfl) fun h s => by
      unfold budgetSetReadRule; split
      · exact absurd (.tail _ (.head _)) h
      · rfl
  | reportConfigWrite q t a =>
    exact takesTurn_of_form (reportConfigWriteRule a) (fun _ => rfl) (form_of_wellFormed hwf rfl) fun h s => by
      unfold reportConfigWriteRule; split
      · exact absurd (.head _) h
      · rfl
  | reportConfigRead q t a =>
    exact takesTurn_of_form (reportConfigReadRule a) (fun _ => rfl) (form_of_wellFormed hwf rfl) fun h s => by
      unfold reportConfigReadRule; split
      · exact absurd (.tail _ (.head _)) h
      · rfl
  | _ => exact absurd rfl hshape

/-- Settles O45: a management command acts through the turn of its request alone, and its rule refuses the lengths that
section 11.4 does not give its code. -/
theorem requestTurns : Obligations.RequestTurns := by
  unfold Obligations.RequestTurns
  intro s c hwf hshape
  obtain ⟨act, hexec, hbad⟩ := takesTurn_of_wellFormed hwf hshape
  refine ⟨fun h => ?_, fun hlive hfree hempty => ?_, fun hhead hknown hlen => ?_⟩
  · have hturn : takeTurn (commandRequest c) s = none := by
      rcases h with h | h | ⟨r, hr, hne⟩
      · exact takeTurn_blocked (.inl h)
      · exact takeTurn_blocked (.inr h)
      · obtain ⟨l, hl⟩ := List.head?_eq_some_iff.mp hr
        exact takeTurn_other hl hne
    rw [hexec, hturn, Option.elim_none]
  · have hturn : takeTurn (commandRequest c) s = some { s with requests := [commandRequest c] } := by
      simp [takeTurn, hlive, hfree, hempty]
    have hhead : takeTurn (commandRequest c) { s with requests := [commandRequest c] } =
        some { s with requests := [commandRequest c] } := takeTurn_head ⟨hlive, hfree, rfl⟩
    rw [hexec, hexec, hturn, hhead, Option.elim_some, Option.elim_some]
  · unfold Answers
    rw [hexec, takeTurn_head hhead, Option.elim_some, hbad hknown hlen]

end Sys2Proof.Machine


/-! PROOFS. The notice requests and the reports of the weight (R86, R187 to R190). -/

namespace Sys2Proof.Machine

open Sys2Proof

/-! ### The notice requests (R189) -/

@[simp] theorem putU16_u16 (lo hi : Byte) : putU16 (u16 lo hi) = [lo, hi] := by
  simp only [putU16, byteOf_u16]

theorem toNat_bitsOf (lo hi : Byte) : (bitsOf lo hi).toNat = u16 lo hi := by
  simp only [bitsOf, u16, BitVec.toNat_append]
  rw [← Nat.shiftLeft_add_eq_or_of_lt lo.isLt, Nat.shiftLeft_eq]
  omega

@[simp] theorem putBits_bitsOf (lo hi : Byte) : putBits (bitsOf lo hi) = [lo, hi] := by
  rw [putBits, toNat_bitsOf, putU16_u16]

/-- An enable over nothing that is newly set and enabled. -/
theorem enableNotices_quiet {en : BitVec 16} {s : State} (h : s.notices.bits &&& en &&& ~~~s.notices.enables = 0) :
    enableNotices en s = { s with notices := { s.notices with enables := en } } := by
  simp [enableNotices, h]

/-- A set bit that becomes enabled raises a NOTICE with the set and the gathered bits. -/
theorem enableNotices_raises {en fresh : BitVec 16} {s : State}
    (hfresh : fresh = s.notices.bits &&& en &&& ~~~s.notices.enables) (h : fresh ≠ 0) :
    enableNotices en s = originate .notice 31 (putBits (s.notices.bits &&& en) ++ putBits (s.notices.accumulator ||| fresh))
      { s with notices := ⟨s.notices.bits, en, s.notices.accumulator ||| fresh⟩ } := by
  subst hfresh
  exact if_neg h

/-! ### WEIGHT_REPORT (R86, R190) -/

theorem intervalOk_iff (v : Nat) : intervalOk v = true ↔ v = 0 ∨ 100 ≤ v ∧ v ≤ 2000 := by
  simp [intervalOk]

theorem reportConfigWriteRule_of_station {b lo hi : Byte} {n : StationId} (hb : stationOf b = some n) (s : State) :
    reportConfigWriteRule [b, lo, hi] s = if intervalOk (u16 lo hi) then
      (s.modSt n (fun st => { st with reportInterval := u16 lo hi, reportTimer := reportTimerOf (u16 lo hi) }), done [lo, hi])
      else (s, refuse .badValue 1) := by
  simp only [reportConfigWriteRule, withStation_of_some hb, putU16_u16]

theorem reportedAdded_eq (st : Station) :
    st.reportedAdded = if st.run.state = .running ∧ st.run.phase = some .active
      then st.run.doseBase.map (fun x => st.weigh.net - x) else none := by
  simp only [Station.reportedAdded, Station.added, Station.inPhase, Bool.and_eq_true, beq_iff_eq]

/-- Settles O47: each request by its rule, and the end of the report timer over a bound and an unbound WEIGH role. -/
theorem noticeAndReportRequests : Obligations.NoticeAndReportRequests := by
  unfold Obligations.NoticeAndReportRequests
  intro s q tag b lo hi c
  refine ⟨?enable, ?clear, ?read, ?config, ?interval, ?timer⟩
  case enable =>
    rintro fresh rfl hat hfresh
    have answer {t a} : noticeEnableRule [lo, hi] s = (t, a) → Answers (.noticeEnable q tag [lo, hi]) s a t :=
      answers_of_rule _ hat rfl
    simp only [noticeEnableRule, putBits_bitsOf] at answer
    exact ⟨fun h => answer (congrArg (·, _) (enableNotices_quiet (hfresh.symm.trans h))),
      fun h => answer (congrArg (·, _) (enableNotices_raises hfresh h))⟩
  case clear =>
    rintro rfl hat
    exact answers_of_rule (noticeClearRule [lo, hi]) hat rfl rfl
  case read =>
    rintro rfl hat
    exact answers_of_rule (noticeReadRule []) hat rfl rfl
  case config =>
    rintro rfl hat
    have answer {t a} : reportConfigWriteRule [b, lo, hi] s = (t, a) → Answers (.reportConfigWrite q tag [b, lo, hi]) s a t :=
      answers_of_rule _ hat rfl
    refine ⟨fun hb => answer (by simp only [reportConfigWriteRule, withStation_of_none hb]; rfl), fun n hb => ?_⟩
    rw [reportConfigWriteRule_of_station hb] at answer
    refine ⟨fun h => answer ?_, fun hlow hhigh => answer ?_, fun h hout => answer ?_⟩
    · rw [if_pos ((intervalOk_iff _).mpr (.inl h)), h]
      rfl
    · rw [if_pos ((intervalOk_iff _).mpr (.inr ⟨hlow, hhigh⟩)), reportTimerOf, if_neg (by omega)]
    · rw [if_neg (fun hok => ?_)]
      rcases (intervalOk_iff _).mp hok with h0 | ⟨hlow, hhigh⟩ <;> omega
  case interval =>
    rintro rfl hat
    have answer {t a} : reportConfigReadRule [b] s = (t, a) → Answers (.reportConfigRead q tag [b]) s a t :=
      answers_of_rule _ hat rfl
    exact ⟨fun hb => answer (by simp only [reportConfigReadRule, withStation_of_none hb]; rfl),
      fun n hb => answer (by simp only [reportConfigReadRule, withStation_of_some hb])⟩
  case timer =>
    intro n hlive
    refine ⟨fun h => ?_, fun v hrun hv => ⟨fun hb => ?_, fun added hb hadded => ?_⟩⟩
    · simp [exec, execReportTimerExpiry, whenLive_live hlive, h]
    · have htimer := Option.isSome_iff_ne_none.mpr hrun
      simp only [exec, execReportTimerExpiry, whenLive_live hlive, htimer, hb, hv]
      rfl
    · have htimer := Option.isSome_iff_ne_none.mpr hrun
      have hweigh := Option.isSome_iff_ne_none.mpr hb
      rw [← reportedAdded_eq] at hadded
      simp only [exec, execReportTimerExpiry, whenLive_live hlive, htimer, hweigh, hadded, hv]
      simp only [sendWeightReport, weightReportPayload, st_modSt]
      cases n <;> rfl

end Sys2Proof.Machine


/-! PROOFS. The read requests: IDENTIFY, STATUS_READ with its pages, COUNTERS_READ, and a code the part does not know
(R183, R185, R186, R192, R200). -/

namespace Sys2Proof.Machine

open Sys2Proof

/-! ### A byte of flags -/

/-- Bit `i` of a byte of flags is flag `i` (section 11.2). -/
theorem getLsbD_flagByte {i : Nat} (hi : i < 8) (bits : List Bool) : (flagByte bits).getLsbD i = (bits[i]?).getD false := by
  induction bits generalizing i with
  | nil => simp [flagByte]
  | cons b rest ih =>
    have htoNat : (flagByte (b :: rest)).toNat = (b.toNat + 2 * (flagByte rest).toNat) % 2 ^ 8 := by
      cases b <;> simp [flagByte, BitVec.toNat_add, BitVec.toNat_mul]
    rw [← BitVec.testBit_toNat, htoNat, Nat.testBit_mod_two_pow, decide_eq_true hi, Bool.true_and]
    cases i with
    | zero => cases b <;> simp [Nat.testBit_zero]
    | succ j =>
      have hhalf : (b.toNat + 2 * (flagByte rest).toNat) / 2 = (flagByte rest).toNat := by cases b <;> simp; omega
      rw [Nat.testBit_succ, hhalf, BitVec.testBit_toNat, ih (by omega), List.getElem?_cons_succ]

/-! ### STATUS_READ (R186, R200) -/

/-- A snapshot is read with its number and, where it holds a page, that page. -/
theorem sectionAnswer_of {s : State} {m i : Nat} {x : Snapshot} (hx : s.snapshots[m]? = some x) :
    s.sectionAnswer m i = ⟨.done, x.number, ((x.page.getD [])[i]?).getD []⟩ := by
  simp [State.sectionAnswer, hx]

theorem takeSnapshot_eq {s : State} {m : Nat} {x : Snapshot} (hx : s.snapshots[m]? = some x) :
    takeSnapshot m s = { s with snapshots := s.snapshots.setIfInBounds m ⟨(x.number + 1) % 256, some (s.page m)⟩ } := by
  simp [takeSnapshot, hx]

theorem takeSnapshot_sectionAnswer {s : State} {m : Nat} {x : Snapshot} (hx : s.snapshots[m]? = some x) :
    (takeSnapshot m s).sectionAnswer m 0 = ⟨.done, (x.number + 1) % 256, (s.page m).headD []⟩ := by
  have hm : m < 3 := by
    by_contra h
    rw [Vector.getElem?_eq_none (by omega)] at hx
    exact absurd hx nofun
  have hnew : (takeSnapshot m s).snapshots[m]? = some ⟨(x.number + 1) % 256, some (s.page m)⟩ := by
    rw [takeSnapshot_eq hx]
    simp [hm]
  rw [sectionAnswer_of hnew]
  cases s.page m <;> rfl

theorem statusReadRule_unsnapped {s : State} {a b : Byte} {x : Snapshot} (ha : a.toNat ≤ 2)
    (hb : b.toNat < sections a.toNat) (hx : s.snapshots[a.toNat]? = some x) :
    statusReadRule [a, b] s = if b = 0 then
        ({ s with snapshots := s.snapshots.setIfInBounds a.toNat ⟨(x.number + 1) % 256, some (s.page a.toNat)⟩ },
          ⟨.done, (x.number + 1) % 256, (s.page a.toNat).headD []⟩)
      else if x.page = none then (s, refuse .badValue 2)
      else (s, ⟨.done, x.number, ((x.page.getD [])[b.toNat]?).getD []⟩) := by
  rw [statusReadRule, if_neg (by omega), if_neg (by omega), takeSnapshot_sectionAnswer hx, takeSnapshot_eq hx,
    sectionAnswer_of hx, hx]
  rfl

theorem sections_eq (a : Byte) : sections a.toNat = if a = 0 then 4 else 10 := by
  unfold sections
  congr 1
  rw [← BitVec.toNat_inj]
  rfl

/-! ### The pages (R200) -/

theorem page_length (s : State) (m : Nat) : (s.page m).length = if m = 0 then 4 else 10 := by
  match m with
  | 0 => rfl
  | 1 => rfl
  | _ + 2 => rfl

@[simp] theorem putU16_length (x : Nat) : (putU16 x).length = 2 := rfl

@[simp] theorem putU24_length (x : Nat) : (putU24 x).length = 3 := rfl

@[simp] theorem putU32_length (x : Nat) : (putU32 x).length = 4 := rfl

@[simp] theorem putS16_length (x : Int) : (putS16 x).length = 2 := rfl

@[simp] theorem putS24_length (x : Int) : (putS24 x).length = 3 := rfl

@[simp] theorem putBits_length (x : BitVec 16) : (putBits x).length = 2 := rfl

theorem reportBytes_length (st : Station) : st.reportBytes.length = 12 := by
  unfold Station.reportBytes
  split <;> rfl

theorem stationPage_fits (s : State) (n : StationId) : ∀ x ∈ s.stationPage n, x.length ≤ 12 := by
  simp only [State.stationPage, List.forall_mem_cons]
  refine ⟨?run, ?limit, ?binding, ?weight, ?op, ?heat, ?heater, ?speed, ?lid, (reportBytes_length _).le, nofun⟩
  case run => simp [Station.runBytes]
  case limit => simp [Station.limitBytes]
  case binding => simp [State.bindingBytes, allRoles]
  case weight => simp [Station.weightBytes]
  case op => simp [Station.opBytes]
  case heat => simp [State.heatBytes]
  case heater => simp [State.heaterBytes]
  case speed => simp [Station.speedBytes]
  case lid => simp [Station.lidBytes]

/-- Every section of a page fits a reply. -/
theorem page_fits (s : State) (m : Nat) : ∀ x ∈ s.page m, x.length ≤ 12 := by
  match m with
  | 0 =>
    simp only [State.page, State.partPage, List.forall_mem_cons]
    refine ⟨?_, ?_, ?_, ?_, nofun⟩ <;> simp [State.portBytes]
  | 1 => exact stationPage_fits s .zero
  | _ + 2 => exact stationPage_fits s .one

/-- The first byte of a port's section: health, recovery mode, drop mode and whether a frame of its own is being sent. -/
theorem portBytes_eq {s : State} {p : Port} {sends : Bool}
    (h : sends = true ↔ ∃ e, (s.port p).activity = .contending e ∨ (s.port p).activity = .transmitting e) :
    s.portBytes p = [byteOf (healthCode (s.port p).health + 4 * recoveryCode (s.port p).cfg.recovery +
      (if (s.port p).dropMode then 8 else 0) + (if sends then 16 else 0)), byteOf (s.port p).tx, byteOf (s.port p).rx,
      byteOf (s.held p)] := by
  have hs : PortState.sending (s.port p) = sends := by
    rw [Bool.eq_iff_iff, h]
    unfold PortState.sending PortState.engine
    cases (s.port p).activity <;> simp
  simp only [State.portBytes, PortState.statusByte, hs]

/-- The part page, with its port sections told by what each port holds. -/
theorem partPage_eq {s : State} {port : Port → List Byte} (hport : ∀ p, port p = s.portBytes p) :
    s.page 0 =
      [putBits s.notices.bits ++ putBits s.notices.enables ++ putBits s.notices.accumulator ++
        [byteOf s.requests.length, byteOf (3 - s.repliesHeld), byteOf (48 - (s.held .control + s.held .appliance)),
          byteOf (20 - s.ownHeld)],
       port .control ++ port .appliance,
       putU16 s.arbiter.budget ++ putU16 s.arbiter.available ++ putU16 (s.side .zero).draw ++
        putU16 (s.side .one).draw ++ putU16 (s.side .zero).counted ++ putU16 (s.side .one).counted,
       putU16 (s.side .zero).share ++ putU16 (s.side .one).share ++ putU16 (s.side .zero).grant ++
        putU16 (s.side .one).grant] := by
  rw [hport, hport]
  rfl

theorem isRev_eq (d : Direction) : isRev d = (d == .rev) := by cases d <;> rfl

/-! ### COUNTERS_READ (R192) -/

theorem zeroed_eq {k : Nat} {v w : Vector Nat k} {first count : Nat}
    (h : ∀ i : Fin k, w[i] = if first ≤ i ∧ i < first + count then 0 else v[i]) : zeroed v first count = w := by
  ext i hi
  have hw := h ⟨i, hi⟩
  simp only [Fin.getElem_fin] at hw
  simp [zeroed, hw]

theorem readPortCounters_of {p : Port} {first count : Nat} (hf : first ≤ 16) (hc : count ≠ 0) (hc3 : count ≤ 3)
    (clear : Bool) (s : State) : readPortCounters p first count clear s =
      (if clear then s.modPort p (fun x => { x with counters := zeroed x.counters first count }) else s,
        countersAnswer (taken (s.port p).counters first count)) := by
  rw [readPortCounters, if_neg (by omega), if_neg (by omega)]

theorem readStationCounters_of {n : StationId} {first count : Nat} (hf : first ≤ 4) (hc : count ≠ 0) (hc3 : count ≤ 3)
    (clear : Bool) (s : State) : readStationCounters n first count clear s =
      (if clear then s.modSt n (fun x => { x with counters := zeroed x.counters first count }) else s,
        countersAnswer (taken (s.st n).counters first count)) := by
  rw [readStationCounters, if_neg (by omega), if_neg (by omega)]

theorem toNat_ne_zero_of {k : Byte} (h : k ≠ 0) : k.toNat ≠ 0 := fun h0 => h (BitVec.eq_of_toNat_eq h0)

theorem countersReadRule_port {a b k cl : Byte} {p : Port} (ha : a = 0 ∧ p = .control ∨ a = 1 ∧ p = .appliance) (s : State) :
    countersReadRule [a, b, k, cl] s = readPortCounters p b.toNat k.toNat (cl.getLsbD 0) s := by
  rcases ha with ⟨rfl, rfl⟩ | ⟨rfl, rfl⟩ <;> rfl

theorem countersReadRule_station {a b k cl : Byte} {n : StationId} (ha : a = 2 ∧ n = .zero ∨ a = 3 ∧ n = .one) (s : State) :
    countersReadRule [a, b, k, cl] s = readStationCounters n b.toNat k.toNat (cl.getLsbD 0) s := by
  rcases ha with ⟨rfl, rfl⟩ | ⟨rfl, rfl⟩ <;> rfl

/-- Settles O46: every read request by its rule, and every page section by section. -/
theorem readRequests : Obligations.ReadRequests := by
  unfold Obligations.ReadRequests
  intro s q tag a b k cl c
  refine ⟨?identify, ?unknown, ?status, fun m => ⟨page_length s m, page_fits s m⟩, ?flags, by decide, ?part,
    ?station, ?counters⟩
  case identify =>
    rintro rfl hat
    exact answers_of_rule (identifyRule []) hat rfl rfl
  case unknown =>
    rintro code args rfl hcode hat
    refine answers_of_rule (fun s => (s, refuse .badRequest 0)) hat ?_ rfl
    simp only [exec, execUnknownRequestCode, hcode]
    rfl
  case status =>
    rintro rfl hat
    have answer {t x} : statusReadRule [a, b] s = (t, x) → Answers (.statusRead q tag [a, b]) s x t :=
      answers_of_rule _ hat rfl
    rw [← sections_eq]
    refine ⟨fun ha => answer (if_pos ha), fun ha hb => answer ?_, fun x hb hx => ?_⟩
    · rw [statusReadRule, if_neg (by omega), if_pos hb]
    · have ha : a.toNat ≤ 2 := by
        by_contra h
        rw [Vector.getElem?_eq_none (by omega)] at hx
        exact absurd hx nofun
      rw [statusReadRule_unsnapped ha hb hx] at answer
      exact ⟨fun h => answer (if_pos h), fun h hp => answer (by rw [if_neg h, if_pos hp]),
        fun pg h hp => answer (by rw [if_neg h, hp]; rfl)⟩
  case flags =>
    intro bits i hlen
    by_cases hi : i < 8
    · exact getLsbD_flagByte hi bits
    · rw [BitVec.getLsbD_of_ge _ _ (by omega), List.getElem?_eq_none (by omega)]
      rfl
  case part =>
    intro port hport
    refine partPage_eq fun p => ?_
    have hsends : (s.port p).sending = true ↔
        ∃ e, (s.port p).activity = .contending e ∨ (s.port p).activity = .transmitting e := by
      unfold PortState.sending PortState.engine
      cases (s.port p).activity <;> simp
    rw [hport p _ _ rfl hsends, portBytes_eq hsends]
  case station =>
    rintro n st added rfl rfl
    have hpage : s.page (if n = .zero then 1 else 2) = s.stationPage n := by cases n <;> rfl
    rw [hpage]
    simp only [State.stationPage, Station.speedBytes, isRev_eq]
    rfl
  case counters =>
    rintro rfl hat
    have answer {t x} : countersReadRule [a, b, k, cl] s = (t, x) → Answers (.countersRead q tag [a, b, k, cl]) s x t :=
      answers_of_rule _ hat rfl
    refine ⟨fun ha => answer ?_, fun p ha => ?_, fun n ha => ?_⟩
    · have hne (x : Byte) (hx : x.toNat ≤ 3) : a ≠ x := fun h => absurd (h ▸ ha) (by omega)
      rw [countersReadRule, if_neg (hne 0 (by decide)), if_neg (hne 1 (by decide)), if_neg (hne 2 (by decide)),
        if_neg (hne 3 (by decide))]
    · rw [countersReadRule_port ha] at answer
      refine ⟨fun hb => answer (if_pos hb), fun hb hk => answer ?_, fun vals hb hk hk3 hvals => ?_⟩
      · rw [readPortCounters, if_neg (by omega), if_pos (by rcases hk with rfl | hk; exacts [.inl rfl, .inr hk])]
      · rw [readPortCounters_of hb (toNat_ne_zero_of hk) hk3] at answer
        subst hvals
        refine ⟨fun hcl => answer (by rw [hcl]; rfl), fun hcl v hv => answer ?_⟩
        rw [hcl, if_pos rfl]
        refine congrArg (·, _) (modPort_congr ?_)
        rw [zeroed_eq hv]
    · rw [countersReadRule_station ha] at answer
      refine ⟨fun hb => answer (if_pos hb), fun hb hk => answer ?_, fun vals hb hk hk3 hvals => ?_⟩
      · rw [readStationCounters, if_neg (by omega), if_pos (by rcases hk with rfl | hk; exacts [.inl rfl, .inr hk])]
      · rw [readStationCounters_of hb (toNat_ne_zero_of hk) hk3] at answer
        subst hvals
        refine ⟨fun hcl => answer (by rw [hcl]; rfl), fun hcl v hv => answer ?_⟩
        rw [hcl, if_pos rfl]
        refine congrArg (·, _) (modSt_eq_of ?_)
        rw [zeroed_eq hv]

end Sys2Proof.Machine


/-! PROOFS. The resets (R193, R194). -/

namespace Sys2Proof.Machine

open Sys2Proof

/-! ### The asserted reset pin (R194) -/

theorem serve_inReset {r : Request} {rule : State → State × Answer} {s : State} (h : s.inReset = true) :
    serve r rule s = s := by
  simp [serve, takeTurn_blocked (.inl h)]

theorem serveForm_inReset {other : Nat} {r : Request} {rule : State → State × Answer} {s : State}
    (h : s.inReset = true) : serveForm other r rule s = s := by
  simp [serveForm, serve_inReset h]

/-- In reset no command but the two of the reset pin has an effect. -/
theorem exec_inReset {c : Instr} {s : State} (hs : s.inReset = true) (hpin : c ≠ .resetAsserted)
    (hrise : ∀ x, c ≠ .powerOnReset x) : exec c s = .next s := by
  cases c with
  | resetAsserted => exact absurd rfl hpin
  | powerOnReset x => exact absurd rfl (hrise x)
  | restart q t a => simp only [exec, execRestart, takeTurn_blocked (.inl hs)]
  | unknownRequestCode code q t a => simp only [exec, execUnknownRequestCode, serve_inReset hs, ite_self]
  | routeDefaultWrite | routeDefaultRead | portConfigWrite | portConfigRead | nodeWrite | nodeDelete | stationLimitsWrite
  | stationLimitsRead | weighConfigWrite | weighConfigRead | heatConfigWrite | heatConfigRead | budgetSetWrite
  | budgetSetRead | reportConfigWrite | reportConfigRead => exact congrArg Host.Outcome.next (serveForm_inReset hs)
  | identify | routeWrite | routeRead | portStatus | portRestart | nodeRead | nodeFlush | stationBind | lock | unlock
  | stepWrite | stepRead | recipeLength | recipeClear | start | pause | resume | stop | skip | confirm | adjust
  | clearFault | tare | zero | calibrate | statusRead | noticeEnable | noticeClear | noticeRead
  | countersRead => exact congrArg Host.Outcome.next (serve_inReset hs)
  | _ => exact congrArg Host.Outcome.next (if_pos hs)

/-! ### Power-on reset (R194) and RESTART (R193) -/

theorem resetRoutes_toList (own : NodeId) :
    (resetRoutes own).toList = presetRoutes own ++ List.replicate 16 ({} : RouteEntry) := by
  simp [resetRoutes, presetRoutes, Vector.toList_ofFn, List.ofFn_succ]

theorem powerOn_entryAt (own : NodeId) (i : Nat) : (State.powerOn own).entryAt i = none := by
  rcases lt_or_ge i 16 with h | h
  · rw [entryAt_of_lt h]
    exact Vector.getElem_replicate h
  · exact entryAt_of_le h

theorem keptState_entryAt (s : State) (i : Nat) : (keptState s).entryAt i = keptEntry (s.entryAt i) := by
  rcases lt_or_ge i 16 with h | h
  · rw [entryAt_of_lt h, entryAt_of_lt h]
    exact Vector.getElem_map keptEntry h
  · rw [entryAt_of_le h, entryAt_of_le h]
    rfl

theorem and_one_cases (x : BitVec 16) : x &&& 1 = 0 ∨ x &&& 1 = 1 := by
  have hmod : (x &&& 1).toNat = x.toNat % 2 := by
    rw [BitVec.toNat_and]
    exact Nat.and_one_is_mod _
  rcases Nat.mod_two_eq_zero_or_one x.toNat with h | h
  · exact .inl (BitVec.eq_of_toNat_eq (hmod.trans h))
  · exact .inr (BitVec.eq_of_toNat_eq (hmod.trans h))

/-- RESTARTED is set on a part that keeps its tables, and raises its NOTICE where it is enabled. -/
theorem restarted_kept (s : State) : restarted true s = { keptState s with
    notices := ⟨1, s.notices.enables, s.notices.enables &&& 1⟩
    control := { keptPort s.control with
      control := if s.notices.enables &&& 1 = 0 then []
        else [⟨ownFrame s.ownNode .notice 31 [1, 0, 1, 0], .own .notice, .control⟩] } } := by
  have hclear : (keptState s).notices.bits &&& noticeMask .restarted = 0 := BitVec.zero_and
  have hbits : (keptState s).notices.bits ||| noticeMask .restarted = 1 := BitVec.zero_or
  have hacc : (keptState s).notices.accumulator ||| noticeMask .restarted = 1 := BitVec.zero_or
  change setNotice .restarted (keptState s) = _
  rw [setNotice, if_neg (not_not.mpr hclear), hbits, hacc]
  rcases and_one_cases s.notices.enables with h | h
  · have hoff : ¬ (keptState s).notices.enables &&& noticeMask .restarted ≠ 0 := not_not.mpr h
    rw [if_neg hoff, if_pos h, h]
    rfl
  · have hne : s.notices.enables &&& 1 ≠ 0 := fun h0 => absurd (h0.symm.trans h) (by decide)
    have hon : (keptState s).notices.enables &&& noticeMask .restarted ≠ 0 := hne
    have hraised : (1 : BitVec 16) &&& (keptState s).notices.enables = 1 := BitVec.and_comm .. |>.trans h
    rw [if_pos hon, if_neg hne, h, originateNotice]
    dsimp only
    rw [hraised]
    rfl

/-- Settles O48: the power-on values field by field, the idle part under an asserted pin, and the three values of keep. -/
theorem resetAndRestart : Obligations.ResetAndRestart := by
  unfold Obligations.ResetAndRestart
  intro s straps q tag k
  refine ⟨?rise, ?asserted, fun hat => ?restart⟩
  case rise =>
    refine ⟨_, rfl, rfl, rfl, rfl, fun n => by cases n <;> rfl, rfl, fun i => powerOn_entryAt (ownOf straps) i, rfl,
      resetRoutes_toList _, rfl, rfl, rfl, rfl, rfl, rfl⟩
  case asserted => exact ⟨_, rfl, rfl, rfl, fun c => exec_inReset rfl⟩
  case restart =>
    have hexec : exec (.restart q tag [k]) s = .next (if k = 0 then restarted false s else if k = 1 then restarted true s
        else leaveQueue (sendReply ⟨0x02, tag, q, [k]⟩ (refuse .badValue 0) s)) := by
      have hturn : takeTurn ⟨0x02, tag, q, [k]⟩ s = some s := takeTurn_head hat
      simp only [exec, execRestart, hturn]
    refine ⟨fun h => by rw [hexec, if_pos h]; rfl, fun h => ?_, fun h => ⟨restarted true s, ?_, ?_⟩⟩
    · have hne (x : Byte) (hx : x.toNat ≤ 1) : k ≠ x := fun hk => absurd (hk ▸ h) (by omega)
      unfold Answers
      rw [hexec, if_neg (hne 0 (by decide)), if_neg (hne 1 (by decide))]
      rfl
    · subst h
      exact hexec
    · rw [restarted_kept]
      refine ⟨rfl, rfl, rfl, rfl, rfl, rfl, rfl, rfl, rfl, rfl, fun n => by cases n <;> rfl, fun i => ?_,
        rfl, rfl, rfl, rfl, rfl, rfl⟩
      have hentry : State.entryAt _ i = keptEntry (s.entryAt i) := keptState_entryAt s i
      refine ⟨fun e he ho => ?_, fun e he ho => ?_, fun he => ?_⟩
      · exact hentry.trans (by rw [he]; exact if_pos ho)
      · exact hentry.trans (by rw [he]; exact if_neg (by rw [ho]; decide))
      · exact hentry.trans (by rw [he]; rfl)

end Sys2Proof.Machine


/-! PROOFS. What leaves the unlock interlock alone (R129): the updates that move no blade, ask for no unlock and send none. -/

namespace Sys2Proof.Machine

open Sys2Proof

/-! ### The unlocks that a port holds -/

/-- A port holds this LID_SET UNLOCK for the lid of station `w`. -/
def PortState.unlocks (q : PortState) (w : StationId) (f : Frame) : Prop :=
  f.payload = [1] ∧ ∃ e ∈ q.entries, e.origin = .own (.lidSet w) ∧ e.frame = f

theorem PortState.unlocks_of_entries {q r : PortState} (h : ∀ e ∈ r.entries, e ∈ q.entries) {w : StationId} {f : Frame}
    (hu : r.unlocks w f) : q.unlocks w f := by
  obtain ⟨hpay, e, he, ho, hf⟩ := hu
  exact ⟨hpay, e, h e he, ho, hf⟩

/-- Nothing is held at `t` that moves the interlock of a station otherwise than at `s`: each blade is as it was, each unlock that
is pending or held was so before, and the LID node and the isolation of the appliance port are the same. -/
structure Calm (s t : State) : Prop where
  commanded : ∀ n, (t.st n).drive.commanded = (s.st n).drive.commanded
  report : ∀ n, (t.st n).drive.report = (s.st n).drive.report
  elapsed : ∀ n, (t.st n).drive.spinDownElapsed = (s.st n).drive.spinDownElapsed
  pending : ∀ n, (t.st n).drive.pendingUnlock = true → (s.st n).drive.pendingUnlock = true ∧
    ((t.st n).run.state = (s.st n).run.state ∨ (t.st n).run.state ≠ .running ∧ (t.st n).run.state ≠ .paused)
  lid : ∀ n, (t.st n).binding.lid = (s.st n).binding.lid
  unlocks : ∀ w f, t.appliance.unlocks w f → s.appliance.unlocks w f
  health : t.appliance.health = .isolated ↔ s.appliance.health = .isolated

section
variable {s t u : State}

theorem Calm.refl (s : State) : Calm s s :=
  ⟨fun _ => rfl, fun _ => rfl, fun _ => rfl, fun _ h => ⟨h, .inl rfl⟩, fun _ => rfl, fun _ _ => id, Iff.rfl⟩

theorem Calm.trans (h : Calm s t) (g : Calm t u) : Calm s u where
  commanded n := (g.commanded n).trans (h.commanded n)
  report n := (g.report n).trans (h.report n)
  elapsed n := (g.elapsed n).trans (h.elapsed n)
  pending n hp := by
    obtain ⟨ht, hu⟩ := g.pending n hp
    obtain ⟨hs, hst⟩ := h.pending n ht
    refine ⟨hs, ?_⟩
    obtain hu | hu := hu
    · rwa [hu]
    · exact .inr hu
  lid n := (g.lid n).trans (h.lid n)
  unlocks w f hu := h.unlocks w f (g.unlocks w f hu)
  health := g.health.trans h.health

theorem Calm.bladeStill (h : Calm s t) (n : StationId) : BladeStill t n ↔ BladeStill s n := by
  unfold BladeStill
  rw [h.commanded, h.report, h.elapsed]

/-! ### The small updates -/

/-- A change outside the stations and the appliance port. -/
theorem calm_aside (hst : ∀ n, t.st n = s.st n) (ha : t.appliance = s.appliance) : Calm s t where
  commanded n := by rw [hst]
  report n := by rw [hst]
  elapsed n := by rw [hst]
  pending n h := by rw [hst] at h ⊢; exact ⟨h, .inl rfl⟩
  lid n := by rw [hst]
  unlocks w f h := by rwa [ha] at h
  health := by rw [ha]

/-- A station whose drive context keeps its blade, whose LID node stays, and that stays in its state or comes to rest. -/
theorem calm_modSt {n : StationId} {f : Station → Station}
    (hc : (f (s.st n)).drive.commanded = (s.st n).drive.commanded) (hr : (f (s.st n)).drive.report = (s.st n).drive.report)
    (he : (f (s.st n)).drive.spinDownElapsed = (s.st n).drive.spinDownElapsed)
    (hp : (f (s.st n)).drive.pendingUnlock = true → (s.st n).drive.pendingUnlock = true ∧
      ((f (s.st n)).run.state = (s.st n).run.state ∨ (f (s.st n)).run.state ≠ .running ∧ (f (s.st n)).run.state ≠ .paused))
    (hl : (f (s.st n)).binding.lid = (s.st n).binding.lid) : Calm s (s.modSt n f) := by
  have hother (m : StationId) (hm : m ≠ n) : (s.modSt n f).st m = s.st m := st_modSt_ne hm
  refine ⟨fun m => ?_, fun m => ?_, fun m => ?_, fun m h => ?_, fun m => ?_, fun w g h => by simpa using h, by simp⟩ <;>
    by_cases hm : m = n
  · subst hm; rw [st_modSt, hc]
  · rw [hother m hm]
  · subst hm; rw [st_modSt, hr]
  · rw [hother m hm]
  · subst hm; rw [st_modSt, he]
  · rw [hother m hm]
  · subst hm; rw [st_modSt] at h ⊢; exact hp h
  · rw [hother m hm] at h ⊢; exact ⟨h, .inl rfl⟩
  · subst hm; rw [st_modSt, hl]
  · rw [hother m hm]

/-- A change of a station outside its drive context, its binding and its state. -/
theorem calm_station (n : StationId) (f : Station → Station) (hd : (f (s.st n)).drive = (s.st n).drive)
    (hb : (f (s.st n)).binding = (s.st n).binding) (hr : (f (s.st n)).run.state = (s.st n).run.state) :
    Calm s (s.modSt n f) :=
  calm_modSt (by rw [hd]) (by rw [hd]) (by rw [hd]) (fun h => ⟨by rwa [hd] at h, .inl hr⟩) (by rw [hb])

theorem calm_modHeat (n : StationId) (f : HeatContext → HeatContext) : Calm s (s.modHeat n f) := calm_station n _ rfl rfl rfl

theorem calm_modWeigh (n : StationId) (f : WeighContext → WeighContext) : Calm s (s.modWeigh n f) := calm_station n _ rfl rfl rfl

theorem calm_countStation (n : StationId) (c : StationCounter) : Calm s (countStation n c s) := calm_station n _ rfl rfl rfl

theorem calm_modRun (n : StationId) {f : RunContext → RunContext} (h : (f (s.st n).run).state = (s.st n).run.state) :
    Calm s (s.modRun n f) := calm_station n _ rfl rfl h

/-- A station that leaves its run, or comes to rest otherwise. -/
theorem calm_rest (n : StationId) {f : RunContext → RunContext} (h : (f (s.st n).run).state ≠ .running)
    (h' : (f (s.st n).run).state ≠ .paused) : Calm s (s.modRun n f) :=
  calm_modSt rfl rfl rfl (fun hp => ⟨hp, .inr ⟨h, h'⟩⟩) rfl

/-- A station without a pending unlock may change its state. -/
theorem calm_modRun_settled (n : StationId) (f : RunContext → RunContext) (hp : (s.st n).drive.pendingUnlock = false) :
    Calm s (s.modRun n f) :=
  calm_modSt rfl rfl rfl (fun h => absurd (hp.symm.trans h) Bool.false_ne_true) rfl

/-- A change of the drive context that keeps what R129 reads of it. -/
theorem calm_modDrive (n : StationId) {f : DriveContext → DriveContext}
    (hc : (f (s.st n).drive).commanded = (s.st n).drive.commanded) (hr : (f (s.st n).drive).report = (s.st n).drive.report)
    (he : (f (s.st n).drive).spinDownElapsed = (s.st n).drive.spinDownElapsed)
    (hp : (f (s.st n).drive).pendingUnlock = true → (s.st n).drive.pendingUnlock = true) : Calm s (s.modDrive n f) :=
  calm_modSt hc hr he (fun h => ⟨hp h, .inl rfl⟩) rfl

theorem calm_modPort (p : Port) {f : PortState → PortState}
    (hu : ∀ w g, (f (s.port p)).unlocks w g → (s.port p).unlocks w g)
    (hh : (f (s.port p)).health = .isolated ↔ (s.port p).health = .isolated) : Calm s (s.modPort p f) := by
  cases p with
  | control => exact calm_aside (fun n => by cases n <;> rfl) rfl
  | appliance =>
    exact ⟨fun n => by cases n <;> rfl, fun n => by cases n <;> rfl, fun n => by cases n <;> rfl,
      fun n h => ⟨by cases n <;> exact h, .inl (by cases n <;> rfl)⟩, fun n => by cases n <;> rfl, hu, hh⟩

/-- A port that holds no frame beside those it held. -/
theorem calm_modPort_entries (p : Port) {f : PortState → PortState} (he : ∀ e ∈ (f (s.port p)).entries, e ∈ (s.port p).entries)
    (hh : (f (s.port p)).health = .isolated ↔ (s.port p).health = .isolated) : Calm s (s.modPort p f) :=
  calm_modPort p (fun _ _ => PortState.unlocks_of_entries he) hh

theorem calm_countPort (p : Port) (c : PortCounter) : Calm s (countPort p c s) := calm_modPort_entries p (fun _ => id) Iff.rfl

theorem calm_updateDropMode (p : Port) : Calm s (updateDropMode p s) := calm_modPort_entries p (fun _ => id) Iff.rfl

theorem calm_updateDropModes : Calm s (updateDropModes s) := (calm_updateDropMode _).trans (calm_updateDropMode _)

/-! ### Originations -/

/-- A frame in a queue that was changed stands there now, or stood in the port before. -/
theorem mem_entries_modQueue {q : PortState} {c : QClass} {f : List Queued → List Queued} {e : Queued}
    (h : e ∈ (q.modQueue c f).entries) : e ∈ f (q.queue c) ∨ e ∈ q.entries := by
  obtain ⟨d, hd⟩ | hd := mem_entries h
  · by_cases hc : d = c
    · subst hc
      rw [modQueue_queue] at hd
      exact .inl hd
    · rw [modQueue_queue_ne hc] at hd
      exact .inr (mem_entries_of_queue hd)
  · rw [modQueue_engine] at hd
    exact .inr (List.mem_append_right _ hd)

/-- An origination that is no unlock. -/
theorem calm_originate {k : OwnKind} {d : NodeId} {pl : List Byte} (h : ∀ w, k = .lidSet w → pl ≠ [1]) :
    Calm s (originate k d pl s) := by
  unfold originate
  split
  · exact calm_countPort _ _
  · refine calm_modPort _ (fun w g hu => ?_) (by rw [modQueue_health])
    obtain ⟨hpay, e, he, ho, hf⟩ := hu
    obtain hq | hq := mem_entries_modQueue he
    · obtain hq | ⟨hk, hown⟩ := mem_of_joinQueue hq
      · exact ⟨hpay, e, mem_entries_of_queue hq, ho, hf⟩
      · have hkind : k = .lidSet w := by rw [hk] at ho; exact FrameOrigin.own.inj ho
        rw [← hf, hown] at hpay
        exact absurd hpay (h w hkind)
    · exact ⟨hpay, e, hq, ho, hf⟩

theorem calm_setNotice (b : NoticeBit) : Calm s (setNotice b s) := by
  have hnotices (x : Notices) : Calm s { s with notices := x } := calm_aside (fun n => by cases n <;> rfl) rfl
  unfold setNotice originateNotice
  (repeat' split)
  · exact .refl s
  · exact (hnotices _).trans (calm_originate nofun)
  · exact hnotices _

theorem calm_originateNotice : Calm s (originateNotice s) := calm_originate nofun

theorem calm_originateStepReport (n : StationId) (r : StepReport) : Calm s (originateStepReport n r s) := by
  unfold originateStepReport
  split
  · exact calm_countStation _ _
  · exact calm_originate nofun

theorem calm_sendSpeedSet (n : StationId) : Calm s (sendSpeedSet n s) := by
  unfold sendSpeedSet
  split
  · exact .refl s
  · exact calm_originate nofun

/-- LOCK is no unlock (R127). -/
theorem calm_sendLock (n : StationId) : Calm s (sendLidSet n .lock s) := by
  unfold sendLidSet
  split
  · exact .refl s
  · exact calm_originate fun _ _ => by decide

theorem calm_lockLid (n : StationId) : Calm s (lockLid n s) := by
  unfold lockLid
  split
  · exact .refl s
  · exact (calm_modDrive n rfl rfl rfl fun h => absurd h Bool.false_ne_true).trans (calm_sendLock n)

/-! ### The arbiter and the heat regulator -/

theorem calm_arbiter : ArbiterKeeps (Calm s) where
  arbiter v a h := h.trans (calm_aside (fun n => by cases n <;> rfl) rfl)
  demand v n d h := h.trans (calm_modHeat n _)
  sent v n d p _ h := h.trans (calm_originate nofun)

theorem calm_recomputeArbiter : Calm s (recomputeArbiter s) := calm_arbiter.recompute (.refl s)

theorem calm_followDemand (n : StationId) : Calm s (followDemand n s) := calm_arbiter.followDemand (.refl s)

theorem calm_followManualHeat (n : StationId) : Calm s (followManualHeat n s) := calm_arbiter.followManualHeat (.refl s)

theorem calm_modSide (n : StationId) (f : ArbiterSide → ArbiterSide) : Calm s (s.modSide n f) := calm_arbiter.side (.refl s)

theorem calm_sendHeatSet (n : StationId) : Calm s (sendHeatSet n s) := by
  unfold sendHeatSet
  split
  · exact .refl s
  · exact (calm_modSide _ _).trans (calm_originate nofun)

theorem calm_setDemand (n : StationId) (d : Nat) : Calm s (setDemand n d s) := by
  unfold setDemand
  split
  · exact .refl s
  · exact (calm_modHeat n _).trans (calm_followDemand n)

theorem calm_setDraw (n : StationId) (w : Nat) : Calm s (setDraw n w s) := by
  unfold setDraw
  split
  · exact .refl s
  · exact (calm_modSide n _).trans calm_recomputeArbiter

theorem calm_retestReached (n : StationId) : Calm s (retestReached n s) := calm_modHeat n _

theorem calm_adoptTarget (n : StationId) (rule : Adoption) (b : Bool) : Calm s (adoptTarget n rule b s) := by
  unfold adoptTarget
  split
  · exact .refl s
  · dsimp only
    have hadopted (f : HeatContext → HeatContext) : Calm s (retestReached n (s.modHeat n f)) :=
      (calm_modHeat n f).trans (calm_retestReached n)
    split
    · exact hadopted _
    · exact (hadopted _).trans (calm_setDemand _ _)

theorem calm_dropManualHeat (n : StationId) : Calm s (dropManualHeat n s) :=
  (calm_modDrive n rfl rfl rfl id).trans (calm_followManualHeat n)

theorem calm_thermoDemand (n : StationId) (t : Int) (grant demand : Nat) : Calm s (thermoDemand n t grant demand s) := by
  unfold thermoDemand
  dsimp only
  (repeat' split)
  · exact calm_setDemand _ _
  · exact (calm_modHeat n _).trans (calm_setDemand _ _)
  · exact calm_setDemand _ _
  · exact (calm_modHeat n _).trans (calm_setDemand _ _)

/-! ### The step engine and the weigh unit -/

theorem calm_endStep (n : StationId) (o : StepOutcome) : Calm s (endStep n o s) :=
  ((calm_setNotice _).trans (calm_originateStepReport n _)).trans (calm_modRun n rfl)

theorem calm_furtherFault (n : StationId) : Calm s (furtherFault n s) := (calm_modRun n rfl).trans (calm_setNotice _)

theorem calm_endOp (n : StationId) (o : OpOutcome) : Calm s (endOp n o s) := (calm_modWeigh n _).trans (calm_setNotice _)

theorem calm_changeTare (n : StationId) (t : Int) : Calm s (changeTare n t s) := by
  unfold changeTare
  exact (calm_modRun n rfl).trans (calm_modWeigh n _)

theorem calm_advanceOp (n : StationId) (x : WeighSample) : Calm s (advanceOp n x s) := by
  have hsums (f : WeighContext → WeighContext) : Calm s (s.modWeigh n f) := calm_modWeigh n f
  unfold advanceOp
  dsimp only
  split
  · exact .refl s
  · split
    · exact (calm_changeTare n _).trans (calm_endOp n _)
    · exact .refl s
  · split
    · exact (hsums _).trans ((calm_station n _ rfl rfl rfl).trans (calm_endOp n _))
    · exact hsums _
  · split
    · unfold completeCalibrate
      dsimp only
      split
      · exact (hsums _).trans (calm_endOp n _)
      · exact (hsums _).trans ((calm_station n _ rfl rfl rfl).trans (calm_endOp n _))
    · exact hsums _

end

end Sys2Proof.Machine


/-! PROOFS. The unlock interlock over one station's work (R128, R129): when a pending unlock may be sent, when it must wait, and
which operations leave it waiting as R129 has it. -/

namespace Sys2Proof.Machine

open Sys2Proof

/-! ### The stages of an operation on station `n`, seen from the state `s` it began in -/

/-- A pending unlock belongs to no run (R128). -/
def State.offRun (t : State) (n : StationId) : Prop :=
  (t.st n).drive.pendingUnlock = true → (t.st n).run.state ≠ .running ∧ (t.st n).run.state ≠ .paused

/-- A pending unlock waits for a still blade, a LID node or the end of an isolation (R129). -/
def State.waitsRightly (t : State) (n : StationId) : Prop :=
  (t.st n).drive.pendingUnlock = true →
    ¬ BladeStill t n ∨ (t.st n).binding.lid = none ∨ t.appliance.health = .isolated

/-- No unlock has been sent since `s`. -/
def Quiet (s t : State) : Prop := ∀ w f, t.appliance.unlocks w f → s.appliance.unlocks w f

/-- Nothing is pending for the lid, and no unlock has been sent. -/
structure Muted (s : State) (n : StationId) (t : State) : Prop where
  idle : (t.st n).drive.pendingUnlock = false
  quiet : Quiet s t

/-- No unlock has been sent, and a pending one belongs to no run. -/
structure Unsaid (s : State) (n : StationId) (t : State) : Prop where
  offRun : t.offRun n
  quiet : Quiet s t

/-- An unlock that was sent went to the lid of station `n` over a blade that is still now. -/
structure Said (s : State) (n : StationId) (t : State) : Prop where
  offRun : t.offRun n
  sent : ∀ w f, t.appliance.unlocks w f → s.appliance.unlocks w f ∨ w = n ∧ BladeStill t n

/-- The same, and a pending unlock waits rightly: the interlock has been tested. -/
structure Tested (s : State) (n : StationId) (t : State) : Prop extends Said s n t where
  waits : t.waitsRightly n

section
variable {s t u : State} {n : StationId}

theorem offRun_calm (h : t.offRun n) (c : Calm t u) : u.offRun n := by
  intro hp
  obtain ⟨ht, hs⟩ := c.pending n hp
  obtain hs | hs := hs
  · rw [hs]; exact h ht
  · exact hs

theorem Quiet.calm (h : Quiet s t) (c : Calm t u) : Quiet s u := fun w f hu => h w f (c.unlocks w f hu)

theorem Muted.calm (h : Muted s n t) (c : Calm t u) : Muted s n u := by
  refine ⟨?_, h.quiet.calm c⟩
  by_contra hp
  exact absurd (h.idle.symm.trans (c.pending n (by simpa using hp)).1) Bool.false_ne_true

theorem Unsaid.calm (h : Unsaid s n t) (c : Calm t u) : Unsaid s n u := ⟨offRun_calm h.offRun c, h.quiet.calm c⟩

theorem Said.calm (h : Said s n t) (c : Calm t u) : Said s n u := by
  refine ⟨offRun_calm h.offRun c, fun w f hu => ?_⟩
  rw [c.bladeStill]
  exact h.sent w f (c.unlocks w f hu)

theorem Tested.calm (h : Tested s n t) (c : Calm t u) : Tested s n u := by
  refine ⟨h.toSaid.calm c, fun hp => ?_⟩
  rw [c.bladeStill, c.lid, c.health]
  exact h.waits (c.pending n hp).1

theorem Muted.unsaid (h : Muted s n t) : Unsaid s n t :=
  ⟨fun hp => absurd (h.idle.symm.trans hp) Bool.false_ne_true, h.quiet⟩

theorem Unsaid.said (h : Unsaid s n t) : Said s n t := ⟨h.offRun, fun w f hu => .inl (h.quiet w f hu)⟩

theorem Muted.tested (h : Muted s n t) : Tested s n t :=
  ⟨h.unsaid.said, fun hp => absurd (h.idle.symm.trans hp) Bool.false_ne_true⟩

/-- A station in its run has nothing pending. -/
theorem Unsaid.muted (h : Unsaid s n t) (hr : (t.st n).run.state = .running ∨ (t.st n).run.state = .paused) : Muted s n t := by
  refine ⟨?_, h.quiet⟩
  by_contra hp
  obtain ⟨h1, h2⟩ := h.offRun (by simpa using hp)
  exact hr.elim h1 h2

theorem Unsaid.begin (h : s.offRun n) : Unsaid s n s := ⟨h, fun _ _ => id⟩

/-! ### The interlock (R129) -/

theorem bladeStill_sendLidSet (c : LidCmd) : BladeStill (sendLidSet n c s) n ↔ BladeStill s n := by
  refine bladeStill_of ?_
  unfold sendLidSet
  split <;> simp

/-- An origination keeps the unlocks of every other station. -/
theorem unlocks_sendLidSet {c : LidCmd} {w : StationId} {f : Frame} (h : (sendLidSet n c s).appliance.unlocks w f) :
    s.appliance.unlocks w f ∨ w = n := by
  by_cases hw : w = n
  · exact .inr hw
  · obtain ⟨hpay, e, he, ho, hf⟩ := h
    left
    unfold sendLidSet at he
    split at he
    · exact ⟨hpay, e, he, ho, hf⟩
    · unfold originate at he
      split at he
      · exact ⟨hpay, e, he, ho, hf⟩
      · obtain hq | hq := mem_entries_modQueue he
        · obtain hq | ⟨hk, -⟩ := mem_of_joinQueue hq
          · exact ⟨hpay, e, mem_entries_of_queue hq, ho, hf⟩
          · rw [hk] at ho
            exact absurd (by simpa using ho.symm) hw
        · exact ⟨hpay, e, hq, ho, hf⟩

/-- A test of the interlock serves a pending unlock over a still blade, and leaves one that must wait. -/
theorem tested_testUnlock (h : Said s n t) : Tested s n (testUnlock n t) := by
  by_cases hc : (t.st n).drive.pendingUnlock && t.bladeStill n && (t.st n).binding.lid.isSome && !t.applianceIsolated
  · have hstill : BladeStill t n := by
      simp only [Bool.and_eq_true, bladeStill_iff] at hc
      exact hc.1.1.2
    rw [testUnlock, if_pos hc]
    have hcleared : Calm t (t.modDrive n (fun d => { d with lidCommand := some .unlock, pendingUnlock := false })) :=
      calm_modDrive n rfl rfl rfl fun h => absurd h Bool.false_ne_true
    have hoff : ((sendLidSet n .unlock (t.modDrive n (fun d => { d with lidCommand := some .unlock, pendingUnlock := false }))).st
        n).drive.pendingUnlock = false := by
      unfold sendLidSet
      split <;> simp
    refine ⟨⟨fun hp => absurd (hoff.symm.trans hp) Bool.false_ne_true, fun w f hu => ?_⟩,
      fun hp => absurd (hoff.symm.trans hp) Bool.false_ne_true⟩
    rw [bladeStill_sendLidSet, hcleared.bladeStill]
    obtain hu | rfl := unlocks_sendLidSet hu
    · exact h.sent w f (hcleared.unlocks w f hu)
    · exact .inr ⟨rfl, hstill⟩
  · rw [testUnlock, if_neg hc]
    refine ⟨h, fun hp => ?_⟩
    by_contra hno
    rw [not_or, not_or, not_not] at hno
    obtain ⟨hstill, hlid, hhealth⟩ := hno
    refine hc ?_
    simp [hp, (bladeStill_iff t n).mpr hstill, Option.isSome_iff_ne_none, hlid, State.applianceIsolated, hhealth]

theorem Muted.testUnlock (h : Muted s n t) : Muted s n (testUnlock n t) := by
  rwa [testUnlock_waits (.inl h.idle)]

/-- Outside a run the unlock may be asked for (R128). -/
theorem tested_askUnlock (h : Said s n t) (h1 : (t.st n).run.state ≠ .running) (h2 : (t.st n).run.state ≠ .paused) :
    Tested s n (askUnlock n t) := by
  refine tested_testUnlock ⟨fun _ => by simpa using ⟨h1, h2⟩, fun w f hu => ?_⟩
  have hstill : BladeStill (t.modDrive n (fun d => { d with pendingUnlock := true })) n ↔ BladeStill t n := by
    simp [BladeStill]
  rw [hstill]
  exact h.sent w f (by simpa using hu)

/-! ### The recomputed speed (R116, R129) -/

/-- The state in which a recomputed speed tests the interlock: the speed stands and is sent (R116 to R118). -/
def commandedState (n : StationId) (t : State) : State :=
  let new := composeSpeed (t.requestOf n) (t.st n).drive
  if new.commanded ≠ (t.st n).drive.commanded ∨ new.commandedDir ≠ (t.st n).drive.commandedDir
    then sendSpeedSet n (composedState n t) else composedState n t

theorem commandedState_drive (n : StationId) (t : State) :
    ((commandedState n t).st n).drive = composeSpeed (t.requestOf n) (t.st n).drive := by
  simp only [commandedState]
  split <;> simp [composedState_drive]

theorem commandedState_run (n : StationId) (t : State) : ((commandedState n t).st n).run = (t.st n).run := by
  have hcomposed : ((composedState n t).st n).run = (t.st n).run := by
    simp only [composedState]
    split <;> simp
  simp only [commandedState]
  split <;> simp [hcomposed]

theorem commandedState_quiet (n : StationId) (t : State) : Quiet t (commandedState n t) := by
  have hcomposed : Quiet t (composedState n t) := by
    intro w f
    simp only [composedState]
    split <;> simp [countStation]
  unfold commandedState
  dsimp only
  split
  · exact hcomposed.calm (calm_sendSpeedSet n)
  · exact hcomposed

theorem recomputeDrive_commanded (n : StationId) (t : State) : recomputeDrive n t =
    if ((commandedState n t).st n).drive.commanded = 0 then testUnlock n (commandedState n t) else commandedState n t := by
  rw [commandedState_drive]
  exact recomputeDrive_eq n t

theorem commandedState_pending (n : StationId) (t : State) :
    ((commandedState n t).st n).drive.pendingUnlock = (t.st n).drive.pendingUnlock := by
  rw [commandedState_drive]
  rfl

theorem offRun_commandedState (h : t.offRun n) : (commandedState n t).offRun n := by
  unfold State.offRun
  rw [commandedState_pending, commandedState_run]
  exact h

/-- A recomputed speed sends a pending unlock only over the blade as it leaves it, or it leaves the blade commanded. -/
theorem tested_recomputeDrive (h : Unsaid s n t) : Tested s n (recomputeDrive n t) := by
  have hsaid : Said s n (commandedState n t) :=
    ⟨offRun_commandedState h.offRun, fun w f hu => .inl (h.quiet w f (commandedState_quiet n t w f hu))⟩
  rw [recomputeDrive_commanded]
  split
  · exact tested_testUnlock hsaid
  · next hc => exact ⟨hsaid, fun _ => .inl fun hstill => hc hstill.1⟩

/-- Where nothing is asked for, the blade stays as still as it was. -/
theorem tested_recomputeDrive_rest (h : Said s n t) (hreq : (t.requestOf n).1 = 0) : Tested s n (recomputeDrive n t) := by
  have hzero : ((commandedState n t).st n).drive.commanded = 0 := by simp [commandedState_drive, composeSpeed, hreq]
  rw [recomputeDrive_commanded, if_pos hzero]
  refine tested_testUnlock ⟨offRun_commandedState h.offRun, fun w f hu => ?_⟩
  refine (h.sent w f (commandedState_quiet n t w f hu)).imp_right fun ⟨hw, _, hstill⟩ => ⟨hw, hzero, ?_⟩
  rwa [commandedState_drive]

theorem Muted.recomputeDrive (h : Muted s n t) : Muted s n (recomputeDrive n t) := by
  have hmuted : Muted s n (commandedState n t) :=
    ⟨(commandedState_pending n t).trans h.idle, fun w f hu => h.quiet w f (commandedState_quiet n t w f hu)⟩
  rw [recomputeDrive_commanded]
  split
  · exact hmuted.testUnlock
  · exact hmuted

theorem calm_setEnvelope (e : Nat) : Calm t (t.modDrive n (fun d => { d with envelope := e })) :=
  calm_modDrive n rfl rfl rfl id

theorem tested_recomputeEnvelope (h : Unsaid s n t) : Tested s n (recomputeEnvelope n t) :=
  tested_recomputeDrive (h.calm (calm_setEnvelope _))

theorem Muted.recomputeEnvelope (h : Muted s n t) : Muted s n (recomputeEnvelope n t) :=
  (h.calm (calm_setEnvelope _)).recomputeDrive

theorem tested_dropManualSpeed (h : Unsaid s n t) : Tested s n (dropManualSpeed n t) :=
  tested_recomputeDrive (h.calm (calm_modDrive n rfl rfl rfl id))

theorem Muted.dropManualSpeed (h : Muted s n t) : Muted s n (dropManualSpeed n t) :=
  (h.calm (calm_modDrive n rfl rfl rfl id)).recomputeDrive

theorem tested_stateChanged (rule : Adoption) (b : Bool) (h : Unsaid s n t) : Tested s n (stateChanged n rule b t) :=
  (tested_recomputeDrive h).calm ((calm_adoptTarget n rule b).trans calm_recomputeArbiter)

theorem Muted.stateChanged (rule : Adoption) (b : Bool) (h : Muted s n t) : Muted s n (stateChanged n rule b t) :=
  h.recomputeDrive.calm ((calm_adoptTarget n rule b).trans calm_recomputeArbiter)

end

end Sys2Proof.Machine


/-! PROOFS. The unlock interlock through the step engine: a run holds no pending unlock, and where a run ends the unlock is asked
for over the blade that the end leaves (R24, R38, R45, R53, R128, R129). -/

namespace Sys2Proof.Machine

open Sys2Proof

section
variable {s t : State} {n : StationId}

/-! ### Within a run -/

theorem Muted.modRun (h : Muted s n t) (f : RunContext → RunContext) : Muted s n (t.modRun n f) :=
  h.calm (calm_modRun_settled n f h.idle)

theorem Muted.enterActive (rule : Adoption) (b : Bool) (h : Muted s n t) : Muted s n (enterActive n rule b t) := by
  have hchanged (f : RunContext → RunContext) := (h.modRun f).stateChanged rule b
  unfold Machine.enterActive
  dsimp only
  split
  · exact (hchanged _).calm (calm_setNotice _)
  · exact hchanged _

theorem Muted.enterBasing (rule : Adoption) (b : Bool) (h : Muted s n t) : Muted s n (enterBasing n rule b t) :=
  (h.modRun _).stateChanged rule b

theorem Muted.leaveLocking (rule : Adoption) (b : Bool) (h : Muted s n t) : Muted s n (leaveLocking n rule b t) := by
  unfold Machine.leaveLocking
  split
  · exact h.enterBasing rule b
  · exact h.enterActive rule b

theorem Muted.actOnLid (h : Muted s n t) : Muted s n (actOnLid n t) := by
  unfold Machine.actOnLid
  dsimp only
  (repeat' split)
  · exact h.leaveLocking _ _
  · exact h.modRun _
  · exact h.modRun _
  · exact h
  · exact (h.calm (calm_lockLid n)).modRun _
  · exact h.modRun _

theorem Muted.enterLocking (after : Phase) (rule : Adoption) (b : Bool) (h : Muted s n t) :
    Muted s n (enterLocking n after rule b t) :=
  ((h.modRun _).stateChanged rule b).actOnLid

theorem Muted.leaveBasing (h : Muted s n t) : Muted s n (leaveBasing n t) := by
  unfold Machine.leaveBasing
  split
  · exact h.enterLocking _ _ _
  · exact h.enterActive _ _

theorem Muted.pauseStation (why : PauseReason) (h : Muted s n t) : Muted s n (pauseStation n why t) :=
  ((h.modRun _).stateChanged _ _).calm (calm_setNotice _)

theorem Muted.resumePhase (h : Muted s n t) : Muted s n (resumePhase n t) := by
  have hlocking : Muted s n (resumeLocking n t) := ((h.modRun _).stateChanged _ _).actOnLid
  unfold Machine.resumePhase
  dsimp only
  (repeat' split)
  · exact hlocking
  · exact h.leaveLocking _ _
  · exact h.enterLocking _ _ _
  · exact h.enterBasing _ _
  · exact h.enterLocking _ _ _
  · exact h.enterActive _ _

/-! ### The ends of a run -/

/-- A fault entry asks for nothing and for the unlock, whatever came before it. -/
theorem tested_enterFault (c : FaultCause) (k : Nat) (b : Bool) (h : Said s n t) : Tested s n (enterFault n c k b t) := by
  have hended : Said s n (faultEnded n t) := by
    unfold faultEnded
    split
    · exact h.calm (calm_endStep n _)
    · exact h
  have hcleared : Said s n (((faultEnded n t).modRun n (faultedRun c k)).modDrive n clearedManual) :=
    (hended.calm (calm_rest n (f := faultedRun c k) nofun nofun)).calm (calm_modDrive n rfl rfl rfl id)
  have hfault : ((((faultEnded n t).modRun n (faultedRun c k)).modDrive n clearedManual).st n).run.state = .fault := by
    simp [faultedRun, clearedRun]
  have hreq := requestOf_rest (s := ((faultEnded n t).modRun n (faultedRun c k)).modDrive n clearedManual) (n := n)
    (by rw [hfault]; exact nofun) (by rw [hfault]; exact nofun)
  have hchanged : Tested s n (stateChanged n .keep b (((faultEnded n t).modRun n (faultedRun c k)).modDrive n clearedManual)) :=
    (tested_recomputeDrive_rest hcleared (by rw [hreq])).calm ((calm_adoptTarget n _ b).trans calm_recomputeArbiter)
  rw [enterFault_eq]
  exact (tested_askUnlock hchanged.toSaid (by rw [stateChanged_run, hfault]; exact nofun)
    (by rw [stateChanged_run, hfault]; exact nofun)).calm (calm_setNotice _)

theorem tested_enterIdle (unlock b : Bool) (h : Unsaid s n t) : Tested s n (enterIdle n unlock b t) := by
  have hchanged : Tested s n (stateChanged n .keep b (t.modRun n (clearedRun .idle))) :=
    tested_stateChanged _ _ (h.calm (calm_rest n (f := clearedRun .idle) nofun nofun))
  unfold enterIdle
  dsimp only
  split
  · exact tested_askUnlock hchanged.toSaid (by simp [clearedRun]) (by simp [clearedRun])
  · exact hchanged

theorem tested_enterWarming (old : Option Int) (b : Bool) (h : Unsaid s n t) : Tested s n (enterWarming n old b t) := by
  have hwarming : Unsaid s n (t.modRun n (fun r =>
      { clearedRun .warming r with warmingLimit := some (t.st n).limits.keepWarmLimit })) := h.calm (calm_rest n nofun nofun)
  unfold enterWarming
  dsimp only
  split
  · exact tested_enterFault _ _ _ hwarming.said
  · exact tested_askUnlock (tested_stateChanged _ _ hwarming).toSaid (by simp [clearedRun]) (by simp [clearedRun])

theorem tested_endRecipe (r : StepRecord) (old : Option Int) (b : Bool) (h : Unsaid s n t) :
    Tested s n (endRecipe n r old b t) := by
  have hnoticed := h.calm (calm_setNotice (.recipeEnd n))
  unfold endRecipe
  dsimp only
  split
  · exact tested_enterWarming _ _ hnoticed
  · exact tested_enterIdle _ _ hnoticed

theorem tested_enterStep (i : Nat) (old : Option Int) (b : Bool) (h : Muted s n t) : Tested s n (enterStep n i old b t) := by
  have hentered := h.modRun (enteredRun i ((t.st n).slot i))
  unfold enterStep
  dsimp only
  split
  · exact tested_enterFault _ _ _ hentered.unsaid.said
  · (repeat' split)
    · exact (hentered.enterLocking _ _ _).tested
    · exact (hentered.enterLocking _ _ _).tested
    · exact (hentered.enterBasing _ _).tested
    · exact (hentered.enterActive _ _).tested

theorem tested_finishStep (o : StepOutcome) (b : Bool) (h : Muted s n t) : Tested s n (finishStep n o b t) := by
  have hended := (h.calm (calm_endStep n o)).modRun (fun r => { r with
    loopCounter := (nextStep (t.curStep n) ((t.st n).run.step.getD 0) (t.st n).run.loopCounter).2 })
  unfold finishStep
  dsimp only
  split
  · exact tested_enterStep _ _ _ hended
  · exact tested_endRecipe _ _ _ hended.unsaid

/-! ### Causes and silences (R51, R54) -/

theorem raiseCause_keeps {P : State → Prop} {c : FaultCause} {carried : Bool} (hfault : P (enterFault n c 0 false t))
    (hfurther : P (furtherFault n t)) (h : P t) : P (raiseCause n c carried t) := by
  unfold raiseCause
  (repeat' split)
  · exact h
  · exact hfurther
  · exact hfault

theorem Tested.raiseCause (c : FaultCause) (carried : Bool) (h : Tested s n t) : Tested s n (raiseCause n c carried t) :=
  raiseCause_keeps (tested_enterFault _ _ _ h.toSaid) (h.calm (calm_furtherFault n)) h

theorem Said.raiseCause (c : FaultCause) (carried : Bool) (h : Said s n t) : Said s n (raiseCause n c carried t) :=
  raiseCause_keeps (tested_enterFault _ _ _ h).toSaid (h.calm (calm_furtherFault n)) h

theorem Tested.raiseSilence (c : FaultCause) (faults : Bool) (h : Tested s n t) : Tested s n (raiseSilence n c faults t) :=
  raiseSilence_keeps (tested_enterFault _ _ _ h.toSaid) (h.calm (calm_furtherFault n)) h

end

end Sys2Proof.Machine


/-! PROOFS. The unlock interlock through everything that is told to one station: samples, reports, silences, setpoints and
requests (chapters 1 to 6). -/

namespace Sys2Proof.Machine

open Sys2Proof

section
variable {s t : State} {n : StationId}

/-! ### Samples (R61, R90) -/

theorem tested_weighStep (h : Unsaid s n t) (ht : Tested s n t) : Tested s n (weighStep n t) := by
  unfold weighStep
  dsimp only
  split
  · next hr _ =>
    (repeat' split)
    · exact tested_finishStep _ _ (h.muted (.inl hr))
    · exact ht
    · exact ht
  · next hr _ =>
    split
    · exact ((h.muted (.inl hr)).modRun _).leaveBasing.tested
    · exact ht
  · exact ht

theorem tested_takeWeighSample (x : WeighSample) (h : Unsaid s n t) (ht : Tested s n t) : Tested s n (takeWeighSample n x t) := by
  have accepted {v : State} (h : Unsaid s n v) (ht : Tested s n v) : Tested s n (acceptSample n x v) :=
    (tested_weighStep (h.calm (calm_modWeigh n _)) (ht.calm (calm_modWeigh n _))).calm (calm_advanceOp n x)
  unfold takeWeighSample
  (repeat' split)
  · exact accepted h ht
  · exact ht.calm (calm_countStation n _)
  · exact accepted h ht
  · exact accepted (h.calm (calm_countStation n _)) (ht.calm (calm_countStation n _))

theorem tested_tempStep (x : Int) (ht : Tested s n t) (hrun : (t.st n).run.state = .running → Muted s n t) :
    Tested s n (tempStep n x t) := by
  unfold tempStep
  dsimp only
  split
  · next hc => exact tested_finishStep _ _ (hrun hc.1)
  · exact ht

/-- A station in FAULT asks for no speed, so that a recomputed envelope moves no blade. -/
theorem tested_recomputeEnvelope_fault (h : Said s n t) (hf : (t.st n).run.state = .fault) :
    Tested s n (recomputeEnvelope n t) := by
  refine tested_recomputeDrive_rest (h.calm (calm_setEnvelope _)) ?_
  rw [requestOf_rest (by simp [hf]) (by simp [hf])]

theorem raiseCause_fault (c : FaultCause) (carried : Bool) : ((raiseCause n c carried t).st n).run.state = .fault := by
  by_cases h : (t.st n).run.state = .fault
  · unfold raiseCause
    rw [if_pos h]
    split
    · exact h
    · simp [furtherFault, h]
  · rw [raiseCause_enters h]
    simp [enterFault_run]

theorem tested_takeThermoSample (x : Int) (fault : Bool) (h : Unsaid s n t) (ht : Tested s n t) :
    Tested s n (takeThermoSample n x fault t) := by
  have hstored : Calm t (t.modHeat n (storeThermo x fault)) := calm_modHeat n _
  have followed {v : State} (hv : Tested s n v) (hrun : (v.st n).run.state = .running → Muted s n v) :
      Tested s n (thermoDemand n x (t.side n).grant (t.st n).heat.demand (retestReached n (tempStep n x v))) :=
    (tested_tempStep x hv hrun).calm ((calm_retestReached n).trans (calm_thermoDemand n _ _ _))
  unfold takeThermoSample thermoFaults
  dsimp only
  split
  · exact (ht.calm hstored).raiseCause _ _
  · split
    · refine followed (tested_recomputeEnvelope_fault ((ht.calm hstored).raiseCause _ _).toSaid (raiseCause_fault _ _)) ?_
      intro hr
      rw [recomputeEnvelope_run, raiseCause_fault] at hr
      cases hr
    · refine followed (tested_recomputeEnvelope (h.calm hstored)) fun hr => ?_
      rw [recomputeEnvelope_run] at hr
      exact ((h.calm hstored).muted (.inl hr)).recomputeEnvelope

/-! ### Reports (R92, R124, R125) -/

theorem tested_takeHeatState (r : HeatReport) (ht : Tested s n t) : Tested s n (takeHeatState n r t) := by
  have hstored := ht.calm (calm_modHeat n (fun h => { h with report := some r }))
  unfold takeHeatState
  dsimp only
  split
  · exact hstored.raiseCause _ _
  · exact hstored

/-- What is known of the blade may change while no unlock is sent. -/
theorem Unsaid.modDrive (h : Unsaid s n t) (f : DriveContext → DriveContext)
    (hp : (f (t.st n).drive).pendingUnlock = true → (t.st n).drive.pendingUnlock = true) : Unsaid s n (t.modDrive n f) :=
  ⟨fun hpend => by simpa using h.offRun (hp (by simpa using hpend)), fun w g hu => h.quiet w g (by simpa using hu)⟩

theorem tested_takeDriveState (r : DriveReport) (h : Unsaid s n t) : Tested s n (takeDriveState n r t) := by
  have hstored := (h.modDrive (fun d => { d with report := some r }) id).said
  have hcaused (c : Bool) : Said s n (if r.fault then raiseCause n .driveFault c
      (t.modDrive n (fun d => { d with report := some r })) else t.modDrive n (fun d => { d with report := some r })) := by
    split
    · exact hstored.raiseCause _ _
    · exact hstored
  exact tested_testUnlock ((hcaused _).calm (calm_setDraw n r.draw))

theorem losesLid_running (h : t.losesLid n = true) : (t.st n).run.state = .running := by
  simp only [State.losesLid, Bool.and_eq_true, beq_iff_eq] at h
  exact h.1.1

theorem tested_takeLidState (r : LidReport) (h : Unsaid s n t) : Tested s n (takeLidState n r t) := by
  have hstored := h.calm (calm_modDrive n (f := fun d => { d with lidReport := some r }) rfl rfl rfl id)
  unfold takeLidState
  dsimp only
  split
  · next hc => exact (hstored.muted (.inl hc.1)).actOnLid.recomputeEnvelope.tested
  · split
    · next hc =>
      rw [Bool.and_eq_true] at hc
      exact ((hstored.muted (.inl (losesLid_running hc.1))).pauseStation _).recomputeEnvelope.tested
    · exact tested_recomputeEnvelope hstored

/-! ### Silences and being heard (R126, R140, R141) -/

theorem tested_driveSilence (h : Unsaid s n t) (ht : Tested s n t) : Tested s n (driveSilence n t) := by
  have hstarted : Calm t (t.modDrive n (fun d => { d with spinDown := some Config.spinDownMs })) := calm_modDrive n rfl rfl rfl id
  refine Tested.raiseSilence _ _ ?_
  split
  · exact tested_dropManualSpeed (h.calm hstarted)
  · exact ht.calm hstarted

theorem tested_lidSilence (h : Unsaid s n t) : Tested s n (lidSilence n t) := by
  unfold lidSilence
  dsimp only
  (repeat' split)
  · next hc => exact ((h.muted (.inl hc.1)).modRun _).recomputeEnvelope.tested
  · next hc => exact ((h.muted (.inl (losesLid_running hc))).pauseStation _).recomputeEnvelope.tested
  · exact tested_recomputeEnvelope h

theorem tested_weighSilence (ht : Tested s n t) : Tested s n (weighSilence n t) := by
  refine Tested.raiseSilence _ _ ?_
  have hstale := ht.calm (calm_modWeigh n (fun w => { flushRing w with stale := true }))
  split
  · exact hstale
  · exact hstale.calm (calm_endOp n _)

theorem tested_thermoSilence (ht : Tested s n t) : Tested s n (thermoSilence n t) := by
  have hcold := ht.calm (calm_modHeat n (fun h => { h with integral := 0, reached := false }))
  refine Tested.raiseSilence _ _ (Tested.calm ?_ (calm_setDemand n 0))
  split
  · exact hcold.calm (calm_modDrive n rfl rfl rfl id)
  · exact hcold

theorem tested_roleSilent (r : Role) (h : Unsaid s n t) (ht : Tested s n t) : Tested s n (roleSilent n r t) := by
  cases r with
  | drive => exact tested_driveSilence h ht
  | heater => exact (ht.calm ((calm_followDemand n).trans calm_recomputeArbiter)).raiseSilence _ _
  | weigh => exact tested_weighSilence ht
  | thermo => exact tested_thermoSilence ht
  | lid => exact tested_lidSilence h

/-! ### Setpoints and timers (R121 to R123, R126, R130) -/

theorem tested_manualSpeed (v : Nat) (dir : Direction) (h : Unsaid s n t) : Tested s n (manualSpeed n v dir t) :=
  tested_recomputeDrive (h.calm (calm_modDrive n rfl rfl rfl id))

theorem calm_manualHeat (w : Nat) : Calm t (manualHeat n w t) := (calm_modDrive n rfl rfl rfl id).trans (calm_followManualHeat n)

theorem tested_manualLid (c : LidCmd) (hi : (t.st n).run.state = .idle) (ht : Tested s n t) : Tested s n (manualLid n c t) := by
  have hset := ht.calm (calm_modDrive n (f := fun d => { d with manualLid := some c }) rfl rfl rfl id)
  cases c with
  | lock =>
    exact (hset.calm (calm_modDrive n rfl rfl rfl fun h => absurd h Bool.false_ne_true)).calm (calm_lockLid n)
  | unlock => exact tested_askUnlock hset.toSaid (by simp [hi]) (by simp [hi])

theorem tested_spinDown (h : Unsaid s n t) :
    Tested s n (testUnlock n (t.modDrive n (fun d => { d with spinDown := none, spinDownElapsed := true }))) :=
  tested_testUnlock (h.modDrive (fun d => { d with spinDown := none, spinDownElapsed := true }) id).said

/-- A refresh repeats UNLOCK over a still blade alone (R130). -/
theorem said_refreshLid (h : Unsaid s n t) : Said s n (refreshLid n t) := by
  unfold refreshLid
  split
  · exact h.said.calm (calm_sendLock n)
  · split
    · next hc =>
      have hdrive : ((sendLidSet n .unlock t).st n) = t.st n := by
        unfold sendLidSet
        split <;> simp
      refine ⟨fun hp => ?_, fun w f hu => ?_⟩
      · rw [hdrive] at hp ⊢
        exact h.offRun hp
      · rw [bladeStill_sendLidSet]
        obtain hu | rfl := unlocks_sendLidSet hu
        · exact .inl (h.quiet w f hu)
        · exact .inr ⟨rfl, (bladeStill_iff t w).mp hc⟩
    · exact h.said
  · exact h.said

theorem tested_refresh (h : Unsaid s n t) (r : Nat) : Tested s n (testUnlock n (refreshLid n (sendHeatSet n (sendSpeedSet n
    (t.modDrive n (fun d => { d with refreshTimer := r })))))) :=
  tested_testUnlock (said_refreshLid (h.calm (((calm_modDrive n rfl rfl rfl id).trans (calm_sendSpeedSet n)).trans
    (calm_sendHeatSet n))))

/-! ### Requests (chapters 1 and 2) -/

theorem tested_startStation (first : Nat) (h : Unsaid s n t) : Tested s n (startStation n first t) := by
  have hcleared : Muted s n (t.modDrive n (fun d => { d with pendingUnlock := false })) :=
    ⟨by simp, (h.quiet).calm (calm_modDrive n rfl rfl rfl fun h => absurd h Bool.false_ne_true)⟩
  exact tested_enterStep _ _ _ ((hcleared.dropManualSpeed.calm (calm_modDrive n (f := clearedManual) rfl rfl rfl id)).modRun _)

theorem tested_resumeStation (h : Muted s n t) : Tested s n (resumeStation n t) := by
  unfold resumeStation
  split
  · exact tested_enterFault _ _ _ h.unsaid.said
  · exact h.resumePhase.tested

theorem tested_adjustStation (a : Adjustment) (h : Muted s n t) : Tested s n (adjustStation n a t) := by
  have hadjusted := h.modRun (adjustRun a (t.curStep n) (t.st n).limits.overtemp)
  have heated {v : State} (hv : Muted s n v) (before : Option Int) : Tested s n (adjustHeat n before a v) := by
    unfold adjustHeat
    (repeat' split)
    · exact tested_enterFault _ _ _ hv.unsaid.said
    · exact hv.tested.calm (calm_adoptTarget n _ _)
    · exact hv.tested
  refine heated ?_ _
  split
  · exact hadjusted.recomputeDrive
  · exact hadjusted

theorem tested_applyLimit (id v : Nat) (h : Unsaid s n t) (ht : Tested s n t) : Tested s n (applyLimit n id v t) := by
  have hset : Calm t (t.modSt n (fun st => { st with limits := setLimit st.limits id v })) := calm_station n _ rfl rfl rfl
  unfold applyLimit
  dsimp only
  (repeat' split)
  · exact tested_recomputeEnvelope (h.calm hset)
  · exact ht.calm (hset.trans ((calm_modDrive n rfl rfl rfl fun h => h).trans ((calm_followManualHeat n).trans calm_recomputeArbiter)))
  · exact ht.calm hset

theorem tested_stopIdle (hi : (t.st n).run.state = .idle) (h : Unsaid s n t) :
    Tested s n (askUnlock n (dropManualHeat n (dropManualSpeed n t))) :=
  tested_askUnlock ((tested_dropManualSpeed h).calm (calm_dropManualHeat n)).toSaid
    (by simp [dropManualHeat, dropManualSpeed, hi]) (by simp [dropManualHeat, dropManualSpeed, hi])

end

end Sys2Proof.Machine


/-! PROOFS. The unlock interlock through a new binding, an isolation and its end, and a node heard again (R18, R129, R141, R178,
R179). -/

namespace Sys2Proof.Machine

open Sys2Proof

section
variable {s t u : State} {n : StationId}

/-! ### A new binding (R18) -/

theorem Calm.skip {c : Prop} [Decidable c] (h : Calm s t) (g : Calm t u) : Calm s (if c then t else u) := by
  split
  · exact h
  · exact h.trans g

theorem calm_discardUnsent (k : OwnKind) : Calm s (discardUnsent k s) := by
  refine calm_modPort_entries _ (fun e he => ?_) (by rw [modQueue_health])
  obtain hq | hq := mem_entries_modQueue he
  · exact mem_entries_of_queue (List.mem_of_mem_filter hq)
  · exact hq

/-- What is forgotten of the other roles moves no blade and asks for no unlock. -/
theorem forgetRoles_stages (n : StationId) (old new : Binding) (s : State) : ∃ v,
    (v = if old.drive = new.drive then s else (discardUnsent (.speedSet n) (s.modDrive n
      (forgetDrive (s.nodeSilent new.drive)))).modSide n (fun a => { a with draw := 0 })) ∧ Calm v (forgetRoles n old new s) := by
  refine ⟨_, rfl, ?_⟩
  unfold forgetRoles
  dsimp only
  refine ((((Calm.refl _).skip ?heater).skip (calm_modWeigh n _)).skip (calm_modHeat n _)).skip ?lid
  case heater =>
    exact ((calm_discardUnsent _).trans (calm_modDrive n rfl rfl rfl fun h => h)).trans ((calm_modHeat n _).trans (calm_modSide n _))
  case lid => exact (calm_discardUnsent _).trans (calm_modDrive n rfl rfl rfl fun h => h)

theorem unsaid_forgetRoles (old new : Binding) (h : Unsaid s n t) : Unsaid s n (forgetRoles n old new t) := by
  obtain ⟨v, hv, hcalm⟩ := forgetRoles_stages n old new t
  refine Unsaid.calm ?_ hcalm
  rw [hv]
  split
  · exact h
  · exact (h.modDrive (forgetDrive (t.nodeSilent new.drive)) id).calm ((calm_discardUnsent _).trans (calm_modSide n _))

theorem calm_forgetRoles {old new : Binding} (hd : old.drive = new.drive) : Calm s (forgetRoles n old new s) := by
  obtain ⟨v, hv, hcalm⟩ := forgetRoles_stages n old new s
  rw [if_pos hd] at hv
  exact hv ▸ hcalm

/-- Of a new DRIVE node no stillness is known. -/
def State.bladeUnknown (t : State) (n : StationId) : Prop :=
  (t.st n).drive.report = none ∧ (t.st n).drive.spinDownElapsed = false

theorem bladeUnknown_forgetRoles {old new : Binding} (hd : old.drive ≠ new.drive) : (forgetRoles n old new s).bladeUnknown n := by
  obtain ⟨v, hv, hcalm⟩ := forgetRoles_stages n old new s
  rw [if_neg hd] at hv
  unfold State.bladeUnknown
  rw [hcalm.report, hcalm.elapsed, hv]
  simp [discardUnsent, forgetDrive]

/-- Over a blade of which nothing is known a recomputed speed sends no unlock. -/
theorem unsaid_recomputeDrive_unknown (h : Unsaid s n t) (hb : t.bladeUnknown n) : Unsaid s n (recomputeDrive n t) := by
  obtain ⟨hreport, helapsed⟩ := hb
  have hcommanded : Unsaid s n (commandedState n t) :=
    ⟨offRun_commandedState h.offRun, fun w f hu => h.quiet w f (commandedState_quiet n t w f hu)⟩
  have hmoving : ¬ BladeStill (commandedState n t) n := by
    unfold BladeStill
    rw [commandedState_drive]
    simp [composeSpeed, hreport, helapsed]
  rw [recomputeDrive_commanded, testUnlock_waits (.inr (.inl hmoving)), ite_self]
  exact hcommanded

theorem tested_followBinding {old new : Binding} (h : Unsaid s n t) (hb : old.drive ≠ new.drive → t.bladeUnknown n)
    (ht : old.drive = new.drive → old.thermo = new.thermo ∧ old.lid = new.lid → Tested s n t) :
    Tested s n (followBinding n old new t) := by
  have hsettled {v : State} (hv : Tested s n v) :
      Tested s n (if old.lid ≠ new.lid ∧ new.lid.isSome = true then testUnlock n (followDemand n (followManualHeat n v))
        else followDemand n (followManualHeat n v)) := by
    have hfollowed := hv.calm ((calm_followManualHeat n).trans (calm_followDemand n))
    split
    · exact tested_testUnlock hfollowed.toSaid
    · exact hfollowed
  unfold followBinding
  dsimp only
  refine hsettled ?_
  by_cases hd : old.drive = new.drive
  · rw [if_pos hd]
    split
    · next hsame => exact ht hd hsame
    · exact tested_recomputeEnvelope h
  · rw [if_neg hd]
    refine (tested_recomputeDrive ?_).calm ((calm_sendSpeedSet n).trans calm_recomputeArbiter)
    split
    · exact h
    · refine unsaid_recomputeDrive_unknown (h.calm (calm_setEnvelope _)) ?_
      simpa [State.bladeUnknown] using hb hd

theorem tested_bindStation (new : Binding) (h : Unsaid s n s) (ht : Tested s n s) : Tested s n (bindStation n new s) := by
  have hforgotten := unsaid_forgetRoles (s.st n).binding new h
  have hpending (v : State) : Unsaid s n v → Unsaid s n (v.modSt n (fun st => { st with binding := new })) := fun hv =>
    ⟨fun hp => by simpa using hv.offRun (by simpa using hp), fun w f hu => hv.quiet w f (by simpa using hu)⟩
  refine tested_followBinding (hpending _ hforgotten) (fun hd => ?_) (fun hd ⟨_, hlid⟩ => ?_)
  · simpa [State.bladeUnknown] using bladeUnknown_forgetRoles hd
  · have hcalm : Calm s (forgetRoles n (s.st n).binding new s) := calm_forgetRoles hd
    refine (ht.calm hcalm).calm (calm_modSt rfl rfl rfl (fun hp => ⟨hp, .inl rfl⟩) ?_)
    exact hlid.symm.trans (hcalm.lid n).symm

end

end Sys2Proof.Machine


/-! PROOFS. The unlock interlock through the link ports: frames that move between a queue and the engine, health changes, an
isolation, its end and a restarted port (R129, R163, R164, R176 to R180). -/

namespace Sys2Proof.Machine

open Sys2Proof

section
variable {s t u : State}

/-! ### Health -/

theorem calm_control (f : PortState → PortState) : Calm s (s.modPort .control f) := calm_aside (fun n => by cases n <;> rfl) rfl

theorem calm_setHealth {p : Port} {h : Health} (hh : h = .isolated ↔ (s.port p).health = .isolated) : Calm s (setHealth p h s) := by
  unfold setHealth
  split
  · exact .refl s
  · exact (calm_modPort p (fun _ _ => id) hh).trans (calm_setNotice _)

theorem calm_setHealth_control (h : Health) : Calm s (setHealth .control h s) := by
  unfold setHealth
  split
  · exact .refl s
  · exact (calm_control _).trans (calm_setNotice _)

theorem calm_followCounts (p : Port) : Calm s (followCounts p s) := by
  unfold followCounts
  split
  · next hh => exact calm_setHealth (iff_of_false (healthOf_ne_isolated _ _) (by rw [hh]; exact nofun))
  · next hh => exact calm_setHealth (iff_of_false (healthOf_ne_isolated _ _) (by rw [hh]; exact nofun))
  · exact .refl s

theorem entries_of_queues {q r : PortState} (hq : ∀ c, ∀ e ∈ r.queue c, e ∈ q.entries) (he : ∀ e ∈ r.engine, e ∈ q.entries) :
    ∀ e ∈ r.entries, e ∈ q.entries := by
  intro e h
  obtain ⟨c, h⟩ | h := mem_entries h
  · exact hq c e h
  · exact he e h

/-- A port that has stopped sending holds only what waits in its queues. -/
theorem entries_of_idle {q r : PortState} (hq : ∀ c, r.queue c = q.queue c) (he : r.engine = []) :
    ∀ e ∈ r.entries, e ∈ q.entries :=
  entries_of_queues (fun c e h => mem_entries_of_queue (hq c ▸ h)) (by rw [he]; exact nofun)

theorem calm_stopped (p : Port) {f : PortState → PortState} (hq : ∀ c, (f (s.port p)).queue c = (s.port p).queue c)
    (he : (f (s.port p)).engine = []) (hh : (f (s.port p)).health = (s.port p).health) : Calm s (s.modPort p f) :=
  calm_modPort_entries p (entries_of_idle hq he) (by rw [hh])

theorem calm_receiveErrorAt (p : Port) (error : RxError) : Calm s (receiveErrorAt p error s) :=
  ((calm_stopped p (fun c => by cases c <;> rfl) rfl rfl).trans (calm_countPort p _)).trans (calm_followCounts p)

theorem calm_completed (p : Port) : Calm s (updateDropModes (followCounts p (countPort p .transmitted (s.modPort p (fun q =>
    { q with activity := .idle, wasTransmitter := true, tx := q.tx - 1 }))))) :=
  (((calm_stopped p (fun c => by cases c <;> rfl) rfl rfl).trans (calm_countPort p _)).trans (calm_followCounts p)).trans
    calm_updateDropModes

/-! ### The transmit engine (R163, R164) -/

theorem calm_transmissionStart (p : Port) : Calm s (s.modPort p (fun q => offerFrame (reloadCredits q))) := by
  have hreload : ∀ q : PortState, (∀ c, (reloadCredits q).queue c = q.queue c) ∧ (reloadCredits q).engine = q.engine ∧
      (reloadCredits q).health = q.health := by
    intro q
    unfold reloadCredits
    split
    · exact ⟨fun c => by cases c <;> rfl, rfl, rfl⟩
    · exact ⟨fun _ => rfl, rfl, rfl⟩
  obtain ⟨hqueue, hengine, hhealth⟩ := hreload (s.port p)
  have hwaits (c : QClass) (e : Queued) (h : e ∈ (reloadCredits (s.port p)).queue c) : e ∈ (s.port p).entries :=
    mem_entries_of_queue (hqueue c ▸ h)
  obtain h | ⟨c, e, rest, hc, hother, hrest, hoffered, hh⟩ := offerFrame_cases (reloadCredits (s.port p))
  · refine calm_modPort_entries p ?_ (by rw [h, hhealth])
    rw [h]
    exact entries_of_queues hwaits fun e he => List.mem_append_right _ (hengine ▸ he)
  · refine calm_modPort_entries p (entries_of_queues (fun d x hx => ?_) fun x hx => ?_) (by rw [hh, hhealth])
    · by_cases hd : d = c
      · subst hd
        rw [hrest] at hx
        exact hwaits d x (hc ▸ List.mem_cons_of_mem e hx)
      · exact hwaits d x (hother d hd ▸ hx)
    · rw [hoffered, List.mem_singleton] at hx
      exact hwaits c x (hc ▸ hx ▸ List.mem_cons_self ..)

theorem calm_wonArbitration {p : Port} {e : Queued} (h : (s.port p).activity = .contending e) :
    Calm s (s.modPort p (fun q => spendCredit e.cls { q with activity := .transmitting e })) := by
  have hengine : (s.port p).engine = [e] := by rw [PortState.engine, h]
  refine calm_modPort_entries p (entries_of_queues (fun c x hx => mem_entries_of_queue (c := c) ?_) fun x hx => ?_) ?_
  · cases hc : e.cls <;> rw [hc] at hx <;> cases c <;> exact hx
  · have hx : x ∈ [e] := by cases hc : e.cls <;> rw [hc] at hx <;> exact hx
    exact List.mem_append_right _ (hengine ▸ hx)
  · cases e.cls <;> rfl

/-- A frame that returns to unsent goes out as itself, or with the contents of a newer one of its kind (R164). -/
theorem calm_returnUnsent {p : Port} {e : Queued} {f : PortState → PortState} (he : e ∈ (s.port p).entries)
    (hq : ∀ c, (f (s.port p)).queue c = (s.port p).queue c) (hf : (f (s.port p)).engine = [])
    (hh : (f (s.port p)).health = (s.port p).health) : Calm s (returnUnsent p e (s.modPort p f)) := by
  have hentries : ∀ x ∈ (f (s.port p)).entries, x ∈ (s.port p).entries := entries_of_idle hq hf
  have hreturned : Calm s ((s.modPort p f).modPort p (fun q => q.modQueue e.cls (e :: ·))) := by
    rw [modPort_modPort]
    refine calm_modPort_entries p (fun x hx => ?_) (by rw [modQueue_health, hh])
    obtain hx | hx := mem_entries_modQueue hx
    · obtain rfl | hx := List.mem_cons.mp hx
      · exact he
      · exact mem_entries_of_queue (hq e.cls ▸ hx)
    · exact hentries x hx
  unfold returnUnsent
  split
  · exact hreturned
  · next k hk =>
    split
    · next newer hnewer =>
      have hfound : ((f (s.port p)).queue e.cls).find? (Queued.isKind k) = some newer := by
        split at hnewer
        · rwa [port_modPort] at hnewer
        · cases hnewer
      have hmem : newer ∈ (s.port p).entries := mem_entries_of_queue (hq e.cls ▸ List.mem_of_find?_eq_some hfound)
      have horigin : newer.origin = .own k := (isKind_iff k newer).mp (List.find?_some hfound)
      rw [modPort_modPort]
      refine calm_modPort p (fun w g hu => ?_) (by rw [modQueue_health, hh])
      obtain ⟨hpay, x, hx, ho, hg⟩ := hu
      obtain hx | hx := mem_entries_modQueue hx
      · obtain rfl | hx := List.mem_cons.mp hx
        · exact ⟨hpay, newer, hmem, horigin.trans (hk.symm.trans ho), hg⟩
        · exact ⟨hpay, x, mem_entries_of_queue (hq e.cls ▸ (removeFirst_sublist k _).subset hx), ho, hg⟩
      · exact ⟨hpay, x, hentries x hx, ho, hg⟩
    · split
      · exact calm_stopped p hq hf hh
      · exact hreturned

theorem mem_entries_of_engine {p : Port} {e : Queued} (h : (s.port p).activity = .contending e ∨ (s.port p).activity = .transmitting e) :
    e ∈ (s.port p).entries := by
  refine List.mem_append_right _ ?_
  rw [PortState.engine]
  obtain h | h := h <;> rw [h] <;> exact List.mem_singleton_self e

theorem calm_lostArbitration {p : Port} {e : Queued} (h : (s.port p).activity = .contending e) :
    Calm s (countPort p .lostArbitrations (returnUnsent p e
      (s.modPort p (fun q => { q with activity := .receiving, wasTransmitter := false })))) :=
  (calm_returnUnsent (mem_entries_of_engine (.inl h)) (fun c => by cases c <;> rfl) rfl rfl).trans (calm_countPort p _)

theorem calm_stopSending (p : Port) : Calm s (stopSending p s) := by
  unfold stopSending
  split
  · next e he => exact calm_returnUnsent (mem_entries_of_engine (.inl he)) (fun c => by cases c <;> rfl) rfl rfl
  · next e he =>
    have hcredit (q : PortState) : (∀ c, ({ unspendCredit e.cls q with activity := .idle } : PortState).queue c = q.queue c) ∧
        (unspendCredit e.cls q).health = q.health := by
      unfold unspendCredit
      split
      · cases e.cls <;> exact ⟨fun c => by cases c <;> rfl, rfl⟩
      · exact ⟨fun c => by cases c <;> rfl, rfl⟩
    exact calm_returnUnsent (mem_entries_of_engine (.inr he)) (hcredit _).1 rfl (hcredit _).2
  · exact .refl s
  · exact calm_stopped p (fun c => by cases c <;> rfl) rfl rfl

end

end Sys2Proof.Machine


/-! PROOFS. The rule that an unlock goes out over a still blade alone, for the isolation of the appliance port and its end
(R129, R178 to R180). -/

namespace Sys2Proof.Machine

open Sys2Proof

/-! ### The rule itself -/

/-- An unlock held at `t` was held at `s`, or its blade is still, or it was when the isolation that kept it back ended. -/
def Permitted (s t : State) : Prop :=
  ∀ w f, t.appliance.unlocks w f → s.appliance.unlocks w f ∨ BladeStill t w ∨
    BladeStill s w ∧ s.appliance.health = .isolated ∧ t.appliance.health ≠ .isolated

/-- An unlock held at `t` was held at `s`, or it went out at the end of an isolation. -/
def Released (s t : State) : Prop :=
  ∀ w f, t.appliance.unlocks w f → s.appliance.unlocks w f ∨
    BladeStill s w ∧ s.appliance.health = .isolated ∧ t.appliance.health ≠ .isolated

/-- A piece of an event that keeps the health of the appliance port, and sends an unlock over a still blade alone. -/
structure Clean (s t : State) : Prop where
  sound : UnlocksSound t
  health : t.appliance.health = .isolated ↔ s.appliance.health = .isolated
  sent : ∀ w f, t.appliance.unlocks w f → s.appliance.unlocks w f ∨ BladeStill t w

section
variable {s t u : State} {n : StationId}

theorem unlocksSound_iff : UnlocksSound s ↔ ∀ n, s.offRun n ∧ s.waitsRightly n :=
  ⟨fun h n => ⟨fun hp => ⟨(h n hp).1, (h n hp).2.1⟩, fun hp => (h n hp).2.2⟩,
    fun h n hp => ⟨((h n).1 hp).1, ((h n).1 hp).2, (h n).2 hp⟩⟩

theorem waitsRightly_calm (h : s.waitsRightly n) (c : Calm s t) : t.waitsRightly n := by
  intro hp
  rw [c.bladeStill, c.lid, c.health]
  exact h (c.pending n hp).1

theorem unlocksSound_calm (h : UnlocksSound s) (c : Calm s t) : UnlocksSound t :=
  unlocksSound_iff.mpr fun n => ⟨offRun_calm (unlocksSound_iff.mp h n).1 c, waitsRightly_calm (unlocksSound_iff.mp h n).2 c⟩

theorem Clean.of_calm (h : UnlocksSound s) (c : Calm s t) : Clean s t :=
  ⟨unlocksSound_calm h c, c.health, fun w f hu => .inl (c.unlocks w f hu)⟩

theorem Clean.calm (h : Clean s t) (c : Calm t u) : Clean s u := by
  refine ⟨unlocksSound_calm h.sound c, c.health.trans h.health, fun w f hu => ?_⟩
  rw [c.bladeStill]
  exact h.sent w f (c.unlocks w f hu)

theorem Clean.after_calm (c : Calm s t) (h : Clean t u) : Clean s u :=
  ⟨h.sound, h.health.trans c.health, fun w f hu => (h.sent w f hu).imp_left (c.unlocks w f)⟩

/-- An operation on one station that leaves the other and the health of the port. -/
theorem Clean.of_tested (hs : UnlocksSound s) (h : Tested s n t) (hother : t.st (otherStation n) = s.st (otherStation n))
    (hout : t.appliance.health = s.appliance.health) : Clean s t := by
  refine ⟨unlocksSound_iff.mpr fun m => ?_, by rw [hout], fun w f hu => (h.sent w f hu).imp_right fun ⟨hw, hstill⟩ => hw ▸ hstill⟩
  by_cases hm : m = n
  · exact hm ▸ ⟨h.offRun, h.waits⟩
  · obtain rfl := eq_otherStation_of_ne hm
    obtain ⟨hoff, hwaits⟩ := unlocksSound_iff.mp hs (otherStation n)
    unfold State.offRun State.waitsRightly BladeStill
    rw [hother, hout]
    exact ⟨hoff, hwaits⟩

theorem Released.refl (s : State) : Released s s := fun _ _ => .inl

theorem Released.calm (h : Released s t) (c : Calm t u) : Released s u := by
  intro w f hu
  rw [ne_eq, c.health]
  exact h w f (c.unlocks w f hu)

theorem Released.clean (h : Released s t) (c : Clean t u) : Permitted s u := by
  intro w f hu
  rw [ne_eq, c.health]
  obtain hu | hu := c.sent w f hu
  · exact (h w f hu).imp_right .inr
  · exact .inr (.inl hu)

theorem Clean.permitted (h : Clean s t) : Permitted s t := (Released.refl s).clean h

theorem Permitted.calm (h : Permitted s t) (c : Calm t u) : Permitted s u := by
  intro w f hu
  rw [ne_eq, c.health, c.bladeStill]
  exact h w f (c.unlocks w f hu)

theorem Permitted.after_calm (c : Calm s t) (h : Permitted t u) : Permitted s u := by
  intro w f hu
  rw [← c.bladeStill, ← c.health]
  exact (h w f hu).imp_left (c.unlocks w f)

theorem Released.permitted (h : Released s t) : Permitted s t := fun w f hu => (h w f hu).imp_right .inr

/-! ### Isolation (R178) -/

/-- On an ISOLATED port that holds nothing, a pending unlock outside the runs waits. -/
theorem unlocksSound_isolated (hh : s.appliance.health = .isolated) (hoff : ∀ n, s.offRun n) : UnlocksSound s :=
  unlocksSound_iff.mpr fun n => ⟨hoff n, fun _ => .inr (.inr hh)⟩

theorem isolateStation_offRun (hh : s.appliance.health = .isolated) : (isolateStation n s).offRun n := by
  intro _
  obtain ⟨hbusy, hidle, hfault⟩ := isolateStation_spec (n := n) hh
  cases hs : (s.st n).run.state with
  | idle => rw [(hidle hs).1, hs]; exact ⟨nofun, nofun⟩
  | running => rw [(hbusy (.inl hs)).1]; exact ⟨nofun, nofun⟩
  | paused => rw [(hbusy (.inr (.inl hs))).1]; exact ⟨nofun, nofun⟩
  | warming => rw [(hbusy (.inr (.inr hs))).1]; exact ⟨nofun, nofun⟩
  | fault => rw [hfault hs]; exact ⟨by simp [hs], by simp [hs]⟩

theorem offRun_of_st (hst : t.st n = s.st n) (h : s.offRun n) : t.offRun n := by
  unfold State.offRun
  rwa [hst]

/-- An isolated port holds nothing, whatever its health was. -/
theorem isolatedPort_holds_nothing (p : Port) (s : State) : isolatedEmpty p 0 (isolatedPort p s) := by
  generalize hc : s.modPort p (fun q => { q with
    urgent := [], control := [], bulk := [], activity := .idle, idleBits := 0, goodFrames := 0, errorMark := none }) = c
  have hempty : (c.port p).entries = [] := by rw [← hc]; simp [PortState.entries, PortState.engine]
  have hdropped : ((countDrops p (s.port p).entries.length c).port p).entries = [] :=
    (countDrops_entries p _ c).trans hempty
  unfold isolatedPort setHealth
  rw [hc]
  split
  · next hh => exact ⟨hh, hdropped, by simp⟩
  · exact (isolatedEmpty_keeps p 0).notice ⟨by simp, by simpa [PortState.entries, PortState.engine] using hdropped, by simp⟩

/-- An isolation of the appliance port leaves no frame there, and no run (R178). -/
theorem enterIsolated_appliance (s : State) :
    UnlocksSound (enterIsolated .appliance s) ∧ (enterIsolated .appliance s).appliance.entries = [] := by
  have keeps := isolatedEmpty_keeps .appliance 0
  have hempty := isolatedPort_holds_nothing .appliance s
  have hfirst := keeps.isolateStation (n := .zero) hempty
  have hsecond := keeps.isolateStation (n := .one) hfirst
  rw [enterIsolated_eq]
  refine ⟨unlocksSound_isolated hsecond.1 fun n => ?_, hsecond.2.1⟩
  cases n with
  | zero => exact offRun_of_st (isolateStation_other .one _) (isolateStation_offRun hempty.1)
  | one => exact isolateStation_offRun hfirst.1

theorem calm_countDrops (p : Port) (k : Nat) : Calm s (countDrops p k s) := by
  induction k generalizing s with
  | zero => exact .refl s
  | succ k ih => exact (calm_countPort p _).trans ih

theorem calm_enterIsolated_control : Calm s (enterIsolated .control s) :=
  ((calm_control _).trans (calm_countDrops _ _)).trans (calm_setHealth_control _)

/-- A transmit error sends nothing, and an isolation of the appliance port discards what it holds (R178). -/
theorem permitted_transmitErrorAt (p : Port) (error : TxError) (h : UnlocksSound s) :
    UnlocksSound (transmitErrorAt p error s) ∧ Permitted s (transmitErrorAt p error s) := by
  have hcounted : Calm s (countPort p .transmitErrors (s.modPort p (fun q =>
      { q with tx := txAfter error (s.port p), wasTransmitter := true, voided := true }))) :=
    (calm_modPort_entries p (fun _ => id) Iff.rfl).trans (calm_countPort p _)
  have both {t : State} (c : Clean s t) : UnlocksSound (updateDropModes t) ∧ Permitted s (updateDropModes t) :=
    ⟨(c.calm calm_updateDropModes).sound, (c.calm calm_updateDropModes).permitted⟩
  unfold transmitErrorAt
  dsimp only
  split
  · cases p with
    | control => exact both ((Clean.of_calm h hcounted).calm calm_enterIsolated_control)
    | appliance =>
      obtain ⟨hsound, hempty⟩ := enterIsolated_appliance (countPort .appliance .transmitErrors
        (s.modPort .appliance (fun q => { q with tx := txAfter error (s.port .appliance), wasTransmitter := true, voided := true })))
      refine ⟨unlocksSound_calm hsound calm_updateDropModes, fun w f hu => ?_⟩
      obtain ⟨-, e, he, -⟩ := calm_updateDropModes.unlocks w f hu
      rw [hempty] at he
      exact absurd he List.not_mem_nil
  · exact both ((Clean.of_calm h (hcounted.trans (calm_stopped p (fun c => by cases c <;> rfl) rfl rfl))).calm (calm_followCounts p))

/-! ### The end of an isolation (R129, R179, R180) -/

theorem bladeStill_testUnlock (m : StationId) : BladeStill (testUnlock n s) m ↔ BladeStill s m := by
  unfold testUnlock
  split
  · have hsent : BladeStill (sendLidSet n .unlock
          (s.modDrive n (fun d => { d with lidCommand := some .unlock, pendingUnlock := false }))) m ↔
        BladeStill (s.modDrive n (fun d => { d with lidCommand := some .unlock, pendingUnlock := false })) m := by
      refine bladeStill_of ?_
      unfold sendLidSet
      split <;> simp
    exact hsent.trans ((calm_modDrive n rfl rfl rfl fun h => absurd h Bool.false_ne_true).bladeStill m)
  · exact Iff.rfl

/-- Both interlocks are tested, station 0's first (R129, R179). -/
theorem clean_testBoth (hoff : ∀ n, s.offRun n) : Clean s (testUnlock .one (testUnlock .zero s)) := by
  have hzero := tested_testUnlock (Unsaid.begin (hoff .zero)).said
  have hone := tested_testUnlock (Unsaid.begin (offRun_of_st (testUnlock_other .zero s) (hoff .one))).said
  have hkept : (testUnlock .one (testUnlock .zero s)).st .zero = (testUnlock .zero s).st .zero := testUnlock_other .one _
  have hhealth (n : StationId) (t : State) : (testUnlock n t).appliance.health = t.appliance.health :=
    testUnlock_health n t .appliance
  refine ⟨unlocksSound_iff.mpr fun n => ?_, by rw [hhealth, hhealth], fun w f hu => ?_⟩
  · cases n with
    | zero =>
      refine ⟨offRun_of_st hkept hzero.offRun, ?_⟩
      unfold State.waitsRightly
      rw [bladeStill_testUnlock, hkept, hhealth]
      exact hzero.waits
    | one => exact ⟨hone.offRun, hone.waits⟩
  · rw [bladeStill_testUnlock, bladeStill_testUnlock]
    obtain hu | ⟨rfl, hstill⟩ := hone.sent w f hu
    · refine (hzero.sent w f hu).imp_right fun ⟨hw, hstill⟩ => hw ▸ ?_
      exact (bladeStill_testUnlock _).mp hstill
    · exact .inr ((bladeStill_testUnlock _).mp ((bladeStill_testUnlock _).mp hstill))

end

end Sys2Proof.Machine


/-! PROOFS. The unlock interlock and the node table (R141), and the end of an isolation (R179, R180). -/

namespace Sys2Proof.Machine

open Sys2Proof

section
variable {s t u : State} {n : StationId}

/-! ### A LID node heard again (R115, R141) -/

theorem commandedState_outline (n : StationId) (t : State) : (commandedState n t).outline = t.outline := by
  have hcomposed : (composedState n t).outline = t.outline := by
    simp only [composedState]
    split <;> simp
  simp only [commandedState]
  split <;> simp [hcomposed]

/-- Where the envelope rises over an agreed speed, an unlock that waited rightly still waits. -/
theorem unsaid_recomputeEnvelope_rising (h : Unsaid s n t) (hw : t.waitsRightly n)
    (hc : (t.st n).drive.commanded = min (t.requestOf n).1 (t.st n).drive.envelope)
    (he : (t.st n).drive.envelope ≤ t.envelopeOf n) : Unsaid s n (recomputeEnvelope n t) := by
  generalize hv : t.modDrive n (fun d => { d with envelope := t.envelopeOf n }) = v
  have hcalm : Calm t v := hv ▸ calm_setEnvelope _
  have hcommanded : Unsaid s n (commandedState n v) :=
    ⟨offRun_commandedState (h.calm hcalm).offRun, fun w f hu => (h.calm hcalm).quiet w f (commandedState_quiet n v w f hu)⟩
  have hrequest : v.requestOf n = t.requestOf n := by
    rw [← hv]
    simp [State.requestOf, State.curStep]
  have hstill : BladeStill (commandedState n v) n → BladeStill t n := by
    unfold BladeStill
    rw [commandedState_drive]
    rintro ⟨hzero, hknown⟩
    simp only [composeSpeed, hrequest] at hzero hknown
    simp only [← hv, modDrive_st_drive] at hzero hknown
    exact ⟨by omega, hknown⟩
  have hwaits : (commandedState n v).waitsRightly n := by
    intro hp
    rw [commandedState_pending] at hp
    have hhealth : (commandedState n v).appliance.health = v.appliance.health :=
      health_of (commandedState_outline n v) .appliance
    rw [binding_of (commandedState_outline n v), hhealth]
    obtain hw | hw | hw := waitsRightly_calm hw hcalm hp
    · exact .inl fun hb => hw ((hcalm.bladeStill n).mpr (hstill hb))
    · exact .inr (.inl hw)
    · exact .inr (.inr hw)
  have hserved : testUnlock n (commandedState n v) = commandedState n v := by
    refine testUnlock_waits ?_
    by_cases hp : ((commandedState n v).st n).drive.pendingUnlock = true
    · exact .inr (hwaits hp)
    · exact .inl (by simpa using hp)
  rw [recomputeEnvelope, hv, recomputeDrive_commanded, hserved, ite_self]
  exact hcommanded

/-- A LID node heard again tells at least as much of a locked lid as before. -/
theorem lidLocked_heard {i : Nat} {e : NodeEntry} (hs : NodesSound s) (he : s.entryAt i = some e) (h : s.lidLocked n = true) :
    (s.setEntry i (some { e with age := 0, silent := false })).lidLocked n = true := by
  have ht : NodesSound (s.setEntry i (some { e with age := 0, silent := false })) :=
    nodesSound_setEntry_same hs he rfl (fun hl => ⟨((hs.2.1 i e he).2.2 hl).1, rfl⟩) fun _ _ _ hm => hm
  have hsilent : (s.setEntry i (some { e with age := 0, silent := false })).silent n .lid = true → s.silent n .lid = true := by
    rw [lidSilent_iff hs, lidSilent_iff ht, setEntry_st]
    rintro ⟨k, hk, j, g, hg, hnumber, hquiet⟩
    refine ⟨k, hk, j, g, ?_, hnumber, hquiet⟩
    by_cases hj : i = j
    · subst hj
      rw [entryAt_setEntry_same (entryAt_lt he)] at hg
      cases hg
      cases hquiet
    · rwa [entryAt_setEntry_ne hj] at hg
  unfold State.lidLocked at h ⊢
  rw [setEntry_st]
  simp only [Bool.and_eq_true, Bool.not_eq_true'] at h ⊢
  obtain ⟨⟨hbound, hheard⟩, hlocked⟩ := h
  exact ⟨⟨hbound, by by_contra hc; exact absurd (hheard.symm.trans (hsilent (by simpa using hc))) (by decide)⟩, hlocked⟩

theorem envelopeOf_le (hst : t.st n = s.st n) (h : s.lidLocked n = true → t.lidLocked n = true) :
    s.envelopeOf n ≤ t.envelopeOf n := by
  simp only [State.envelopeOf, hst]
  cases hs : s.lidLocked n <;> cases ht : t.lidLocked n <;> simp_all

/-- A piece of an event that sends no unlock. -/
structure Reticent (s t : State) : Prop where
  sound : UnlocksSound t
  quiet : Quiet s t
  health : t.appliance.health = .isolated ↔ s.appliance.health = .isolated

theorem Reticent.of_calm (hs : UnlocksSound s) (c : Calm s t) : Reticent s t := ⟨unlocksSound_calm hs c, c.unlocks, c.health⟩

/-- A frame that ends a silence sends no unlock (R141). -/
theorem reticent_hearNode {i : Nat} {e : NodeEntry} (hs : NodesSound s) (hd : DriveSound s) (hu : UnlocksSound s)
    (he : s.entryAt i = some e) : Reticent s (hearNode i e s) := by
  have hwritten : Calm s (s.setEntry i (some { e with age := 0, silent := false })) := calm_aside (by simp) (by simp)
  generalize hv : s.setEntry i (some { e with age := 0, silent := false }) = v at hwritten
  have hst (m : StationId) : v.st m = s.st m := by rw [← hv]; exact setEntry_st ..
  have hsound : UnlocksSound v := unlocksSound_calm hu hwritten
  have told {m : StationId} {t : State} (h : Tested v m t) (hq : Quiet v t) (hother : t.st (otherStation m) = v.st (otherStation m))
      (hh : t.appliance.health = v.appliance.health) : Reticent s t :=
    ⟨(Clean.of_tested hsound h hother hh).sound, fun w f ht => hwritten.unlocks w f (hq w f ht),
      (Clean.of_tested hsound h hother hh).health.trans hwritten.health⟩
  unfold hearNode
  dsimp only
  rw [hv]
  split
  · split
    · next m r hm =>
      obtain ⟨hoff, hwaits⟩ := unlocksSound_iff.mp hsound m
      cases r with
      | drive =>
        have hquiet : Unsaid v m (roleHeard m .drive v) :=
          (Unsaid.begin hoff).modDrive (fun d => { d with spinDown := none, spinDownElapsed := false }) id
        refine told ⟨hquiet.said, fun hp => ?_⟩ hquiet.quiet (by simp) (by simp [roleHeard])
        have hless : BladeStill (roleHeard m .drive v) m → BladeStill v m := by
          simp only [BladeStill, roleHeard, modDrive_st_drive]
          exact fun ⟨hzero, hknown⟩ => ⟨hzero, .inl (hknown.resolve_right Bool.false_ne_true)⟩
        have hcases := hwaits (by simpa [roleHeard] using hp)
        simpa [roleHeard] using hcases.imp_left (mt hless)
      | heater => exact .of_calm hu (hwritten.trans ((calm_followDemand m).trans calm_recomputeArbiter))
      | weigh => exact .of_calm hu hwritten
      | thermo => exact .of_calm hu hwritten
      | lid =>
        obtain ⟨henv, hreq, -, hcom, -⟩ := hd m
        have hrequest : v.requestOf m = s.requestOf m := by simp only [State.requestOf, State.curStep, hst]
        have hunsaid := unsaid_recomputeEnvelope_rising (Unsaid.begin hoff) hwaits (by rw [hst, hrequest, hcom, hreq])
          (by rw [hst, henv]; exact envelopeOf_le (hst m) (hv ▸ lidLocked_heard hs he))
        exact told (tested_recomputeEnvelope (Unsaid.begin hoff)) hunsaid.quiet (by simp [roleHeard])
          (recomputeEnvelope_health m v .appliance)
    · exact .of_calm hu hwritten
  · exact .of_calm hu hwritten

end

end Sys2Proof.Machine


/-! PROOFS. The rule of the unlock interlock, for every piece of an event (R128, R129). -/

namespace Sys2Proof.Machine

open Sys2Proof

section
variable {s t u : State} {n : StationId}

/-! ### The end of an isolation (R179, R180) -/

/-- What follows the end of an isolation of the appliance port: the waiting unlocks go out over the blades as they are. -/
theorem released_testBoth (hs : UnlocksSound s) (hst : ∀ n, t.st n = s.st n) (hq : Quiet s t)
    (hi : s.appliance.health = .isolated) (hl : t.appliance.health ≠ .isolated) :
    UnlocksSound (testUnlock .one (testUnlock .zero t)) ∧ Released s (testUnlock .one (testUnlock .zero t)) := by
  have hclean : Clean t (testUnlock .one (testUnlock .zero t)) :=
    clean_testBoth fun n => offRun_of_st (hst n) (unlocksSound_iff.mp hs n).1
  refine ⟨hclean.sound, fun w f hu => ?_⟩
  obtain hu | hstill := hclean.sent w f hu
  · exact .inl (hq w f hu)
  · rw [bladeStill_testUnlock, bladeStill_testUnlock] at hstill
    exact .inr ⟨(bladeStill_of (s := s) (by rw [hst])).mp hstill, hi, by rwa [ne_eq, hclean.health]⟩

theorem calm_leftIsolation_control : Calm s (leftIsolation .control s) := by
  unfold leftIsolation
  dsimp only
  split
  · exact .refl s
  · exact calm_originateNotice

/-- A piece that leaves the interlock alone keeps its rule. -/
theorem released_of_calm (hs : UnlocksSound s) (c : Calm s t) : UnlocksSound t ∧ Released s t :=
  ⟨unlocksSound_calm hs c, fun w f hu => .inl (c.unlocks w f hu)⟩

/-- An ISOLATED appliance port that joins shows its health and nothing more to the interlock. -/
theorem setHealth_joining (h : s.appliance.health = .isolated) : (setHealth .appliance .joining s).appliance.health = .joining ∧
    Quiet s (setHealth .appliance .joining s) := by
  have hne : (s.port .appliance).health ≠ .joining := by
    change s.appliance.health ≠ .joining
    rw [h]
    decide
  have hhealth := setNotice_health .portChange (s.modPort .appliance (fun q => { q with health := .joining })) .appliance
  rw [port_modPort] at hhealth
  have hsame : ∀ e ∈ (s.modPort .appliance (fun q => { q with health := .joining })).appliance.entries, e ∈ s.appliance.entries :=
    fun _ he => he
  rw [setHealth_changes hne]
  exact ⟨hhealth, fun w f hu => PortState.unlocks_of_entries hsame ((calm_setNotice .portChange).unlocks w f hu)⟩

theorem released_recoverPort (p : Port) (hs : UnlocksSound s) (h : (s.port p).health = .isolated) :
    UnlocksSound (recoverPort p s) ∧ Released s (recoverPort p s) := by
  have hstopped : Calm s (s.modPort p (fun q => { q with
      tx := 0, rx := 0, idleBits := 0, goodFrames := 0, activity := .idle, voided := false })) :=
    calm_stopped p (fun c => by cases c <;> rfl) rfl rfl
  have hst (n : StationId) : (s.modPort p (fun q => { q with
      tx := 0, rx := 0, idleBits := 0, goodFrames := 0, activity := .idle, voided := false })).st n = s.st n := modPort_st ..
  unfold recoverPort
  generalize s.modPort p (fun q => { q with
    tx := 0, rx := 0, idleBits := 0, goodFrames := 0, activity := .idle, voided := false }) = v at hstopped hst ⊢
  cases p with
  | control => exact released_of_calm hs ((hstopped.trans (calm_setHealth_control _)).trans calm_leftIsolation_control)
  | appliance =>
    obtain ⟨hjoining, hquiet⟩ := setHealth_joining (hstopped.health.mpr h)
    refine released_testBoth hs (fun n => by rw [setHealth_st, hst]) (fun w f hu => hstopped.unlocks w f (hquiet w f hu)) h ?_
    rw [hjoining]
    decide

theorem released_recoverIfMet (p : Port) (hs : UnlocksSound s) :
    UnlocksSound (recoverIfMet p s) ∧ Released s (recoverIfMet p s) := by
  unfold recoverIfMet
  split
  · next h => exact released_recoverPort p hs h.1
  · exact released_of_calm hs (.refl s)

theorem Released.after_calm (c : Calm s t) (h : Released t u) : Released s u := by
  intro w f hu
  rw [← c.bladeStill, ← c.health]
  exact (h w f hu).imp_left (c.unlocks w f)

theorem released_goodFrameAt (p : Port) (hs : UnlocksSound s) : UnlocksSound (goodFrameAt p s) ∧ Released s (goodFrameAt p s) := by
  have hcounted : Calm s (followCounts p (s.modPort p (fun q => { q with
      activity := .idle, wasTransmitter := false, voided := false, errorMark := none
      acknowledged := acknowledges q.health, rx := rxDown q.rx
      goodFrames := if q.health = .isolated then q.goodFrames + 1 else q.goodFrames }))) :=
    (calm_stopped p (fun c => by cases c <;> rfl) rfl rfl).trans (calm_followCounts p)
  obtain ⟨hsound, hreleased⟩ := released_recoverIfMet p (unlocksSound_calm hs hcounted)
  exact ⟨hsound, hreleased.after_calm hcounted⟩

theorem released_restartPort (p : Port) (hs : UnlocksSound s) : UnlocksSound (restartPort p s) ∧ Released s (restartPort p s) := by
  generalize hv : stopSending p (s.modPort p (fun q => { q with
    tx := 0, rx := 0, idleBits := 0, goodFrames := 0, wasTransmitter := false, errorMark := none, voided := false })) = v
  have hstopped : Calm s v := by
    rw [← hv]
    exact (calm_modPort_entries p (fun _ => id) Iff.rfl).trans (calm_stopSending p)
  have hst (n : StationId) : v.st n = s.st n := by rw [← hv]; simp
  generalize hw : setNotice .portChange (v.modPort p (fun q => { q with health := .joining })) = w
  have hrestart : restartPort p s = if (s.port p).health = .isolated then leftIsolation p w else w := by
    rw [← hw, ← hv]
    rfl
  rw [hrestart]
  cases p with
  | control =>
    have hcalm : Calm s w := by
      rw [← hw]
      exact hstopped.trans ((calm_control _).trans (calm_setNotice _))
    split
    · exact released_of_calm hs (hcalm.trans calm_leftIsolation_control)
    · exact released_of_calm hs hcalm
  | appliance =>
    have hsame : ∀ e ∈ (v.modPort .appliance (fun q => { q with health := .joining })).appliance.entries, e ∈ v.appliance.entries :=
      fun _ he => he
    have hjoining : w.appliance.health = .joining := by
      have hhealth := setNotice_health .portChange (v.modPort .appliance (fun q => { q with health := .joining })) .appliance
      rw [hw, port_modPort] at hhealth
      exact hhealth
    split
    · next hi =>
      refine released_testBoth hs (fun n => by rw [← hw]; simp [hst]) (fun x f hu => ?_) hi (by rw [hjoining]; decide)
      rw [← hw] at hu
      exact hstopped.unlocks x f (PortState.unlocks_of_entries hsame ((calm_setNotice .portChange).unlocks x f hu))
    · next hi =>
      have hlive : ¬ v.appliance.health = .isolated := fun hc => hi (hstopped.health.mp hc)
      have hjoined : Calm v (v.modPort .appliance (fun q => { q with health := .joining })) :=
        calm_modPort_entries .appliance hsame (iff_of_false (show ¬ Health.joining = .isolated by decide) hlive)
      refine released_of_calm hs (hstopped.trans ?_)
      rw [← hw]
      exact hjoined.trans (calm_setNotice _)

/-! ### The node table and the passing of time -/

theorem calm_setEntry (i : Nat) (o : Option NodeEntry) : Calm s (s.setEntry i o) := calm_aside (by simp) (by simp)

theorem calm_removeEntry (i : Nat) : Calm s (removeEntry i s) := by
  unfold removeEntry
  split
  · have hfreed (m : StationId) (k : NodeId) (v : State) :
        Calm v (v.modSt m (fun st => if st.lockHolder = some k then { st with lockHolder := none } else st)) :=
      calm_station m _ (by split <;> rfl) (by split <;> rfl) (by split <;> rfl)
    exact (calm_setEntry i none).trans ((hfreed .zero _ _).trans (hfreed .one _ _))
  · exact .refl s

theorem calm_removeWhere (p : NodeEntry → Bool) : Calm s (removeWhere p s) := by
  have hone (i : Nat) (v : State) : Calm v (removeIf p i v) := by
    unfold removeIf
    split
    · split
      · exact calm_removeEntry i
      · exact .refl v
    · exact .refl v
  rw [removeWhere_eq_removeBelow]
  generalize 16 = m
  induction m with
  | zero => exact .refl s
  | succ m ih => exact ih.trans (hone m _)

theorem released_applyPortItem (p : Port) (id v : Nat) (hs : UnlocksSound s) :
    UnlocksSound (applyPortItem p id v s) ∧ Released s (applyPortItem p id v s) := by
  have hset : Calm s (s.modPort p (fun q => { q with cfg := setPortItem q.cfg id v })) :=
    calm_modPort_entries p (fun _ he => he) Iff.rfl
  have hlimit : Calm s { s with ageLimit := v } := calm_aside (fun n => by cases n <;> rfl) rfl
  unfold applyPortItem
  dsimp only
  (repeat' split)
  · exact released_of_calm hs (hlimit.trans (calm_removeWhere _))
  · exact released_of_calm hs (hset.trans (calm_updateDropMode p))
  · obtain ⟨hsound, hreleased⟩ := released_recoverIfMet p (unlocksSound_calm hs hset)
    exact ⟨hsound, hreleased.after_calm hset⟩
  · exact released_of_calm hs hset

theorem stationMs_state (st : Station) : (stationMs st).run.state = st.run.state := by
  have helapsed (r : RunContext) : (elapseMs r).state = r.state := by
    unfold elapseMs
    (repeat' split) <;> rfl
  have hwarm (r : RunContext) : (warmOneMs r).state = r.state := by
    unfold warmOneMs
    (repeat' split) <;> rfl
  have hdeadline (r : RunContext) : (deadlineMs r).state = r.state := by
    unfold deadlineMs
    split <;> rfl
  exact (hdeadline _).trans ((hwarm _).trans (helapsed _))

theorem calm_passMs : Calm s (passMs s) := by
  have hport (q : PortState) : (portMs q).entries = q.entries ∧ (portMs q).health = q.health := by
    unfold portMs
    split <;> exact ⟨rfl, rfl⟩
  have hst (n : StationId) : (passMs s).st n = stationMs (s.st n) := by cases n <;> rfl
  refine ⟨fun n => by rw [hst]; rfl, fun n => by rw [hst]; rfl, fun n => by rw [hst]; rfl, fun n h => ?_,
    fun n => by rw [hst]; rfl, fun w f => PortState.unlocks_of_entries (by rw [← (hport s.appliance).1]; exact fun _ => id), ?_⟩
  · rw [hst] at h ⊢
    exact ⟨h, .inl (stationMs_state _)⟩
  · rw [← (hport s.appliance).2]
    rfl

/-- An entry that falls silent tells the station that holds its node (R140). -/
theorem clean_becomeSilent (i : Nat) (e : NodeEntry) (hs : UnlocksSound s) : Clean s (becomeSilent i e s) := by
  have hmarked : Calm s (setNotice .nodeSilent (s.setEntry i (some { e with silent := true }))) :=
    (calm_setEntry i _).trans (calm_setNotice _)
  unfold becomeSilent
  dsimp only
  split
  · next m r _ =>
    have hsound := unlocksSound_calm hs hmarked
    obtain ⟨hoff, hwaits⟩ := unlocksSound_iff.mp hsound m
    have htested := tested_roleSilent r (Unsaid.begin hoff) ⟨(Unsaid.begin hoff).said, hwaits⟩
    exact Clean.after_calm hmarked (Clean.of_tested hsound htested (by simp) (roleSilent_health m r _ .appliance))
  · exact .of_calm hs hmarked

end

end Sys2Proof.Machine


/-! PROOFS. Every step sends an unlock over a still blade alone (R128, R129). -/

namespace Sys2Proof.Machine

open Sys2Proof

section
variable {s t u : State} {n : StationId}

/-! ### What one station is told -/

/-- An operation on one station begins with what its interlock has tested. -/
theorem Clean.of_station (hs : UnlocksSound s) (h : Unsaid s n s → Tested s n s → Tested s n t)
    (hother : t.st (otherStation n) = s.st (otherStation n)) (hout : t.outline = s.outline) : Clean s t := by
  obtain ⟨hoff, hwaits⟩ := unlocksSound_iff.mp hs n
  exact .of_tested hs (h (.begin hoff) ⟨(Unsaid.begin hoff).said, hwaits⟩) hother (health_of hout .appliance)

theorem clean_takeWeighSample (x : WeighSample) (hs : UnlocksSound s) : Clean s (takeWeighSample n x s) :=
  .of_station (n := n) hs (tested_takeWeighSample x) (by simp) (by simp)

theorem clean_takeThermoSample (x : Int) (fault : Bool) (hs : UnlocksSound s) : Clean s (takeThermoSample n x fault s) :=
  .of_station (n := n) hs (tested_takeThermoSample x fault) (by simp) (by simp)

theorem clean_takeDriveState (r : DriveReport) (hs : UnlocksSound s) : Clean s (takeDriveState n r s) :=
  .of_station (n := n) hs (fun h _ => tested_takeDriveState r h) (by simp) (by simp)

theorem clean_takeHeatState (r : HeatReport) (hs : UnlocksSound s) : Clean s (takeHeatState n r s) :=
  .of_station (n := n) hs (fun _ h => tested_takeHeatState r h) (by simp) (by simp)

theorem clean_takeLidState (r : LidReport) (hs : UnlocksSound s) : Clean s (takeLidState n r s) :=
  .of_station (n := n) hs (fun h _ => tested_takeLidState r h) (by simp) (by simp)

theorem clean_guardDemand {k : BitVec 5} {pl : List Byte} {demand : StationId → State → State}
    (hd : guardDemand k pl = some demand) (hi : (s.st n).run.state = .idle) (hs : UnlocksSound s) : Clean s (demand n s) := by
  unfold guardDemand at hd
  split at hd
  · obtain ⟨x, -, rfl⟩ := Option.map_eq_some_iff.mp hd
    exact .of_station (n := n) hs (fun h _ => tested_manualSpeed _ _ h) (by simp) (by simp)
  · split at hd
    · obtain ⟨x, -, rfl⟩ := Option.map_eq_some_iff.mp hd
      exact .of_calm hs (calm_manualHeat _)
    · obtain ⟨x, -, rfl⟩ := Option.map_eq_some_iff.mp hd
      exact .of_station (n := n) hs (fun _ h => tested_manualLid _ hi h) (by simp) (by simp)

/-! ### The arrival of a frame (R154) -/

theorem calm_enqueueTransit (p : Port) (c : QClass) (f : Frame) : Calm s (enqueueTransit p c f s) := by
  unfold enqueueTransit
  split
  · exact calm_countPort _ _
  · refine calm_modPort _ (fun w g hu => ?_) (by rw [modQueue_health])
    obtain ⟨hpay, e, he, ho, hg⟩ := hu
    obtain hq | hq := mem_entries_modQueue he
    · obtain hq | hq := List.mem_append.mp hq
      · exact ⟨hpay, e, mem_entries_of_queue hq, ho, hg⟩
      · obtain rfl := List.mem_singleton.mp hq
        cases ho
    · exact ⟨hpay, e, hq, ho, hg⟩

theorem calm_forwardPart (p : Port) (rc : RouteClass) (f : Frame) : Calm s (forwardPart p rc f s) := by
  simp only [forwardPart]
  (repeat' split)
  · exact calm_countPort _ _
  · exact (calm_countPort _ _).trans (calm_setNotice _)
  · exact calm_enqueueTransit _ _ _

theorem clean_deliver {p : Port} {src : NodeId} {role : Role} {give : StationId → State → State} (hs : UnlocksSound s)
    (h : ∀ n, Clean s (give n s)) : Clean s (deliver p src role give s) := by
  unfold deliver
  (repeat' split)
  · exact .of_calm hs (calm_countPort _ _)
  · exact h _
  · exact .of_calm hs (calm_countPort _ _)

theorem calm_takeRequest (p : Port) (f : Frame) : Calm s (takeRequest p f s) := by
  unfold takeRequest joinRequests
  (repeat' split)
  · exact calm_countPort _ _
  · exact calm_aside (fun n => by cases n <;> rfl) rfl
  · exact calm_countPort _ _
  · exact calm_countPort _ _

theorem clean_takePart (p : Port) (f : Frame) (counts : Bool) (hs : UnlocksSound s) : Clean s (takePart p f counts s) := by
  have counted (c : PortCounter) : Clean s (countPort p c s) := .of_calm hs (calm_countPort _ _)
  unfold takePart
  split
  · split
    · exact clean_deliver hs fun n => clean_takeWeighSample _ hs
    · exact counted _
  split
  · split
    · exact clean_deliver hs fun n => clean_takeThermoSample _ _ hs
    · exact counted _
  split
  · split
    · exact clean_deliver hs fun n => clean_takeDriveState _ hs
    · exact counted _
  split
  · split
    · exact clean_deliver hs fun n => clean_takeHeatState _ hs
    · exact counted _
  split
  · split
    · exact clean_deliver hs fun n => clean_takeLidState _ hs
    · exact counted _
  split
  · exact .of_calm hs (calm_takeRequest _ _)
  split
  · exact counted _
  · exact .of_calm hs (.refl s)

theorem clean_guardFrame (p : Port) (rc : RouteClass) (f : Frame) (hs : UnlocksSound s) : Clean s (guardFrame p rc f s) := by
  unfold guardFrame
  split
  · exact .of_calm hs (calm_forwardPart _ _ _)
  · split
    · exact .of_calm hs (calm_countPort _ _)
    · next hd =>
      split
      · next hi => exact clean_guardDemand hd hi hs
      · exact .of_calm hs (calm_countStation _ _)

theorem clean_routeFrame (p : Port) (f : Frame) (hs : UnlocksSound s) : Clean s (routeFrame p f s) := by
  simp only [routeFrame]
  split
  · exact .of_calm hs (calm_forwardPart _ _ _)
  · exact .of_calm hs (calm_countPort _ _)
  · exact clean_takePart _ _ _ hs
  · exact (clean_takePart _ _ _ hs).calm (calm_forwardPart _ _ _)
  · exact clean_guardFrame _ _ _ hs

theorem calm_admitUnknown (p : Port) (k : NodeId) : Calm s (admitUnknown p k s).1 := by
  unfold admitUnknown
  (repeat' split)
  · exact calm_countPort _ _
  · exact calm_setEntry _ _
  · exact .refl s
  · exact calm_countPort _ _

theorem calm_admitMoved (p : Port) (i : Nat) (k : NodeId) : Calm s (admitMoved p i k s).1 := by
  unfold admitMoved
  (repeat' split)
  · exact calm_countPort _ _
  · exact calm_setEntry _ _
  · exact calm_removeEntry _
  · exact calm_countPort _ _

theorem reticent_admitSource (p : Port) (k : NodeId) (hn : NodesSound s) (hd : DriveSound s) (hs : UnlocksSound s) :
    Reticent s (admitSource p k s).1 := by
  unfold admitSource
  (repeat' split)
  · exact .of_calm hs (calm_countPort _ _)
  · exact .of_calm hs (calm_admitUnknown _ _)
  · exact .of_calm hs (calm_admitUnknown _ _)
  · next e he _ => exact reticent_hearNode hn hd hs he
  · exact .of_calm hs (calm_countPort _ _)
  · exact .of_calm hs (calm_admitMoved _ _ _)

theorem Released.reticent (h : Released s t) (g : Reticent t u) : Released s u := by
  intro w f hu
  rw [ne_eq, g.health]
  exact h w f (g.quiet w f hu)

/-- A frame is handed on after its good arrival has ended an isolation (notes/assumptions/9.md). -/
theorem permitted_arrive (p : Port) (f : Frame) (hn : NodesSound t) (hd : DriveSound t) (hs : UnlocksSound t)
    (h : Released s t) : UnlocksSound (arrive p f t) ∧ Permitted s (arrive p f t) := by
  have hcounted : Calm t (countPort p .received t) := calm_countPort _ _
  have hmove : Move t (countPort p .received t) := .countPort _ _
  have hadmitted := reticent_admitSource p f.source (nodesSound_sketch hn (move_sketch hmove))
    (fun m => move_driven hn hmove m (hd m)) (unlocksSound_calm hs hcounted)
  have hreleased := (h.calm hcounted).reticent hadmitted
  unfold arrive
  dsimp only
  split
  · have hfull := hcounted.trans ((calm_countPort p .noBuffer).trans (calm_setNotice .drops))
    exact ⟨unlocksSound_calm hs hfull, (h.calm hfull).permitted⟩
  · split
    · have hrouted := (clean_routeFrame p f hadmitted.sound).calm (calm_updateDropMode p)
      exact ⟨hrouted.sound, hreleased.clean hrouted⟩
    · exact ⟨unlocksSound_calm hadmitted.sound (calm_updateDropMode p), (hreleased.calm (calm_updateDropMode p)).permitted⟩

end

end Sys2Proof.Machine


/-! PROOFS. The unlock interlock over every step (R128, R129): each command is one piece, one request, one reset, or one of the
three chains of an arrival, a won arbitration and a weight report. -/

namespace Sys2Proof.Machine

open Sys2Proof

/-- The rule of the interlock, kept and obeyed. -/
def Lawful (s t : State) : Prop := UnlocksSound t ∧ Permitted s t

section
variable {s t u : State} {n : StationId}

theorem Clean.lawful (c : Clean s t) : Lawful s t := ⟨c.sound, c.permitted⟩

theorem Calm.lawful (c : Calm s t) (hs : UnlocksSound s) : Lawful s t := (Clean.of_calm hs c).lawful

theorem lawful_of_released (h : UnlocksSound t ∧ Released s t) : Lawful s t := ⟨h.1, h.2.permitted⟩

theorem Lawful.after_calm (c : Calm s t) (h : Lawful t u) : Lawful s u := ⟨h.1, h.2.after_calm c⟩

theorem Lawful.calm (h : Lawful s t) (c : Calm t u) : Lawful s u := ⟨unlocksSound_calm h.1 c, h.2.calm c⟩

theorem running_of_inPhase {p : Phase} (h : (s.st n).inPhase p = true) : (s.st n).run.state = .running :=
  ((inPhase_iff _ p).mp h).1

/-! ### The pieces of the events -/

theorem clean_stepTimer (o : StepOutcome) (h : (s.st n).inPhase .active = true) (hs : UnlocksSound s) :
    Clean s (finishStep n o false (s.modRun n (fun r => { r with elapsed := r.effLimit.getD r.elapsed, tenthMs := 0 }))) :=
  .of_station (n := n) hs (fun hu _ => tested_finishStep _ _ ((hu.muted (.inl (running_of_inPhase h))).modRun _)) (by simp) (by simp)

theorem clean_reversal (f : RunContext → RunContext) (h : (s.st n).inPhase .active = true) (hs : UnlocksSound s) :
    Clean s (recomputeDrive n (s.modRun n f)) :=
  .of_station (n := n) hs (fun hu _ => ((hu.muted (.inl (running_of_inPhase h))).modRun f).recomputeDrive.tested) (by simp) (by simp)

theorem clean_basingDeadline (f : RunContext → RunContext) (h : (s.st n).inPhase .basing = true) (hs : UnlocksSound s) :
    Clean s (leaveBasing n (s.modRun n f)) :=
  .of_station (n := n) hs (fun hu _ => ((hu.muted (.inl (running_of_inPhase h))).modRun f).leaveBasing.tested) (by simp) (by simp)

theorem lawful_hearNode {i : Nat} {e : NodeEntry} (hn : NodesSound s) (hd : DriveSound s) (hs : UnlocksSound s)
    (he : s.entryAt i = some e) : Lawful s (hearNode i e s) := by
  have hr := reticent_hearNode hn hd hs he
  exact ⟨hr.sound, ((Released.refl s).reticent hr).permitted⟩

theorem calm_sendWeightReport : Calm s (sendWeightReport n s) := calm_originate nofun

/-- Every piece of an event keeps the rule of the interlock. -/
theorem move_lawful (hn : NodesSound s) (hd : DriveSound s) (hs : UnlocksSound s) (h : Move s t) : Lawful s t := by
  cases h with
  | pending | requests => exact (calm_aside (fun n => by cases n <;> rfl) rfl).lawful hs
  | passMs => exact calm_passMs.lawful hs
  | countPort p c => exact (calm_countPort p c).lawful hs
  | countStation n c => exact (calm_countStation n c).lawful hs
  | setNotice b => exact (calm_setNotice b).lawful hs
  | updateDropMode p => exact (calm_updateDropMode p).lawful hs
  | goodFrame p => exact lawful_of_released (released_goodFrameAt p hs)
  | receiveError p error => exact (calm_receiveErrorAt p error).lawful hs
  | startMark p => exact (calm_stopped p (fun c => by cases c <;> rfl) rfl rfl).lawful hs
  | transmissionStart p => exact (calm_transmissionStart p).lawful hs
  | lostArbitration p e h => exact (calm_lostArbitration h).lawful hs
  | wonArbitration p e h => exact (calm_wonArbitration h).lawful hs
  | emptyAccumulator => exact (calm_aside (fun n => by cases n <;> rfl) rfl).lawful hs
  | completed p => exact (calm_completed p).lawful hs
  | transmitError p error => exact permitted_transmitErrorAt p error hs
  | joined p h => exact (calm_setHealth (iff_of_false (by decide) (by rw [h]; decide))).lawful hs
  | recover p h => exact lawful_of_released (released_recoverPort p hs h)
  | stepTimer n o h => exact (clean_stepTimer o h hs).lawful
  | reversal n at' d h => exact (clean_reversal _ h hs).lawful
  | lockingDeadline n h =>
    exact (Clean.of_station (n := n) hs (fun hu _ => tested_enterFault _ _ _ hu.said) (by simp) (by simp)).lawful
  | basingDeadline n h => exact (clean_basingDeadline _ h hs).lawful
  | warmingLimit n h => exact (Clean.of_station (n := n) hs (fun hu _ => tested_enterIdle _ _ hu) (by simp) (by simp)).lawful
  | endOp n o => exact (calm_endOp n o).lawful hs
  | dropManualSpeed n =>
    exact (Clean.of_station (n := n) hs (fun hu _ => tested_dropManualSpeed hu) (by simp) (by simp)).lawful
  | dropManualHeat n => exact (calm_dropManualHeat n).lawful hs
  | spinDown n => exact (Clean.of_station (n := n) hs (fun hu _ => tested_spinDown hu) (by simp) (by simp)).lawful
  | refresh n => exact (Clean.of_station (n := n) hs (fun hu _ => tested_refresh hu _) (by simp) (by simp)).lawful
  | reportTimer n => exact (calm_station n _ rfl rfl rfl).lawful hs
  | weightReport n => exact calm_sendWeightReport.lawful hs
  | removeLearned i => exact (calm_removeEntry i).lawful hs
  | becomeSilent i e => exact (clean_becomeSilent i e hs).lawful
  | hearNode i e he => exact lawful_hearNode hn hd hs he
  | learn | moveLearned => exact (calm_setEntry _ _).lawful hs
  | enqueue p c f => exact (calm_enqueueTransit p c f).lawful hs
  | weighSample n x => exact (clean_takeWeighSample x hs).lawful
  | thermoSample n x fault => exact (clean_takeThermoSample x fault hs).lawful
  | driveState n r => exact (clean_takeDriveState r hs).lawful
  | heatState n r => exact (clean_takeHeatState r hs).lawful
  | lidState n r => exact (clean_takeLidState r hs).lawful
  | manualSpeed n v dir => exact (Clean.of_station (n := n) hs (fun hu _ => tested_manualSpeed v dir hu) (by simp) (by simp)).lawful
  | manualHeat n w => exact (calm_manualHeat w).lawful hs
  | manualLid n c h => exact (Clean.of_station (n := n) hs (fun _ ht => tested_manualLid c h ht) (by simp) (by simp)).lawful

/-! ### The requests -/

/-- An operation on one station that keeps the health of the appliance port. -/
theorem clean_at (hs : UnlocksSound s) (h : Unsaid s n s → Tested s n s → Tested s n t)
    (hother : t.st (otherStation n) = s.st (otherStation n)) (hhealth : t.appliance.health = s.appliance.health) : Clean s t := by
  obtain ⟨hoff, hwaits⟩ := unlocksSound_iff.mp hs n
  exact .of_tested hs (h (.begin hoff) ⟨(Unsaid.begin hoff).said, hwaits⟩) hother hhealth

theorem clean_bindStation (new : Binding) (hs : UnlocksSound s) : Clean s (bindStation n new s) :=
  clean_at (n := n) hs (fun hu ht => tested_bindStation new hu ht) (by simp [bindStation])
    ((health_of (bindStation_outline ..) .appliance).trans (by simp [State.port]))

theorem clean_applyLimit (id v : Nat) (hs : UnlocksSound s) : Clean s (applyLimit n id v s) :=
  clean_at (n := n) hs (fun hu ht => tested_applyLimit id v hu ht) (applyLimit_other ..)
    ((health_of (applyLimit_outline ..) .appliance).trans (by simp [State.port]))

theorem calm_applyWeighItem (id : Nat) (v : Int) : Calm s (applyWeighItem n id v s) := by
  have hset : Calm s (s.modSt n (fun st => { st with weighCfg := setWeighItem st.weighCfg id v })) := calm_station n _ rfl rfl rfl
  unfold applyWeighItem
  dsimp only
  (repeat' split)
  · exact hset.trans (calm_modWeigh n _)
  · exact hset.trans (calm_modWeigh n _)
  · exact hset

theorem calm_setBudget (w : Nat) : Calm s (setBudget w s) := (calm_arbiter.arbiter s _ (.refl s)).trans calm_recomputeArbiter

theorem calm_startCapture (op : WeighOp) (mass : Option Int) : Calm s (startCapture n op mass s) :=
  (Calm.skip (.refl s) (calm_endOp n _)).trans (calm_modWeigh n _)

theorem calm_enableNotices (en : BitVec 16) : Calm s (enableNotices en s) := by
  have hset (x : Notices) : Calm s { s with notices := x } := calm_aside (fun n => by cases n <;> rfl) rfl
  unfold enableNotices
  dsimp only
  split
  · exact hset _
  · exact (hset _).trans calm_originateNotice

theorem clean_writeEntry (i : Nat) (e : NodeEntry) (hs : UnlocksSound s) : Clean s (writeEntry i e s) := by
  have hset := calm_setEntry (s := s) i (some e)
  unfold writeEntry
  dsimp only
  split
  · exact (clean_becomeSilent i e (unlocksSound_calm hs hset)).after_calm hset
  · exact .of_calm hs hset

theorem clean_nodeWrite (k : NodeId) (p : Port) (limit : Nat) (hs : UnlocksSound s) : Clean s (nodeWrite k p limit s).1 := by
  obtain h | ⟨i, e, -, -, -, h⟩ | ⟨i, -, -, h⟩ := nodeWrite_cases k p limit s
  · rw [h]
    exact .of_calm hs (.refl s)
  · rw [h]
    exact clean_writeEntry _ _ hs
  · rw [h]
    exact clean_writeEntry _ _ hs

/-- The effect of every request keeps the rule of the interlock. -/
theorem effect_lawful (hs : UnlocksSound s) (h : Effect s t) : Lawful s t := by
  have retable {n : StationId} {f : Station → Station} (hd : (f (s.st n)).drive = (s.st n).drive)
      (hb : (f (s.st n)).binding = (s.st n).binding) (hr : (f (s.st n)).run.state = (s.st n).run.state) :
      Lawful s (s.modSt n f) := (calm_station n f hd hb hr).lawful hs
  have aside {t : State} (hst : ∀ n, t.st n = s.st n) (ha : t.appliance = s.appliance) : Lawful s t :=
    (calm_aside hst ha).lawful hs
  cases h with
  | unchanged => exact (Calm.refl s).lawful hs
  | lock | unlock | storeStep | recipeLength | recipeClear | heatItem | zeroStation | reportInterval => exact retable rfl rfl rfl
  | start n q first =>
    exact (Clean.of_station (n := n) hs (fun hu _ => tested_startStation first hu) (by simp) (by simp)).lawful
  | pause n h =>
    exact (Clean.of_station (n := n) hs (fun hu _ => ((hu.muted (.inl h)).pauseStation _).tested) (by simp) (by simp)).lawful
  | resume n h =>
    exact (Clean.of_station (n := n) hs (fun hu _ => tested_resumeStation (hu.muted (.inr h))) (by simp) (by simp)).lawful
  | stopStep n =>
    exact (Clean.of_station (n := n) hs (fun hu _ => tested_enterIdle _ _ (hu.calm (calm_endStep n _))) (by simp) (by simp)).lawful
  | stopWarming n | clearFault n =>
    exact (Clean.of_station (n := n) hs (fun hu _ => tested_enterIdle _ _ hu) (by simp) (by simp)).lawful
  | stopIdle n h => exact (Clean.of_station (n := n) hs (fun hu _ => tested_stopIdle h hu) (by simp) (by simp)).lawful
  | finish n o h =>
    exact (Clean.of_station (n := n) hs (fun hu _ => tested_finishStep _ _ (hu.muted (.inl h))) (by simp) (by simp)).lawful
  | adjust n a h =>
    exact (Clean.of_station (n := n) hs (fun hu _ => tested_adjustStation a (hu.muted h)) (by simp) (by simp)).lawful
  | bind n d h w t l => exact (clean_bindStation _ hs).lawful
  | limit n id v =>
    exact (clean_applyLimit id v hs).lawful
  | weighItem n id v => exact (calm_applyWeighItem id v).lawful hs
  | budget w => exact (calm_setBudget w).lawful hs
  | tare n => exact (calm_modWeigh n _).lawful hs
  | retare n => exact ((calm_endOp n _).trans (calm_modWeigh n _)).lawful hs
  | capture n op mass => exact (calm_startCapture op mass).lawful hs
  | snapshot | clearNotices | route | routeDefault => exact aside (fun n => by cases n <;> rfl) rfl
  | enableNotices en => exact (calm_enableNotices en).lawful hs
  | zeroPort p => exact (calm_modPort_entries p (fun _ he => he) Iff.rfl).lawful hs
  | portItem p id v => exact lawful_of_released (released_applyPortItem p id v hs)
  | restartPort p => exact lawful_of_released (released_restartPort p hs)
  | nodeWrite k p limit => exact (clean_nodeWrite k p limit hs).lawful
  | removeNode k i => exact (calm_removeEntry i).lawful hs
  | flushNodes => exact (calm_removeWhere _).lawful hs

/-- The reply to a request, and the end of its place in the queue. -/
theorem calm_answer (r : Request) (a : Answer) : Calm s (leaveQueue (sendReply r a s)) := by
  have hreply : Calm s (sendReply r a s) := calm_originate nofun
  exact hreply.trans (calm_aside (fun n => by cases n <;> rfl) rfl)

theorem calm_pending (l : List Instr) : Calm s { s with pending := l } := calm_aside (fun n => by cases n <;> rfl) rfl

theorem calm_requests (l : List Request) : Calm s { s with requests := l } := calm_aside (fun n => by cases n <;> rfl) rfl

theorem served_lawful (hs : UnlocksSound s) (h : Served s t) : Lawful s t := by
  obtain ⟨r, a, l, u, -, he⟩ := h
  have htaken := calm_requests (s := s) l
  exact ((effect_lawful (unlocksSound_calm hs htaken) he).after_calm htaken).calm (calm_answer r a)

/-! ### Resets and idle steps -/

/-- A part that holds no frame and waits for no unlock obeys the rule, whatever came before. -/
theorem lawful_of_empty (hp : ∀ n, (t.st n).drive.pendingUnlock = false) (he : t.appliance.entries = []) : Lawful s t := by
  refine ⟨fun n h => absurd ((hp n).symm.trans h) Bool.false_ne_true, fun w f hu => ?_⟩
  obtain ⟨-, e, hmem, -⟩ := hu
  rw [he] at hmem
  cases hmem

theorem reset_lawful (h : Reset s t) : Lawful s t := by
  cases h with
  | powerOn own l => exact lawful_of_empty (fun n => by cases n <;> rfl) rfl
  | asserted => exact lawful_of_empty (fun n => by cases n <;> rfl) rfl
  | kept => exact (lawful_of_empty (t := keptState s) (fun n => by cases n <;> rfl) rfl).calm (calm_setNotice _)

theorem calm_tick : Calm s (tick s) := by
  unfold tick
  (repeat' split)
  · exact .refl s
  · exact calm_pending _
  · exact calm_passMs.trans (calm_pending _)

/-! ### The chains of pieces -/

theorem whenLive_lawful {event : State → State} (hs : UnlocksSound s) (h : Lawful s (event s)) : Lawful s (whenLive event s) := by
  unfold whenLive
  split
  · exact (Calm.refl s).lawful hs
  · exact h

theorem wonArbitration_lawful (p : Port) (hs : UnlocksSound s) (h : execWonArbitration p s = .next t) : Lawful s t := by
  unfold execWonArbitration at h
  cases h
  refine whenLive_lawful hs ?_
  dsimp only
  split
  · next e he =>
    have hwon := calm_wonArbitration he
    split
    · exact (hwon.trans (calm_aside (fun n => by cases n <;> rfl) rfl)).lawful hs
    · exact hwon.lawful hs
  · exact (Calm.refl s).lawful hs

theorem reportTimerExpiry_lawful (hs : UnlocksSound s) (h : execReportTimerExpiry n s = .next t) : Lawful s t := by
  unfold execReportTimerExpiry at h
  cases h
  refine whenLive_lawful hs ?_
  have hrestarted : Calm s (s.modSt n (fun st => { st with reportTimer := reportTimerOf st.reportInterval })) :=
    calm_station n _ rfl rfl rfl
  dsimp only
  (repeat' split)
  · exact (hrestarted.trans calm_sendWeightReport).lawful hs
  · exact hrestarted.lawful hs
  · exact (Calm.refl s).lawful hs

/-- A good frame may end an isolation, and then acts (notes/assumptions/9.md). -/
theorem frameArrival_lawful (p : Port) (f : Frame) (hn : NodesSound s) (hd : DriveSound s) (hs : UnlocksSound s)
    (h : execFrameArrival p f s = .next t) : Lawful s t := by
  unfold execFrameArrival at h
  cases h
  refine whenLive_lawful hs ?_
  split
  · exact (Calm.refl s).lawful hs
  · next hh =>
    split
    · exact (calm_receiveErrorAt p _).lawful hs
    · have hmove : Move s (goodFrameAt p s) := .goodFrame p (by simpa using hh)
      obtain ⟨hsound, hreleased⟩ := released_goodFrameAt p hs
      exact permitted_arrive p f (nodesSound_sketch hn (move_sketch hmove)) (fun m => move_driven hn hmove m (hd m)) hsound hreleased

/-! ### The step -/

theorem exec_lawful {c : Instr} (hn : NodesSound s) (hd : DriveSound s) (hs : UnlocksSound s) (h : exec c s = .next t) :
    Lawful s t := by
  obtain ⟨-, hone⟩ | hserved | ⟨-, hreset⟩ := exec_outcome h
  · obtain hseveral | rfl | hmove := hone
    · unfold severalPieces at hseveral
      split at hseveral
      · exact frameArrival_lawful _ _ hn hd hs h
      · exact wonArbitration_lawful _ hs h
      · exact reportTimerExpiry_lawful hs h
      · cases hseveral
    · exact (Calm.refl t).lawful hs
    · exact move_lawful hn hd hs hmove
  · exact served_lawful hs hserved
  · exact reset_lawful hreset

theorem step_lawful (hn : NodesSound s) (hd : DriveSound s) (hs : UnlocksSound s) (h : step s = .next t) : Lawful s t := by
  unfold step at h
  split at h
  · next c l _ =>
    have htaken := calm_pending (s := s) l
    have hmove : Move s { s with pending := l } := .pending l
    exact (exec_lawful (nodesSound_sketch hn (move_sketch hmove)) (fun m => move_driven hn hmove m (hd m))
      (unlocksSound_calm hs htaken) h).after_calm htaken
  · cases h
    exact calm_tick.lawful hs

end

/-- Settles O25: each piece of an event either leaves the interlock alone, or tests it over the blade of its station. -/
theorem unlockOnlyOverAStillBlade : Obligations.UnlockOnlyOverAStillBlade := by
  intro s t hn hd hs h
  obtain ⟨hsound, hpermitted⟩ := step_lawful hn hd hs h
  refine ⟨hsound, fun n e he ho hpay => (hpermitted n e.frame ⟨hpay, e, he, ho, rfl⟩).imp_left ?_⟩
  rintro ⟨-, x, hx, hxo, hxf⟩
  exact ⟨x, hx, hxo.trans ho.symm, hxf⟩

end Sys2Proof.Machine
